-- ==== Sys2Proof/Word.lean ====
section
/-! DEFINITION. The register word and the byte. -/

namespace Sys2Proof

/-- A register is 32 bits wide (R6). -/
abbrev Word := BitVec 32

/-- The smallest addressable unit of memory. -/
abbrev Byte := BitVec 8

end Sys2Proof
end

