-- ==== Sys2Proof/Machine/Bits.lean ====
section
/-! DEFINITION. Bit fields, byte order (R5) and the CRC-8 and CRC-32 that the chapters share. -/

namespace Sys2Proof.Machine

/-- Bits [hi:lo] of a word, as a number. -/
def fld (w : Word) (hi lo : Nat) : Nat := (w.toNat >>> lo) % 2 ^ (hi + 1 - lo)

/-- A word with bits [hi:lo] all one. -/
def fmask (hi lo : Nat) : Word := BitVec.ofNat 32 ((2 ^ (hi + 1 - lo) - 1) <<< lo)

/-- `w` with bits [hi:lo] set to the low bits of `v`. -/
def setFld (w : Word) (hi lo v : Nat) : Word :=
  (w &&& ~~~ fmask hi lo) ||| (BitVec.ofNat 32 (v <<< lo) &&& fmask hi lo)

/-- Bit `i` of a word. -/
def bit (w : Word) (i : Nat) : Bool := w.getLsbD i

/-- `w` with bit `i` set to `b`. -/
def setBit (w : Word) (i : Nat) (b : Bool) : Word := setFld w i i b.toNat

/-- A number as a register word. -/
def wd (n : Nat) : Word := BitVec.ofNat 32 n

/-- The bits of `mask` taken from `v`, the others from `old`. -/
def merge (old v mask : Word) : Word := (old &&& ~~~ mask) ||| (v &&& mask)

/-- A count that stops at `top`. -/
def satAdd (n k top : Nat) : Nat := min (n + k) top

/-- Byte `i` of a number, little-endian (R5). -/
def byteOf (n i : Nat) : Byte := BitVec.ofNat 8 (n >>> (8 * i))

/-- The low `k` bytes of a number, byte 0 first (R5). -/
def leBytes (n k : Nat) : List Byte := (List.range k).map (byteOf n)

/-- The number that bytes spell, byte 0 least significant (R5). -/
def leNat : List Byte → Nat
  | [] => 0
  | b :: bs => b.toNat + 256 * leNat bs

/-- The number that bytes spell, byte 0 most significant. -/
def beNat (bs : List Byte) : Nat := leNat bs.reverse

/-- The low `k` bytes of a number, most significant first. -/
def beBytes (n k : Nat) : List Byte := (leBytes n k).reverse

/-- One byte into the CRC-8 with polynomial 0x07 (R96, R271, R323, R378, R453). -/
def crc8Step (crc b : Byte) : Byte :=
  (List.range 8).foldl (fun c _ => if c.getLsbD 7 then (c <<< 1) ^^^ 0x07#8 else c <<< 1) (crc ^^^ b)

/-- The CRC-8 of a list from the state `c`. The state is looked at after each byte, so that evaluation goes byte by byte. -/
def crc8From (c : Byte) : List Byte → Byte
  | [] => c
  | b :: bs => if crc8Step c b = 0#8 then crc8From 0#8 bs else crc8From (crc8Step c b) bs

/-- The CRC-8 with initial value 0, no reflection and no final XOR. -/
def crc8 (bs : List Byte) : Byte := crc8From 0#8 bs

/-- One byte into the reflected CRC-32 of R546. -/
def crc32Step (crc : Word) (b : Byte) : Word :=
  (List.range 8).foldl
    (fun c _ => if c.getLsbD 0 then (c >>> 1) ^^^ 0xEDB88320#32 else c >>> 1)
    (crc ^^^ b.setWidth 32)

/-- The CRC-32 of a list from the state `c`, before the final inversion; as `crc8From`. -/
def crc32From (c : Word) : List Byte → Word
  | [] => c
  | b :: bs => if crc32Step c b = 0#32 then crc32From 0#32 bs else crc32From (crc32Step c b) bs

/-- The CRC-32 of R546. -/
def crc32 (bs : List Byte) : Word := ~~~ (crc32From 0xFFFFFFFF#32 bs)

/-- A number as a signed value of `w` bits. -/
def signed (w n : Nat) : Int := if 2 * (n % 2 ^ w) < 2 ^ w then (n % 2 ^ w : Nat) else (n % 2 ^ w : Nat) - (2 ^ w : Nat)

/-- A signed value in two's complement of `w` bits. -/
def unsigned (w : Nat) (i : Int) : Nat := (i % (2 ^ w : Nat)).toNat

/-- Whether `k` is a multiple of `n`. -/
def aligned (k n : Nat) : Bool := k % n == 0

/-- Rounding up to a multiple of `n`. -/
def roundUp (k n : Nat) : Nat := (k + n - 1) / n * n

/-- A list cut in pieces of `k`. -/
def chunk (k : Nat) : Nat → List α → List (List α)
  | 0, _ => []
  | _, [] => []
  | fuel + 1, xs => xs.take k :: chunk k fuel (xs.drop k)

end Sys2Proof.Machine
end

