-- ==== Sys2Proof/Syntax.lean ====
section
/-! DEFINITION. The commands the block takes: one constructor of `Instr` for each row of the table of
operations and events (spec/opcode_table.json), with the operands that row needs.
`m` is the master that issues a register access (R47), `v` the value written. -/

namespace Sys2Proof

/-- The masters of R47. -/
inductive Master where
  | belvedere
  | dispatch
  | sequencer (k : Fin 4)
  | gatehouse
  | application (c : Fin 4)
  | xspi
  | channel (c : Fin 32)
deriving DecidableEq, Repr

/-- The masters of R222 that reach memory. -/
inductive Agent where
  | cpu (m : Master)
  | core (n : Fin 16)
  | window
  | isp (n : Fin 2)
  | codec (n : Fin 3)
  | spl
deriving DecidableEq, Repr

/-- One register write as the crossbar sees it: master, register-space address, size in bytes, value. -/
structure BusWrite where
  master : Master
  addr   : Nat
  size   : Nat
  value  : Word
deriving DecidableEq, Repr

/-- One register read of the cycle. -/
structure BusRead where
  master : Master
  addr   : Nat
  size   : Nat
deriving DecidableEq, Repr

/-- What the register crossbar sees in one SoC cycle: the writes to registers without a row of their own (R57, R71), and the
reads, which are served after them (R76). -/
structure BusCycle where
  writes : List BusWrite
  reads  : List BusRead
deriving DecidableEq, Repr

/-- An access that a timeout ends: a write or a read, and the words of the xSPI command that meets it (R46, R98). -/
structure LateAccess where
  write : Bool
  len   : Nat
deriving DecidableEq, Repr

/-- A DRAM request waiting at a port of the controller (R240, R242); `chan` is the channel whose request it is on port
P0 (R241). -/
structure DdrReq where
  port  : Fin 9
  chan  : Fin 32
  addr  : Nat
  cls   : Fin 4
  data  : Option (List Byte)
  aged  : Bool
deriving DecidableEq, Repr

/-- The forms of MEMORY_ACCESS. -/
inductive MemAccess where
  /-- A load of `size` bytes. -/
  | load (g : Agent) (addr size : Nat)
  /-- A store. -/
  | store (g : Agent) (addr : Nat) (data : List Byte)
  /-- The next word of the running xSPI window: a prefetch (R106) or the oldest word of the write FIFO (R122). -/
  | window
  /-- `count` further elements of the active descriptor of an XFE channel (R331). -/
  | elements (c : Fin 32) (count : Nat)
  /-- A DRAM request joins the controller's queue (R241, R243). -/
  | request (r : DdrReq)
  /-- A channel of the controller serves its next request (R242). -/
  | serve (ch : Fin 2)
deriving DecidableEq, Repr

/-- An access error of an XFE channel (R340): the failing attempts of the access, the first one included (R343); whether
it is a write (R347); and, where it stops the prefetch group, the elements that each member still writes (R346). -/
structure AccErr where
  fails : Nat
  write : Bool
  held  : List (Fin 32 × Nat)
deriving DecidableEq, Repr

/-- An access error on the prefetched line at `addr` (R346); `held` as in `AccErr`. -/
structure LineError where
  addr : Nat
  held : List (Fin 32 × Nat)
deriving DecidableEq, Repr

/-- What an enable check runs for: a page (R58) or contexts or streams that it holds (R746, R782), an XFE channel (R361),
a ring (R399), a sample stream (R822). -/
inductive CheckUnit where
  | page (n : Nat)
  | channel (c : Fin 32)
  | ring (q : Fin 128)
  | stream (i : Fin 16)
deriving DecidableEq, Repr

/-- How a DRAM training ends (R231, R232). -/
inductive TrainEnd where
  | done
  | failed (step : Fin 6) (chan : Fin 2)
deriving DecidableEq, Repr

/-- Why an xSPI window access failed (R107). -/
inductive WinFail where
  | busError
  | denied
  | timeout
deriving DecidableEq, Repr

/-- What a reset meets on the board: the HOST_SEL level (R86), new flash contents where the board was off (R882), and
whether a flash read fails once (R932). -/
structure Boot where
  hostSel  : Bool
  flash    : Option (List (Nat × Byte))
  readFail : Bool
deriving DecidableEq, Repr

/-- A residue that the array's datapath gives (R484): where the checked quantity stands, and the residue observed there.
`acc` names the accumulator after the chunk; otherwise `elem` is the element of the chunk whose block or product it is. -/
structure ArrayFault where
  pass     : Nat
  chunk    : Nat
  row      : Nat
  col      : Nat
  elem     : Nat
  acc      : Bool
  observed : Fin 7
deriving DecidableEq, Repr

/-- A residue that a vector lane gives (R529, R531): stage, step from the chain's start, lane. -/
structure LaneFault where
  stage    : Nat
  step     : Nat
  lane     : Nat
  observed : Fin 7
deriving DecidableEq, Repr

/-- A long packet as the port receives it (R722-R727). -/
structure LongPacket where
  vc    : Nat
  dt    : Nat
  wc    : Nat
  data  : List Byte
  crcOk : Bool
  /-- A single-bit error of its header was corrected (R725). -/
  fixed : Bool
  /-- The receive buffer cannot hold it (R735). -/
  excess : Bool
deriving DecidableEq, Repr

/-- A run of damaged units (R766, R768): first unit, units, cause. -/
structure DmgRun where
  first  : Nat
  units  : Nat
  cause  : Nat
deriving DecidableEq, Repr

/-- What the decoder makes of one access unit, by the standards of R757. -/
structure PictureOut where
  /-- An IDR, or in HEVC an IDR, CRA or BLA picture (R764). -/
  irap   : Bool
  /-- A RASL picture of the CRA that ended WAIT_IRAP (R764). -/
  rasl   : Bool
  /-- Outside R757. -/
  unsup  : Bool
  /-- Decoded-picture buffers its active SPS requires (R762). -/
  need   : Nat
  width  : Nat
  height : Nat
  /-- A Main 10 stream (R765). -/
  ten    : Bool
  /-- It stays a reference. -/
  ref    : Bool
  /-- Pictures, by DECODE_NO, that are no reference any more. -/
  drop   : List Nat
  /-- Pictures, by DECODE_NO, that the output process puts out now, in order. -/
  output : List Nat
  unitLog2 : Nat
  poc    : Int
  runs   : List DmgRun
deriving DecidableEq, Repr

/-- What the encoder makes of one frame (R770, R773, R774). -/
structure UnitOut where
  /-- Bytes of the picture as coded first. -/
  size   : Nat
  /-- It would overflow the CPB or the rate window, in modes 1 and 2 (R773). -/
  excess : Bool
  /-- The unit as written: that picture, its skip picture or its second encoding. -/
  data   : List Byte
  qp     : Nat
deriving DecidableEq, Repr

/-- What the JPEG block makes of one job (R775-R779). -/
structure JpegOut where
  unsup  : Bool
  width  : Nat
  height : Nat
  fmt    : Nat
  /-- Decode: MCUs of a restart interval as DRI gives them, 0 without DRI. -/
  ri     : Nat
  /-- Decode: the damaged intervals in rising order, each with the number in it of the MCU that failed. -/
  bad    : List (Nat × Nat)
  /-- Encode: quantised coefficients, blocks in MCU order, each in zig-zag order. -/
  coef   : List (List Int)
deriving DecidableEq, Repr

/-- A reassembled message of the management network: its sender's endpoint ID, and the command's data after the header
of its message type (R917, R918, R924); for REQUEST_FIRMWARE_DATA and ERROR_REPORT the data of the response. -/
structure Mctp where
  src  : Nat
  body : List Byte
deriving DecidableEq, Repr

/-- The commands. -/
inductive Instr where
  -- 02: register pages, locks, host, xSPI port
  | registerWrite (x : BusCycle)
  | enable (m : Master) (page : Nat)
  | enableCheckDone (x : CheckUnit)
  | disable (m : Master) (page : Nat)
  | softRst (m : Master) (page : Nat) (v : Word)
  | softRstDone (page : Nat)
  | heldWriteApply (page : Nat)
  | ownerWrite (m : Master) (page : Nat) (v : Word)
  | lockKey (m : Master) (page : Nat) (v : Word)
  | busTimeout (m : Master) (addr : Nat) (x : LateAccess)
  | pageParityError (m : Master) (addr : Nat)
  | acquire (m : Master) (n : Fin 64)
  | release (m : Master) (n : Fin 64)
  | ack (m : Master) (n : Fin 64)
  | hostDomainWrite (m : Master) (v : Word)
  /-- `late`: the access did not complete within LAT (R98, R99). -/
  | regRead (addr : Word) (len : Nat) (late : Bool)
  /-- `crc` and `ncrc` are the trailer byte and its complement as received (R96). -/
  | regWrite (addr : Word) (len : Nat) (data : List Word) (crc ncrc : Byte)
  | winRead (len : Nat)
  | winWrite (len : Nat) (data : List Word)
  | statusRead
  | idRead
  | modeOctal
  | resetEnable
  | reset
  /-- A command the port ignores: opcode and its complement as received, LEN and its complement (R91, R93). -/
  | xspiUnknownOpcode (op nop len nlen : Byte)
  | windowStart (m : Master) (v : Word)
  | windowStop (m : Master) (v : Word)
  | hpWinDataWrite (m : Master) (v : Word)
  | hpWinDataRead (m : Master)
  | windowAccessFail (why : WinFail)
  | windowCountDone
  -- 03: device time
  | aoTick
  | fineStrobe
  | synthesisedTick
  | timeDtLoRead (m : Master)
  | timeDtHiRead (m : Master)
  | cmpLoWrite (m : Master) (n : Fin 8) (v : Word)
  | cmpHiWrite (m : Master) (n : Fin 8) (v : Word)
  | cmpCtrlWrite (m : Master) (n : Fin 8) (v : Word)
  | cmpPeriodWrite (m : Master) (n : Fin 8) (v : Word)
  | comparatorFire (n : Fin 8)
  | cmpStatRead (m : Master) (n : Fin 8)
  -- 04: supplies, clocks, sleep
  | railGood (r : Fin 11)
  | railLost (r : Fin 11)
  | vddAoGood
  | aoPorRelease
  | mainResetRelease (boot : Boot)
  | systemReset (boot : Boot)
  | pwrSysrst (m : Master) (v : Word) (boot : Boot)
  /-- `app` selects PWR_APP_OP, else PWR_NPU_OP. -/
  | operatingPointChange (m : Master) (app : Bool) (v : Word)
  | npuClockSwitch
  | opRaiseTimeout (app : Bool)
  | appOpSwitch
  | pllLock (p : Fin 6)
  | pllLockFail (p : Fin 6)
  | pllStop (p : Fin 6)
  | clkSet (m : Master) (hi : Bool) (v : Word)
  | clkClr (m : Master) (hi : Bool) (v : Word)
  | go (m : Master) (v : Word)
  | sleepDrainDone
  | drainTimeout
  | sleepReached
  | wakeEvent
  /-- `recordBad`: the DRAM retention record fails its check (R235). `readFail`: a flash read fails once, when the Boot
  ROM leaves its fast path (R235, R894). -/
  | wakeSequenceStart (recordBad readFail : Bool)
  | runReady
  | governorTick
  | thermalTrip (sensor : Fin 12)
  | tripClear (m : Master) (v : Word)
  | thermalShutdown (sensor : Fin 12)
  -- 05: address map, DRAM
  | decodeMiss (g : Agent) (addr : Nat) (write : Bool)
  | firewallDeny (g : Agent) (addr : Nat) (write : Bool)
  | trainingStart (m : Master) (v : Word)
  | trainingEnd (e : TrainEnd)
  | trackingRun (ch : Fin 2) (inside : Bool)
  | refresh (ch : Fin 2)
  | mr4Read (code : Fin 8)
  | powerDownEntry (ch : Fin 2)
  /-- The `i`-th waiting DRAM request has waited its age limit (R244). -/
  | agePromotion (i : Nat)
  -- 06: Orangery
  | orangeryOutOfRange (g : Agent) (off : Nat) (write : Bool)
  | modelCacheProtect (g : Agent) (off : Nat)
  /-- The narrow request that has waited stands at offset `off` of the Orangery (R261, R267). -/
  | narrowForce (off : Nat)
  | stLoad (m : Master) (v : Word)
  | stStore (m : Master) (v : Word)
  | stInval (m : Master) (v : Word)
  | ccClaim (m : Master) (c : Fin 4) (v : Word)
  | ccGo (m : Master) (c : Fin 4) (v : Word)
  | ccCancel (m : Master) (c : Fin 4) (v : Word)
  | ccJobStart
  | ccJobDone (c : Fin 4)
  -- 07: transfer engine
  | descriptorFetch (c : Fin 32)
  | descriptorComplete (c : Fin 32)
  | accessNoResponse (c : Fin 32) (e : AccErr)
  | accessError (c : Fin 32) (e : AccErr)
  | progressTimeout (c : Fin 32) (e : AccErr)
  | prefetchError (x : LineError)
  | pfgResume (m : Master) (v : Word)
  | channelEnable (m : Master) (c : Fin 32) (v : Word)
  | pause (m : Master) (c : Fin 32) (v : Word)
  /-- `count` further elements were issued before the pause and have landed (R350). -/
  | pauseDrained (c : Fin 32) (count : Nat)
  | xcResume (m : Master) (c : Fin 32) (v : Word)
  | xcDisable (m : Master) (c : Fin 32) (v : Word)
  | skip (m : Master) (c : Fin 32) (v : Word)
  -- 08: rings
  | tailWrite (m : Master) (q : Fin 128) (v : Word)
  | headWrite (m : Master) (q : Fin 128) (v : Word)
  | coalesceTimeout (q : Fin 128)
  | badEntryReport (m : Master) (q : Fin 128) (v : Word)
  | ringEnable (m : Master) (q : Fin 128) (v : Word)
  | ringDisable (m : Master) (q : Fin 128) (v : Word)
  -- 10, 11, 13: neural instructions of core `n`
  /-- `faults` are the residues of the datapath that differ from what an undisturbed array gives. -/
  | matmul (n : Fin 16) (faults : List ArrayFault)
  /-- `faults` are the residues of the lanes that differ; on a core of a collective the VCHAIN is its program's. -/
  | vchain (n : Fin 16) (faults : List LaneFault)
  | slotLd (n : Fin 16)
  | slotSt (n : Fin 16)
  | haloSend (n : Fin 16)
  | haloRecv (n : Fin 16)
  /-- The SEND at the head of core `n`'s link unit meets its partner's RECV (R604). -/
  | haloRendezvous (n : Fin 16)
  | sync (n : Fin 16)
  | commit (n : Fin 16)
  | illegalInstruction (n : Fin 16)
  | imemCheckFail (n : Fin 16)
  | ncImAddrWrite (m : Master) (n : Fin 16) (v : Word)
  /-- A write of `v`, or a read. -/
  | ncImDataAccess (m : Master) (n : Fin 16) (v : Option Word)
  | ncInjArm (m : Master) (n : Fin 16) (v : Word)
  | ncVtAddrWrite (m : Master) (n : Fin 16) (v : Word)
  | ncVtDataAccess (m : Master) (n : Fin 16) (v : Option Word)
  -- 12: images, commands, commit
  | imageLoad (m : Master) (v : Word)
  | loadReport
  | unload (m : Master) (v : Word)
  /-- `clock`: the step clock, in NPU cycles (R564). -/
  | commandStart (k : Fin 4) (clock : Nat)
  /-- The group of the command that waits on cluster `k`. -/
  | collectiveStart (k : Fin 4) (clock : Nat)
  /-- `cycles`: SoC cycles from commit start to publish (R586). -/
  | publish (k : Fin 4) (cycles : Nat)
  | commitOverrun (k : Fin 4)
  | bodyTimeout (k : Fin 4)
  /-- A kill cause of R574 with the code of its error record. -/
  | commandKill (k : Fin 4) (cause : Fin 32) (code : Nat)
  | killComplete (k : Fin 4)
  | preempt (m : Master) (k : Fin 4) (v : Word)
  | abort (m : Master) (k : Fin 4) (v : Word)
  | stepClose (k : Fin 4)
  -- 14: scheduler
  | schedulerDecision
  | boundaryPreempt (k : Fin 4)
  | attach (m : Master) (v : Word)
  | detach (m : Master) (v : Word)
  | heartbeat (m : Master) (v : Word)
  | orphan
  | orphanAbandon
  | quiesceRequest (m : Master) (v : Word)
  | quiesced
  | quiesceEnd (m : Master) (v : Word)
  | loopEnable (m : Master) (l : Fin 16) (v : Word)
  | loopDisable (m : Master) (l : Fin 16) (v : Word)
  -- 15: camera
  /-- `fixed`: a single-bit error of the header was corrected (R725). -/
  | frameStart (p : Fin 4) (vc : Fin 16) (num : Nat) (fixed : Bool)
  | frameEnd (p : Fin 4) (vc : Fin 16) (num : Nat) (fixed : Bool)
  | longPacket (p : Fin 4) (pk : LongPacket)
  | headerUncorrectable (p : Fin 4)
  | frameTimeout (p : Fin 4) (c : Fin 4)
  | framePublish (p : Fin 4) (c : Fin 4)
  | contextEnable (m : Master) (p : Fin 4) (c : Fin 4) (v : Word)
  | contextDisable (m : Master) (p : Fin 4) (c : Fin 4) (v : Word)
  -- 16: codecs
  /-- `units`: pictures whose first slice starts in the chunk (R761). `part`: what concealment makes of a partially
  decoded picture, for a DISCONT chunk (R785). -/
  | bitstreamChunk (units : Nat) (part : Option PictureOut)
  | pictureDecode (s : Fin 4) (o : PictureOut)
  | decodedFramePublish (s : Fin 4)
  | vdecStreamEnable (m : Master) (s : Fin 4) (v : Word)
  | vdecStreamDisable (m : Master) (s : Fin 4) (v : Word)
  | sourceFrame
  | encodedUnit (u : UnitOut)
  | jpegJob
  | jpegJobDone (o : JpegOut)
  -- 17: sample pipeline
  | sampleTake (s : Fin 16)
  | sampleComplete (s : Fin 16)
  | batchTimeout (s : Fin 16)
  | batchPublish (s : Fin 16)
  | dropRecordPublish (s : Fin 16)
  | dropRunTimeout (s : Fin 16)
  | splStreamEnable (m : Master) (s : Fin 16) (v : Word)
  | splStreamDisable (m : Master) (s : Fin 16) (v : Word)
  -- 18: Gatehouse
  | kwsHop
  | kwsEnable (m : Master) (v : Word)
  | kwsDisable (m : Master) (v : Word)
  | fwWake (m : Master) (v : Word)
  | gpioWakeEdge (i : Fin 8) (rising : Bool)
  | alarmArm (m : Master) (v : Word)
  | wakeAlarm
  | wakeReasonRecord
  | linkMessage (toMain : Bool) (intact : Bool)
  | linkTransferTimeout (toMain : Bool)
  /-- `toMain`: the end it concerns is the main end. -/
  | linkToken (toMain : Bool)
  | linkTokenPeriod (toMain : Bool)
  | linkResetAttempt
  | linkAttemptEnd (ok : Bool)
  | gtLinkReset (m : Master) (v : Word)
  | mqAppend (m : Master) (v : Word)
  | mqHeadWrite (m : Master) (v : Word)
  | gatehouseCoreReset (m : Master) (v : Word)
  | protectedSramWrite (g : Agent) (addr : Nat)
  /-- The poll of a slot: the bytes read, none when the target does not answer after its retry (R865, R866). -/
  | aoi3cPoll (slot : Fin 8) (data : Option (List Byte))
  | aoi3cIbi (slot : Fin 8)
  | aiCmd (m : Master) (v : Word) (reply : Option (List Byte))
  -- 19: firmware and management
  | sensorSample (temps : List Int) (mvs : List Nat)
  | watchdogKick (m : Master) (v : Word)
  | watchdogExpiry (c : Fin 6) (pair : Fin 4)
  | fwReady (m : Master) (v : Word)
  | fwSelWrite (m : Master) (v : Word)
  | getFw (p : Fin 4)
  | getDigest (p : Fin 4)
  | getSensors (p : Fin 4)
  | getLog (p : Fin 4)
  | sleep (p : Fin 4)
  | unknownCmd (p : Fin 4)
  | setEndpointId (msg : Mctp)
  | getEndpointId (msg : Mctp)
  | getEndpointUuid (msg : Mctp)
  | getMctpVersionSupport (msg : Mctp)
  | getMessageTypeSupport (msg : Mctp)
  | getVendorDefinedMessageSupport (msg : Mctp)
  | getTid (msg : Mctp)
  | setTid (msg : Mctp)
  | getPldmVersion (msg : Mctp)
  | getPldmTypes (msg : Mctp)
  | getPldmCommands (msg : Mctp)
  | setEventReceiver (msg : Mctp)
  | getSensorReading (msg : Mctp)
  | setNumericSensorEnable (msg : Mctp)
  | getPdrRepositoryInfo (msg : Mctp)
  | getPdr (msg : Mctp)
  | queryDeviceIdentifiers (msg : Mctp)
  | getFirmwareParameters (msg : Mctp)
  | requestUpdate (msg : Mctp)
  | passComponentTable (msg : Mctp)
  | updateComponent (msg : Mctp)
  | requestFirmwareData (msg : Mctp)
  | activateFirmware (msg : Mctp)
  | getStatus (msg : Mctp)
  | cancelUpdateComponent (msg : Mctp)
  | cancelUpdate (msg : Mctp)
  | updateTimeout
  | errorReport (msg : Mctp)
  | errorReportResend
  | vdmGetLog (msg : Mctp)
  | getFwState (msg : Mctp)
  | vdmGetDigest (msg : Mctp)
  | getPolicy (msg : Mctp)
  | setPolicy (msg : Mctp)
  | restart (msg : Mctp) (boot : Boot)
  -- 20: checking
  | outputDivergence (pair : Fin 6) (group : Fin 3) (main chk : Word)
  | scrubPoint (pair : Fin 6) (diff : Option (Fin 41 × Word × Word))
  | errorRecordEntry
  | mirrorEntry
  | pop (m : Master) (v : Word)
  | raiseGo (m : Master) (v : Word)
  | errInjArm (m : Master) (v : Word)
  | injectionFire
  | controlMemoryParity (g : Agent) (addr : Nat)
  -- 21: pins
  | gpOutWrite (m : Master) (hi : Bool) (v : Word)
  | gpOeWrite (m : Master) (hi : Bool) (v : Word)
  | gpSet (m : Master) (hi : Bool) (v : Word)
  | gpClr (m : Master) (hi : Bool) (v : Word)
  | glOwnWrite (m : Master) (k : Fin 6) (v : Word)
  | glKey (m : Master) (v : Word)
  | glLock (m : Master) (hi : Bool) (v : Word)
  | pmPinWrite (m : Master) (n : Fin 48) (v : Word)
  /-- The synchronised level of pin `n` becomes `level`. -/
  | pinEvent (n : Fin 48) (level : Bool)
  | gpHoldRelease (m : Master) (hi : Bool) (v : Word)
  | tcapEdge (n : Fin 8) (rising : Bool)
  | tcapLoRead (m : Master) (n : Fin 8)
  /-- PWM0-3 are 0-3, AO_PWM0-1 are 4-5. -/
  | pwmPeriod (n : Fin 6)
  -- 22: application cluster
  /-- `dirty`: lines the caches held dirty (R1046). -/
  | clusterReset (m : Master) (v : Word) (dirty : Nat)
  | coreRun (m : Master) (c : Fin 4) (v : Word)
  | mtcmpWrite (m : Master) (c : Fin 4) (hi : Bool) (v : Word)
  | machineTimer (c : Fin 4)
  | uartTxPush (m : Master) (v : Word)
  | uartRxPop (m : Master)
  | uartRxByte (ch : Byte) (frameErr parityErr brk : Bool)
  | uartRxTimeout
  | i2cCmd (m : Master) (x : Fin 2) (v : Word)
  | i2sUnderrun
  -- 23: TAP
  | extest
  | samplePreload (load : Nat)
  | idcode
  | clamp
  | highz
  | bypass (code : Fin 32)
  | tapReset
  -- register reads, memory accesses and events
  | registerRead (m : Master) (addr size : Nat)
  | memoryAccess (a : MemAccess)
  | dphySotError (p : Fin 4) (lane : Fin 4)
  | deskewSequence (p : Fin 4)
  | ulpsEntry (p : Fin 4)
  | ulpsExit (p : Fin 4)
  | genericShortPacket (p : Fin 4) (vc : Fin 16) (dt : Fin 64)
  | audioFrame (ch0 ch1 : List Bool)
  | dynamicAddressAssign (addr : Fin 128) (i3c : Bool)
  | mctpPacketDrop
  | uartTxByteSent
  | i2cByteComplete (x : Fin 2) (nack arbLost : Bool) (data : Option Byte)
  | i2sFrame
deriving DecidableEq, Repr

end Sys2Proof
end

