-- ==== Sys2Proof/Decode.lean ====
section
/-! DEFINITION. The command a word spells. The table of operations and events gives no row any bits, so no word
spells a command. The one encoding the spec gives is that of the xSPI commands (R91-R96): `portFrame` reads it. -/

namespace Sys2Proof

/-- The command that a word of the table spells: none, for the table gives no bits. -/
def decodeTableWord (_nbits _w : Nat) : Option Instr := none

namespace Machine

/-- The xSPI commands (R92). -/
inductive PortOp where
  | regRead | regWrite | winRead | winWrite | statusRead | idRead | modeOctal | resetEnable | reset
deriving DecidableEq, Repr

/-- The opcodes (R92). -/
def portOps : List (Nat × PortOp) :=
  [(0x31, .regRead), (0x32, .regWrite), (0x41, .winRead), (0x42, .winWrite), (0x05, .statusRead), (0x9F, .idRead),
   (0xE8, .modeOctal), (0x66, .resetEnable), (0x99, .reset)]

/-- The command of an opcode; none for an unlisted one. -/
def portOp (code : Nat) : Option PortOp := (portOps.find? (fun p => p.1 == code)).map (·.2)

/-- The command carries a LEN. -/
def PortOp.hasLen (o : PortOp) : Bool := o == .regRead || o == .regWrite || o == .winRead || o == .winWrite

/-- LEN is bad (R93). -/
def lenBad (len : Nat) : Bool := len == 0 || decide (64 < len)

/-- The word of four bytes, least significant first (R95). -/
def frameWord (bs : List Byte) : Word := BitVec.ofNat 32 (leNat bs)

/-- LEN words of data (R95). -/
def frameData (len : Nat) (bs : List Byte) : List Word := (chunk 4 len (bs.take (4 * len))).map frameWord

/-- The bytes after the opcode of a command that carries LEN: LEN and its complement come first, or after the address. -/
def frameLen (o : PortOp) (bs : List Byte) : Byte × Byte :=
  let r := if o = .regRead ∨ o = .regWrite then bs.drop 4 else bs
  (r.getD 0 0, r.getD 1 0)

/-- A frame with a LEN that is good; `late` is no part of it: whether the access misses LAT (R98). -/
def frameOf (o : PortOp) (late : Bool) (bs : List Byte) : Instr :=
  let addr := BitVec.ofNat 32 (beNat (bs.take 4))
  let len := (frameLen o bs).1.toNat
  match o with
  | .regRead => .regRead addr len late
  | .regWrite =>
    let d := bs.drop 6
    .regWrite addr len (frameData len d) (d.getD (4 * len) 0) (d.getD (4 * len + 1) 0)
  | .winRead => .winRead len
  | .winWrite => .winWrite len (frameData len (bs.drop 2))
  | .statusRead => .statusRead
  | .idRead => .idRead
  | .modeOctal => .modeOctal
  | .resetEnable => .resetEnable
  | .reset => .reset

/-- The command that a frame on the port is (R91-R96): opcode, in 8D-8D-8D mode its complement, then what R92 has. -/
def portFrame (octal late : Bool) (bs : List Byte) : Option Instr :=
  match bs with
  | [] => none
  | op :: rest =>
    let nop := if octal then rest.getD 0 0 else ~~~op
    let body := if octal then rest.drop 1 else rest
    match portOp op.toNat with
    | none => some (.xspiUnknownOpcode op nop 1 0xFE)
    | some o =>
      if nop ≠ ~~~op then some (.xspiUnknownOpcode op nop 1 0xFE)
      else if !o.hasLen then some (frameOf o late body)
      else
        let l := frameLen o body
        if l.2 ≠ ~~~l.1 ∨ lenBad l.1.toNat = true then some (.xspiUnknownOpcode op nop l.1 l.2)
        else some (frameOf o late body)

end Machine

end Sys2Proof
end

