-- ==== Sys2Proof/Config.lean ====
section
/-! DEFINITION. What an implementation fixes and what the spec leaves open: the free values.
Each free value is an opaque constant without a body; `seq` (State.seq) tells two uses apart (log entry 5). -/

namespace Sys2Proof.Config

/-- The value a read of an undefined byte returns (R11); log entry 6. -/
opaque freeByte : Nat → Nat → Byte

/-- The value a read of an undefined register or port returns (R11); log entry 5. -/
opaque freeWord : Nat → Nat → Word

/-- An undefined 128-bit instruction word (R491), 64-bit stage word or key; log entry 5. -/
opaque freeWide : Nat → Nat → BitVec 128

/-- A yes or no the spec leaves to the implementation; log entry 5. -/
opaque freeBool : Nat → Nat → Bool

/-- A natural number the spec leaves open; log entry 5. -/
opaque freeNat : Nat → Nat → Nat

/-- The enterprise number of BELV_IANA, "fixed" and not given (R933); log entry 5. -/
opaque iana : Word

/-- The 48-bit provisional ID of MI_PID, "fixed" and not given (R933); log entry 5. -/
opaque midProvisional : BitVec 48

/-- The endpoint UUID of R917, not given; log entry 5. -/
opaque uuid : BitVec 128

/-- The fused key hash of a root key slot (R889), set in manufacture; log entry 5. -/
opaque keyHash : Nat → BitVec 384

/-- The fused revocation bits of FW_KEYREV (R889, R929); log entry 5. -/
opaque keyRevoked : BitVec 4

/-- A version of an MCTP message type (R917), not given; log entry 5. -/
opaque mctpVersion : Nat → Word

/-- A version of a PLDM type (R918), not given; log entry 5. -/
opaque pldmVersion : Nat → Word

/-- The error code of the record of a lost rail (R164), not given; log entry 5. -/
opaque railLostCode : Nat

/-- The version of the Boot ROM, not given; log entry 5. -/
opaque romVersion : Word

end Sys2Proof.Config
end

