-- ==== Sys2Proof/Machine/Map.lean ====
section
/-! DEFINITION. Sparse maps from numbers to values: lists of pairs with strictly rising keys. -/

namespace Sys2Proof.Machine

/-- A sparse map. An absent key has the value its user names. -/
abbrev SMap (α : Type) := List (Nat × α)

/-- The entry at a key. -/
def SMap.get? (l : SMap α) (k : Nat) : Option α := (l.find? (fun p => p.1 == k)).map (·.2)

/-- The map without a key. -/
def SMap.del (l : SMap α) (k : Nat) : SMap α := l.filter (fun p => p.1 != k)

/-- The map with `k` mapped to `v`; rising keys stay rising. -/
def SMap.put : SMap α → Nat → α → SMap α
  | [], k, v => [(k, v)]
  | (k', v') :: l, k, v =>
    if k < k' then (k, v) :: (k', v') :: l
    else if k = k' then (k, v) :: l
    else (k', v') :: SMap.put l k v

/-- Strictly rising keys. -/
def SMap.sorted : SMap α → Bool
  | [] => true
  | [_] => true
  | (a, _) :: (b, y) :: l => decide (a < b) && SMap.sorted ((b, y) :: l)

/-- The map without the keys in [lo, lo + n). -/
def SMap.clear (l : SMap α) (lo n : Nat) : SMap α := l.filter (fun p => !(decide (lo ≤ p.1) && decide (p.1 < lo + n)))

end Sys2Proof.Machine
end

