-- ==== Sys2Proof/Machine/Pages.lean ====
section
/-! DEFINITION. The register pages (R224), their header reset values, rails (R42, R162), clock domains
(R183) and enable rules. -/

namespace Sys2Proof.Machine

/-- A block with a register page (R224). -/
inductive Blk where
  | sys | pwr | clk | time | lock | hport | err | fw
  | ring (k : Nat)
  | xfe
  | xch (k : Nat)
  | ora | cc | st
  | nc (n : Nat)
  | csq (c : Nat)
  | disp | ddrc | ddrphy
  | csi (p : Nat)
  | isp (n : Nat)
  | vdec | venc | jpeg | spl | spls | gate | kws | aoi | gpio | gown | pmux | belv | mi3c | sens | appc
deriving DecidableEq, Repr

/-- The page number of a block, page 0 being at 0x4000_0000 (R224). -/
def Blk.pg : Blk → Nat
  | .sys => 0 | .pwr => 1 | .clk => 2 | .time => 3 | .lock => 4 | .hport => 5 | .err => 6 | .fw => 7
  | .ring k => 0x10 + k
  | .xfe => 0x20
  | .xch k => 0x21 + k
  | .ora => 0x30 | .cc => 0x31 | .st => 0x32
  | .nc n => 0x40 + n
  | .csq c => 0x50 + c
  | .disp => 0x58 | .ddrc => 0x60 | .ddrphy => 0x61
  | .csi p => 0x70 + p
  | .isp n => 0x78 + n
  | .vdec => 0x80 | .venc => 0x81 | .jpeg => 0x82 | .spl => 0x90 | .spls => 0x91
  | .gate => 0xA0 | .kws => 0xA1 | .aoi => 0xA2 | .gpio => 0xB0 | .gown => 0xB1 | .pmux => 0xB2
  | .belv => 0xC0 | .mi3c => 0xC1 | .sens => 0xC2 | .appc => 0xD0

/-- The block of a page number; none where R224 assigns no page (R221). -/
def blkOfPage (p : Nat) : Option Blk :=
  match p with
  | 0 => some .sys | 1 => some .pwr | 2 => some .clk | 3 => some .time | 4 => some .lock
  | 5 => some .hport | 6 => some .err | 7 => some .fw
  | 0x20 => some .xfe | 0x30 => some .ora | 0x31 => some .cc | 0x32 => some .st
  | 0x58 => some .disp | 0x60 => some .ddrc | 0x61 => some .ddrphy
  | 0x80 => some .vdec | 0x81 => some .venc | 0x82 => some .jpeg | 0x90 => some .spl | 0x91 => some .spls
  | 0xA0 => some .gate | 0xA1 => some .kws | 0xA2 => some .aoi | 0xB0 => some .gpio | 0xB1 => some .gown
  | 0xB2 => some .pmux | 0xC0 => some .belv | 0xC1 => some .mi3c | 0xC2 => some .sens | 0xD0 => some .appc
  | p =>
    if 0x10 ≤ p ∧ p < 0x18 then some (.ring (p - 0x10))
    else if 0x21 ≤ p ∧ p < 0x29 then some (.xch (p - 0x21))
    else if 0x40 ≤ p ∧ p < 0x50 then some (.nc (p - 0x40))
    else if 0x50 ≤ p ∧ p < 0x54 then some (.csq (p - 0x50))
    else if 0x70 ≤ p ∧ p < 0x74 then some (.csi (p - 0x70))
    else if 0x78 ≤ p ∧ p < 0x7A then some (.isp (p - 0x78))
    else none

/-- The first address of the register space. -/
def regBase : Nat := 0x40000000

/-- The address of a block's register. -/
def Blk.at (b : Blk) (off : Nat) : Nat := regBase + b.pg * 0x1000 + off

/-- The register space of R41. -/
def inRegSpace (addr : Nat) : Bool := decide (regBase ≤ addr) && decide (addr < 0x41000000)

/-- The block that a register-space address belongs to. -/
def blkOf (addr : Nat) : Option Blk :=
  if inRegSpace addr then blkOfPage ((addr - regBase) / 0x1000) else none

/-- The offset of an address in its page. -/
def pageOff (addr : Nat) : Nat := addr % 0x1000

/-- The byte offset in its page of the register an access falls in: registers are words. -/
def regOff (addr : Nat) : Nat := pageOff addr - pageOff addr % 4

/-- All pages, in the order of their addresses. -/
def allBlks : List Blk := (List.range 0x100).filterMap blkOfPage

/-- PG_ID.TYPE (R224). -/
def Blk.type : Blk → Nat
  | .sys => 0x01 | .pwr => 0x02 | .clk => 0x03 | .time => 0x04 | .lock => 0x05 | .hport => 0x06
  | .err => 0x07 | .fw => 0x08
  | .ring _ => 0x10
  | .xfe => 0x11
  | .xch _ => 0x11
  | .ora => 0x12 | .cc => 0x12 | .st => 0x12
  | .nc _ => 0x20
  | .csq _ => 0x21
  | .disp => 0x22 | .ddrc => 0x30 | .ddrphy => 0x30
  | .csi _ => 0x40
  | .isp _ => 0x41
  | .vdec => 0x48 | .venc => 0x49 | .jpeg => 0x4A | .spl => 0x50 | .spls => 0x50
  | .gate => 0x60 | .kws => 0x61 | .aoi => 0x62 | .gpio => 0x70 | .gown => 0x70 | .pmux => 0x71
  | .belv => 0x80 | .mi3c => 0x81 | .sens => 0x82 | .appc => 0x90

/-- PG_ID.INSTANCE (R224 and the page's chapter). -/
def Blk.inst : Blk → Nat
  | .ring k => k
  | .xch k => k + 1
  | .cc => 1
  | .st => 2
  | .nc n => n
  | .csq c => c
  | .ddrphy => 1
  | .csi p => p
  | .isp n => n
  | .spls => 1
  | .gown => 1
  | _ => 0

/-- The UNIT field of a block's error records (R959). -/
def Blk.unit (b : Blk) : Nat := b.type * 256 + b.inst

/-- Domain codes of R47; 0 is NONE. -/
def domSec : Nat := 1
/-- MGMT. -/
def domMgmt : Nat := 2
/-- GATE. -/
def domGate : Nat := 3
/-- SCHED. -/
def domSched : Nat := 4
/-- APP. -/
def domApp : Nat := 5
/-- XHOST. -/
def domXhost : Nat := 6

/-- The owner domain of a page at reset, from the page's chapter. -/
def Blk.owner0 : Blk → Nat
  | .lock => 0
  | .hport => domXhost
  | .fw => domSec
  | .xch _ => domSched
  | .ora => domSched | .cc => domSched | .st => domSched
  | .nc _ => domSched
  | .csq _ => domSched
  | .disp => domSched
  | .csi _ => domApp
  | .isp _ => domApp
  | .vdec => domApp | .venc => domApp | .jpeg => domApp | .spl => domApp | .spls => domApp | .appc => domApp
  | .kws => domGate | .aoi => domGate
  | _ => domMgmt

/-- PG_STATUS.ENABLED at reset (the page's chapter). -/
def Blk.enabled0 : Blk → Bool
  | .ring _ => false
  | .xch _ => false
  | .nc _ => false
  | .csq _ => false
  | .csi _ => false
  | .isp _ => false
  | .cc => false | .st => false
  | .disp => false | .ddrc => false | .ddrphy => false
  | .vdec => false | .venc => false | .jpeg => false | .spl => false
  | .kws => false | .aoi => false | .gpio => false
  | _ => true

/-- Pages that ignore writes to PG_CTRL.ENABLE (the page's chapter). -/
def Blk.fixedEnable : Blk → Bool
  | .sys => true | .pwr => true | .clk => true | .time => true | .lock => true | .fw => true | .err => true
  | .xfe => true | .spls => true | .gate => true | .gown => true | .pmux => true | .appc => true
  | _ => false

/-- Pages of the always-on island, which the main domain's resets and sleep leave alone (R833, R1078). -/
def Blk.isAo : Blk → Bool
  | .gate => true | .kws => true | .aoi => true
  | _ => false

/-- The rails a page's block needs, by the bit numbers of R160 (R16, R42, R162, R719); log entry 10. -/
def Blk.rails : Blk → List Nat
  | .gate => [0] | .kws => [0] | .aoi => [0]
  | .sys => [2]
  | .nc _ => [2, 3, 4]
  | .appc => [2, 3, 5]
  | .ddrc => [2, 3, 6, 7, 8, 9]
  | .ddrphy => [2, 3, 6, 7, 8, 9]
  | .csi _ => [2, 3, 9, 10]
  | .hport => [2, 3, 10]
  | _ => [2, 3]

/-- The clock domains of R183 whose absence an enable check refuses (R61 rule 3). -/
def Blk.clocks : Blk → List Nat
  | .ring _ => [32]
  | .xch _ => [31]
  | .nc n => [7 + n]
  | .csq c => [3 + c]
  | .disp => [2] | .ddrc => [33] | .ddrphy => [34]
  | .csi p => [35 + p]
  | .isp n => [39 + n]
  | .vdec => [41] | .venc => [42] | .jpeg => [43] | .spl => [44]
  | .kws => [61] | .aoi => [62] | .gpio => [54]
  | .hport => [53] | .belv => [50] | .mi3c => [51] | .sens => [52]
  | _ => []

/-- The page that owns the request of a clock domain (R183). -/
def clockOwner (d : Nat) : Option Blk :=
  if d = 2 then some .disp
  else if 3 ≤ d ∧ d ≤ 6 then some (.csq (d - 3))
  else if 7 ≤ d ∧ d ≤ 22 then some (.nc (d - 7))
  else if 23 ≤ d ∧ d ≤ 30 then some .ora
  else if d = 31 then some .xfe
  else if d = 32 then some (.ring 0)
  else if d = 33 then some .ddrc
  else if d = 34 then some .ddrphy
  else if 35 ≤ d ∧ d ≤ 38 then some (.csi (d - 35))
  else if 39 ≤ d ∧ d ≤ 40 then some (.isp (d - 39))
  else if d = 41 then some .vdec
  else if d = 42 then some .venc
  else if d = 43 then some .jpeg
  else if d = 44 then some .spl
  else if 45 ≤ d ∧ d ≤ 49 then some .appc
  else if d = 50 then some .belv
  else if d = 51 then some .mi3c
  else if d = 52 then some .sens
  else if d = 53 then some .hport
  else if d = 54 then some .gpio
  else if d = 55 then some .appc
  else if d = 56 then some .belv
  else if d = 57 then some .sys
  else if d = 58 then some .fw
  else if d = 59 then some .err
  else if 60 ≤ d ∧ d ≤ 63 then some .gate
  else none

end Sys2Proof.Machine
end

