-- ==== Sys2Proof/Machine/RegTable.lean ====
section
/-! DEFINITION. The register tables of the chapters as data: offset, writable bits, lock class, W1C bits,
read-clear and data-port marks, reset value. What a write does beyond storing its bits stands with the block. -/

namespace Sys2Proof.Machine

/-- The parts of R15. -/
inductive Part where
  | osv4108
  | osv4116
  | osv4132
deriving DecidableEq, Repr

/-- One row of a register table: `n` registers from `off`, `step` bytes apart. -/
structure RegRow where
  off  : Nat
  n    : Nat := 1
  step : Nat := 4
  /-- Bits that an accepted write stores (RW and RWL). -/
  rw   : Nat := 0
  /-- The RWL bits among them (R55). -/
  lck  : Nat := 0
  /-- Bits that a write of 1 clears. -/
  w1c  : Nat := 0
  /-- Read clears (RC). -/
  rc   : Bool := false
  /-- A window data port (R43, R50). -/
  port : Bool := false
  rst  : Nat := 0
  /-- In the page's configuration set and not live (R65). -/
  cfg  : Bool := false
deriving DecidableEq, Repr

/-- Whether a row covers an offset. -/
def RegRow.covers (r : RegRow) (off : Nat) : Bool :=
  decide (r.off ≤ off) && decide (off < r.off + r.n * r.step) && (off - r.off) % r.step == 0

/-- The copy of the row that an offset names. -/
def RegRow.idx (r : RegRow) (off : Nat) : Nat := (off - r.off) / r.step

/-- All 32 bits. -/
def all1 : Nat := 0xFFFFFFFF

/-- The common header (R108, R110). PG_CTRL, PG_OWNER, PG_LOCK_KEY store nothing here: their rows act. -/
def headerRows : List RegRow :=
  [ { off := 0x000 }, { off := 0x004, rst := 0x100 }, { off := 0x008 }, { off := 0x00C, w1c := 0x20 },
    { off := 0x010 }, { off := 0x014, w1c := 0xFFFFFF0F }, { off := 0x018, rw := 0xFFFFFF0F },
    { off := 0x01C, lck := 0xF }, { off := 0x020 }, { off := 0x024 }, { off := 0x028 } ]

/-- The registers of SYS, PWR, CLK, TIME, LOCK, HPORT (R13, R112, R202, R208, R147, R114, R117). -/
def rowsCtl : Blk → List RegRow
  | .sys => [ { off := 0x040 }, { off := 0x044, lck := 0xF }, { off := 0x050 }, { off := 0x054, w1c := 0x80000000 } ]
  | .pwr =>
    [ { off := 0x040 }, { off := 0x044, w1c := 0x7FF }, { off := 0x048, lck := 0x3000, rst := 0x3300 },
      { off := 0x04C, lck := 0x3000, rst := 0x3300 },
      { off := 0x050, rw := 0x0FFF0FFF, lck := 0x0FFF0FFF, rst := 0x06670667 },
      { off := 0x054 }, { off := 0x058 }, { off := 0x05C }, { off := 0x060 }, { off := 0x064 }, { off := 0x068 },
      { off := 0x06C }, { off := 0x070 } ]
  | .clk =>
    [ { off := 0x040, w1c := 0x3F0000, rst := 0x101 }, { off := 0x044, rst := 3 }, { off := 0x048 }, { off := 0x04C },
      { off := 0x050 }, { off := 0x054 }, { off := 0x058 }, { off := 0x05C }, { off := 0x060 }, { off := 0x064 } ]
  | .time =>
    [ { off := 0x040 }, { off := 0x044 }, { off := 0x048 },
      { off := 0x100, n := 8, step := 0x20, rw := all1 }, { off := 0x104, n := 8, step := 0x20, rw := all1 },
      { off := 0x108, n := 8, step := 0x20, rw := all1 }, { off := 0x10C, n := 8, step := 0x20, rw := 0xF3 },
      { off := 0x110, n := 8, step := 0x20, rc := true } ]
  | .lock =>
    [ { off := 0x040 }, { off := 0x044 }, { off := 0x048 }, { off := 0x04C }, { off := 0x050 },
      { off := 0x100, n := 64 } ]
  | .hport =>
    [ { off := 0x040, rw := 0x3F, lck := 0x3F, rst := 0x18 }, { off := 0x044, w1c := 0x7F, rst := 0x400000 },
      { off := 0x048, rw := 0xFFFFFFFC }, { off := 0x04C, rw := 0xFF }, { off := 0x050, rw := 0xFFFFFF },
      { off := 0x054, rw := 1 }, { off := 0x058, port := true }, { off := 0x05C }, { off := 0x060 } ]
  | _ => []

/-- DDR controller and PHY (R247, R250), Orangery, compare-and-count, slot table (R296, R302, R299). -/
def rowsMem : Blk → List RegRow
  | .ddrc =>
    [ { off := 0x040, rw := all1, cfg := true }, { off := 0x044 }, { off := 0x048, w1c := 0xC },
      { off := 0x04C, rw := 1 }, { off := 0x050, rw := all1, rst := 0x320000 }, { off := 0x054, rw := 0xFFFF },
      { off := 0x058, rw := all1, rst := 0x20000800 }, { off := 0x05C }, { off := 0x060 },
      { off := 0x070, n := 9, rw := 0xFFF03 }, { off := 0x0A0, n := 9, rc := true } ]
  | .ddrphy => [ { off := 0x040 }, { off := 0x044 }, { off := 0x048 } ]
  | .ora =>
    [ { off := 0x040 }, { off := 0x044 }, { off := 0x048, rw := 0xFF, rst := 0xFF }, { off := 0x04C, rw := 0x1FFF },
      { off := 0x050, rw := 0x3FFF }, { off := 0x054 }, { off := 0x058 }, { off := 0x05C }, { off := 0x060 },
      { off := 0x064 } ]
  | .st => [ { off := 0x040, rw := 0xFFF }, { off := 0x044 }, { off := 0x048 }, { off := 0x050, n := 4, rw := all1 } ]
  | .cc =>
    [ { off := 0x100, n := 4, step := 0x40, rw := 0xF01F0777 }, { off := 0x104, n := 4, step := 0x40, rw := 0x1FFFFFF },
      { off := 0x108, n := 4, step := 0x40, rw := all1 }, { off := 0x10C, n := 4, step := 0x40, rw := all1 },
      { off := 0x110, n := 4, step := 0x40, rw := all1 }, { off := 0x114, n := 4, step := 0x40, rw := 0x1FFFFFF },
      { off := 0x118, n := 4, step := 0x40 }, { off := 0x11C, n := 4, step := 0x40 },
      { off := 0x120, n := 4, step := 0x40 }, { off := 0x124, n := 4, step := 0x40 },
      { off := 0x128, n := 4, step := 0x40 }, { off := 0x12C, n := 4, step := 0x40 },
      { off := 0x130, n := 4, step := 0x40 } ]
  | _ => []

/-- Transfer engine and rings (R357, R359, R403). -/
def rowsMove : Blk → List RegRow
  | .xfe =>
    [ { off := 0x040, rst := all1 }, { off := 0x044 }, { off := 0x048 }, { off := 0x04C }, { off := 0x050 },
      { off := 0x054 }, { off := 0x058 } ]
  | .xch _ =>
    [ { off := 0x040, n := 4, step := 0x40, rw := 0x771, rst := 0x730 },
      { off := 0x044, n := 4, step := 0x40, rw := 0xFFFF, rst := 0x8000 },
      { off := 0x048, n := 4, step := 0x40 }, { off := 0x04C, n := 4, step := 0x40, w1c := 0xF00 },
      { off := 0x050, n := 4, step := 0x40 }, { off := 0x054, n := 4, step := 0x40 },
      { off := 0x058, n := 4, step := 0x40 }, { off := 0x05C, n := 4, step := 0x40 },
      { off := 0x060, n := 4, step := 0x40 }, { off := 0x064, n := 4, step := 0x40 },
      { off := 0x068, n := 4, step := 0x40 }, { off := 0x06C, n := 4, step := 0x40 },
      { off := 0x070, n := 4, step := 0x40 }, { off := 0x074, n := 4, step := 0x40 },
      { off := 0x078, n := 4, step := 0x40 } ]
  | .ring _ =>
    [ { off := 0x040 }, { off := 0x100, n := 16, step := 0x40, rw := 0xFFFFFFC0 },
      { off := 0x104, n := 16, step := 0x40, rw := 0xFF }, { off := 0x108, n := 16, step := 0x40 },
      { off := 0x10C, n := 16, step := 0x40, rw := 0xFF }, { off := 0x110, n := 16, step := 0x40 },
      { off := 0x114, n := 16, step := 0x40, w1c := 8 }, { off := 0x118, n := 16, step := 0x40 },
      { off := 0x11C, n := 16, step := 0x40 }, { off := 0x120, n := 16, step := 0x40 },
      { off := 0x124, n := 16, step := 0x40, rw := 0xFFFF0FFF, rst := 1 },
      { off := 0x128, n := 16, step := 0x40, rw := 0x1FFF }, { off := 0x12C, n := 16, step := 0x40 },
      { off := 0x130, n := 16, step := 0x40, rw := 0xF }, { off := 0x134, n := 16, step := 0x40 },
      { off := 0x138, n := 16, step := 0x40 } ]
  | _ => []

/-- Neural cores, sequencers, Dispatch (R491, R533, R640, R585, R642, R700). -/
def rowsNpu : Blk → List RegRow
  | .nc _ =>
    [ { off := 0x040 }, { off := 0x044, rst := 0xFFFF }, { off := 0x048 }, { off := 0x04C, w1c := 0xF }, { off := 0x050 },
      { off := 0x054 }, { off := 0x058 }, { off := 0x05C, rw := 0x7FF }, { off := 0x060, port := true },
      { off := 0x064 }, { off := 0x068 }, { off := 0x06C }, { off := 0x070 }, { off := 0x074 }, { off := 0x078, rw := 4 },
      { off := 0x07C, rc := true }, { off := 0x080, rw := 0x1FF }, { off := 0x084, port := true },
      { off := 0x088, w1c := 7 }, { off := 0x08C, rc := true }, { off := 0x090 }, { off := 0x094, n := 4, rst := 0x80 },
      { off := 0x0A4 }, { off := 0x0A8 }, { off := 0x0AC, rc := true } ]
  | .csq _ =>
    [ { off := 0x040 }, { off := 0x044, rw := 0x133 }, { off := 0x048, rw := 0x9F9F9F9F }, { off := 0x04C, rw := 0x9F9F9F9F },
      { off := 0x050 }, { off := 0x054 }, { off := 0x058 }, { off := 0x05C }, { off := 0x060 }, { off := 0x064 },
      { off := 0x068 }, { off := 0x06C }, { off := 0x070 }, { off := 0x074 }, { off := 0x078 } ]
  | .disp =>
    [ { off := 0x040 }, { off := 0x044, rw := 0x1F, rst := 0x1F }, { off := 0x048, rw := all1, rst := 0xCCD },
      { off := 0x04C }, { off := 0x050, rw := all1, rst := 0x13880000 }, { off := 0x054 }, { off := 0x058 },
      { off := 0x05C }, { off := 0x060, rw := all1 }, { off := 0x064, rw := 0xFF }, { off := 0x068, rw := all1 },
      { off := 0x06C, rw := all1 }, { off := 0x070, rw := 0x330 }, { off := 0x074 }, { off := 0x078 }, { off := 0x07C },
      { off := 0x080 }, { off := 0x084, n := 4 }, { off := 0x094 }, { off := 0x098, rc := true }, { off := 0x09C },
      { off := 0x100, n := 16, step := 0x40, rw := 0xFF000F36 }, { off := 0x104, n := 16, step := 0x40, rw := all1 },
      { off := 0x108, n := 16, step := 0x40, rw := all1, rst := 0x10000 }, { off := 0x10C, n := 16, step := 0x40, rw := all1 },
      { off := 0x110, n := 16, step := 0x40, rw := all1 }, { off := 0x114, n := 16, step := 0x40, rw := 0xFF },
      { off := 0x118, n := 16, step := 0x40, rw := all1 }, { off := 0x11C, n := 16, step := 0x40 },
      { off := 0x120, n := 16, step := 0x40 }, { off := 0x124, n := 16, step := 0x40 }, { off := 0x128, n := 16, step := 0x40 },
      { off := 0x12C, n := 16, step := 0x40 }, { off := 0x130, n := 16, step := 0x40 }, { off := 0x134, n := 16, step := 0x40 },
      { off := 0x138, n := 16, step := 0x40, rw := all1 }, { off := 0x13C, n := 16, step := 0x40, rw := 0xFFFFF } ]
  | _ => []

/-- Cameras, codecs, sample pipeline (R744, R747, R781, R819, R821). -/
def rowsMedia : Blk → List RegRow
  | .csi _ =>
    [ { off := 0x040, rw := 0xFFFFFF03, rst := 0x0080E402 }, { off := 0x044 }, { off := 0x048, w1c := 0xFF },
      { off := 0x04C, rc := true }, { off := 0x050, rc := true }, { off := 0x054, rc := true },
      { off := 0x100, n := 4, step := 0x40, rw := 0x01333FF0 }, { off := 0x104, n := 4, step := 0x40, rw := 0x3FFF3FFF },
      { off := 0x108, n := 4, step := 0x40, rw := all1 }, { off := 0x10C, n := 4, step := 0x40, rw := 0xFF },
      { off := 0x110, n := 4, step := 0x40, rw := all1 }, { off := 0x114, n := 4, step := 0x40, rw := all1 },
      { off := 0x118, n := 4, step := 0x40, rw := all1, rst := 0x20000 }, { off := 0x11C, n := 4, step := 0x40 },
      { off := 0x120, n := 4, step := 0x40 }, { off := 0x124, n := 4, step := 0x40 },
      { off := 0x128, n := 4, step := 0x40, rc := true }, { off := 0x12C, n := 4, step := 0x40, rc := true },
      { off := 0x130, n := 4, step := 0x40, rc := true } ]
  | .isp _ =>
    [ { off := 0x040 }, { off := 0x100, n := 2, step := 0x40, rw := 0x1FF30, rst := 0x1000 },
      { off := 0x104, n := 2, step := 0x40, rw := 0x3FFF3FFF }, { off := 0x108, n := 2, step := 0x40, rw := 0xFFFF },
      { off := 0x10C, n := 2, step := 0x40, rw := all1 }, { off := 0x110, n := 2, step := 0x40, rw := 0xFF },
      { off := 0x114, n := 2, step := 0x40, rw := all1 }, { off := 0x118, n := 2, step := 0x40, rw := 0xFF },
      { off := 0x11C, n := 2, step := 0x40, w1c := 0x100 } ]
  | .vdec =>
    [ { off := 0x040 }, { off := 0x044, rc := true }, { off := 0x100, n := 4, step := 0x40, rw := 6 },
      { off := 0x104, n := 4, step := 0x40, rw := 0x1FFF1FFF }, { off := 0x108, n := 4, step := 0x40, rw := all1 },
      { off := 0x10C, n := 4, step := 0x40, rw := 0xFF }, { off := 0x110, n := 4, step := 0x40, rw := 0x3F },
      { off := 0x114, n := 4, step := 0x40, rw := all1 }, { off := 0x118, n := 4, step := 0x40, rw := 0xFFFF },
      { off := 0x11C, n := 4, step := 0x40, rw := all1 }, { off := 0x120, n := 4, step := 0x40, rw := 0xFF },
      { off := 0x124, n := 4, step := 0x40 }, { off := 0x128, n := 4, step := 0x40, rc := true },
      { off := 0x12C, n := 4, step := 0x40, rc := true }, { off := 0x130, n := 4, step := 0x40, rc := true } ]
  | .venc =>
    [ { off := 0x040, rw := 0xFF07, cfg := true }, { off := 0x044, rw := 0x07FF07FF, cfg := true },
      { off := 0x048, rw := all1, cfg := true }, { off := 0x04C, rw := all1, cfg := true },
      { off := 0x050, rw := 0x3F3F3F3F, rst := 0x330A2018, cfg := true }, { off := 0x054, rw := all1, cfg := true },
      { off := 0x058, rw := all1, cfg := true }, { off := 0x05C, rw := all1, cfg := true },
      { off := 0x060, rw := 0xFF, cfg := true }, { off := 0x064, rw := all1, cfg := true },
      { off := 0x068, rw := all1, cfg := true }, { off := 0x06C, rw := 0xFF, cfg := true },
      { off := 0x070 }, { off := 0x074 }, { off := 0x078, rc := true }, { off := 0x07C, rc := true } ]
  | .jpeg => [ { off := 0x040 }, { off := 0x044, rc := true }, { off := 0x048, rc := true } ]
  | .spl =>
    [ { off := 0x040 }, { off := 0x044, rc := true }, { off := 0x100, n := 16, step := 0x20 },
      { off := 0x104, n := 16, step := 0x20 }, { off := 0x108, n := 16, step := 0x20 }, { off := 0x10C, n := 16, step := 0x20 },
      { off := 0x110, n := 16, step := 0x20 }, { off := 0x114, n := 16, step := 0x20, rc := true },
      { off := 0x118, n := 16, step := 0x20, rc := true }, { off := 0x11C, n := 16, step := 0x20, rc := true } ]
  | .spls => [ { off := 0x100, n := 640, rw := all1 } ]
  | _ => []

/-- Gatehouse, firmware, management, checking (R867, R869, R871, R929, R933, R974). -/
def rowsMgmt : Blk → List RegRow
  | .gate =>
    [ { off := 0x040 }, { off := 0x044, rw := 5 }, { off := 0x048, rst := 8 }, { off := 0x04C, rw := 0xFF0F },
      { off := 0x050, rw := 0xFFFF }, { off := 0x054, w1c := 0xFF0F }, { off := 0x058 }, { off := 0x05C, rw := all1 },
      { off := 0x060, rw := all1 }, { off := 0x064 }, { off := 0x068 }, { off := 0x06C }, { off := 0x070 }, { off := 0x074 },
      { off := 0x078 } ]
  | .kws =>
    [ { off := 0x040, rw := 0xFF0E }, { off := 0x044, rw := 0xFFFFFF }, { off := 0x048, rw := 0x3FFFF }, { off := 0x04C },
      { off := 0x050 }, { off := 0x054 }, { off := 0x058 }, { off := 0x05C }, { off := 0x060 }, { off := 0x064 }, { off := 0x068 } ]
  | .aoi =>
    [ { off := 0x040, rw := 0x703 }, { off := 0x044 }, { off := 0x048, port := true },
      { off := 0x100, n := 8, step := 0x10, rw := all1 }, { off := 0x104, n := 8, step := 0x10, rw := 0x1FFFFF },
      { off := 0x108, n := 8, step := 0x10 } ]
  | .fw =>
    [ { off := 0x040 }, { off := 0x044 }, { off := 0x048 }, { off := 0x04C, rw := 7 }, { off := 0x050 }, { off := 0x054 },
      { off := 0x058 }, { off := 0x05C, n := 6 }, { off := 0x080, n := 12 }, { off := 0x0B0 }, { off := 0x0B4 },
      { off := 0x0BC }, { off := 0x0C0 }, { off := 0x0C4 },
      { off := 0x200, n := 32, step := 0x10, rw := 0xFFFFFFF, lck := 0xFFFFFFF },
      { off := 0x204, n := 32, step := 0x10, rw := 0xFFFFFFF, lck := 0xFFFFFFF },
      { off := 0x208, n := 32, step := 0x10, rw := 0x80003F3F, lck := 0x80003F3F } ]
  | .belv => [ { off := 0x040 }, { off := 0x044 }, { off := 0x048 }, { off := 0x04C }, { off := 0x050 }, { off := 0x054, rc := true } ]
  | .mi3c => [ { off := 0x040, rw := 0x37F, lck := 0x37F, rst := 0x13A }, { off := 0x044 }, { off := 0x048 }, { off := 0x04C } ]
  | .sens => [ { off := 0x040, n := 12 }, { off := 0x080, n := 10 }, { off := 0x0A8 }, { off := 0x0AC } ]
  | .err =>
    [ { off := 0x040, w1c := 0x100 }, { off := 0x044, rc := true }, { off := 0x048, rc := true }, { off := 0x04C },
      { off := 0x050, n := 8 }, { off := 0x070, n := 8, rw := all1 }, { off := 0x090 }, { off := 0x094, rst := 0x7FFFFF },
      { off := 0x098, rst := all1 }, { off := 0x0A0, n := 6 }, { off := 0x0C0, rw := 0xF4FF0F }, { off := 0x0C4, rw := 0xFFFFFC } ]
  | _ => []

/-- Pins and application cluster (R1016, R1018, R1019, R1045, R1044). -/
def rowsPins : Blk → List RegRow
  | .gpio =>
    [ { off := 0x040, n := 2 }, { off := 0x048, rw := all1 }, { off := 0x04C, rw := 0xFFFF }, { off := 0x050, n := 2 },
      { off := 0x058, n := 2 }, { off := 0x060, rw := all1 }, { off := 0x064, rw := 0xFFFF }, { off := 0x068, w1c := all1 },
      { off := 0x06C, w1c := 0xFFFF }, { off := 0x070, w1c := all1 }, { off := 0x074, w1c := 0xFF },
      { off := 0x080, n := 4, rw := all1 }, { off := 0x090, n := 4, rw := 0xF1 }, { off := 0x0A0, n := 8, step := 0x10, rw := 3 },
      { off := 0x0A4, n := 8, step := 0x10 }, { off := 0x0A8, n := 8, step := 0x10 },
      { off := 0x0AC, n := 8, step := 0x10, rc := true }, { off := 0x120, n := 2, rw := 0x0FFF0FFF } ]
  | .gown => [ { off := 0x040, n := 6, rw := all1, lck := all1 }, { off := 0x060 }, { off := 0x064 }, { off := 0x068 }, { off := 0x06C } ]
  | .pmux => [ { off := 0x040 }, { off := 0x100, n := 48, rw := 0x00177777, lck := 0x00177777 } ]
  | .appc =>
    [ { off := 0x040 }, { off := 0x044 }, { off := 0x048 }, { off := 0x050, n := 4, rw := 3 },
      { off := 0x060, n := 4, step := 8, rw := 0xFFFFFFFC, rst := 0x81000000 }, { off := 0x064, n := 4, step := 8, rw := 0xFF },
      { off := 0x080, rw := 0xFFFFFFFC }, { off := 0x084, rw := 0x800000FF },
      { off := 0x088, n := 2, step := 8, rw := 0xFFFFFFF }, { off := 0x08C, n := 2, step := 8, rw := 0x8FFFFFFF },
      { off := 0x0A0, n := 4, step := 8, rw := all1, rst := all1 }, { off := 0x0A4, n := 4, step := 8, rw := all1, rst := all1 },
      { off := 0x0C0, rw := 0xF }, { off := 0x200, n := 16 }, { off := 0x300, n := 64, rw := all1 },
      { off := 0x400, n := 16, rw := all1 }, { off := 0x440, n := 4 }, { off := 0x450 },
      { off := 0x800 }, { off := 0x804, rw := 0x013FFFFF }, { off := 0x808, w1c := 0x1E0000 }, { off := 0x80C, rw := 0xFFF },
      { off := 0x810, rw := 0xFF },
      { off := 0x900, rw := 0x103 }, { off := 0x904 }, { off := 0x908 }, { off := 0x90C },
      { off := 0xA00, rw := 0x103 }, { off := 0xA04 }, { off := 0xA08 }, { off := 0xA0C },
      { off := 0xB00, rw := 0x133 }, { off := 0xB04, rw := 0xFFFFFFC0 }, { off := 0xB08, rw := 0xFF },
      { off := 0xB0C, rw := all1 }, { off := 0xB10 }, { off := 0xB14, rw := all1 } ]
  | _ => []

/-- The block registers of a page, from offset 0x040 on. -/
def rowsOf (b : Blk) : List RegRow :=
  rowsCtl b ++ (rowsMem b ++ (rowsMove b ++ (rowsNpu b ++ (rowsMedia b ++ (rowsMgmt b ++ rowsPins b)))))

/-- The row of a page offset; none at a reserved offset (R8). -/
def rowAt (b : Blk) (off : Nat) : Option RegRow :=
  if off < 0x40 then headerRows.find? (fun r => r.covers off) else (rowsOf b).find? (fun r => r.covers off)

/-- Orangery bytes (R260). -/
def Part.oraSize : Part → Nat
  | .osv4108 => 0x800000
  | .osv4116 => 0x1000000
  | .osv4132 => 0x2000000

/-- Orangery banks (R261). -/
def Part.banks : Part → Nat
  | .osv4108 => 16
  | _ => 32

/-- SYS_PART (R15). -/
def Part.code : Part → Nat
  | .osv4108 => 0xA1004108
  | .osv4116 => 0xA1004116
  | .osv4132 => 0xA1004132

/-- ESIZE code of a ring at reset (R377, R404). -/
def ringEsize0 (q : Nat) : Nat :=
  if q < 32 then 1
  else if q < 64 then (if q % 2 = 0 then 2 else 1)
  else if q < 80 then 2
  else if q < 104 then 1
  else if q < 112 then 0
  else if q < 120 then 2
  else 0

/-- The producer end is hardware and not selectable (R377). -/
def ringHwProd (q : Nat) : Bool := decide (64 ≤ q) && decide (q < 96)
/-- The consumer end is hardware and not selectable (R377). -/
def ringHwCons (q : Nat) : Bool := decide (q < 32)
/-- The producer end is selectable (R377). -/
def ringSelProd (q : Nat) : Bool := decide (96 ≤ q) && decide (q < 112)
/-- The consumer end is selectable (R377). -/
def ringSelCons (q : Nat) : Bool := decide (80 ≤ q) && decide (q < 104)

/-- RG_CFG at reset (R404). -/
def ringCfg0 (q : Nat) : Nat :=
  ringEsize0 q * 0x100 + (ringHwProd q).toNat * 0x10000 + (ringHwCons q).toNat * 0x20000

/-- DDR_PORTp_QOS at reset (R240): CLASS in [1:0], LIMIT in [19:8] in units of 16 MB/s. -/
def portQos0 (p : Nat) : Nat :=
  if p = 1 ∨ p = 2 then 3 + 100 * 0x100 else if p = 5 then 0 else if p = 0 then 0 else 1

/-- The cluster of a core (R20): its quadrant of the mesh. -/
def clusterOf (n : Nat) : Nat := (n % 4) / 2 + 2 * (n / 8)

/-- The core that a link of core `n` leads to: 0 N, 1 E, 2 S, 3 W (R599, R640); N is toward smaller y (log entry 11). -/
def neighbour (n d : Nat) : Option Nat :=
  match d with
  | 0 => if 4 ≤ n then some (n - 4) else none
  | 1 => if n % 4 < 3 then some (n + 1) else none
  | 2 => if n < 12 then some (n + 4) else none
  | 3 => if 0 < n % 4 then some (n - 1) else none
  | _ => none

/-- NC_LINK.PRESENT of a core (R641). -/
def ncLink0 (n : Nat) : Nat :=
  (List.range 4).foldl (fun a d => a + (if (neighbour n d).isSome then 2 ^ d else 0)) 0

/-- The reset value of the register at offset `off` of a page (R9); `hostSel` is the strap (R86). -/
def resetOff (part : Part) (hostSel : Bool) (b : Blk) (off : Nat) : Nat :=
  if off = 0 then b.type * 0x1000000 + b.inst * 0x10000 + 1
  else if off = 0xC then b.enabled0.toNat
  else if off = 0x1C then b.owner0
  else if off < 0x40 then ((rowAt b off).map (·.rst)).getD 0
  else
    match b with
    | .sys =>
      if off = 0x40 then part.code else if off = 0x44 then (if hostSel then 0x10006 else 5) else 0
    | .clk =>
      if off = 0x48 ∨ off = 0x60 then (if part = .osv4108 then 0x07800003 else 0x7F800003)
      else if off = 0x4C ∨ off = 0x64 then 0x8D240000
      else ((rowAt b off).map (·.rst)).getD 0
    | .ddrc =>
      if 0x70 ≤ off ∧ off < 0x94 then portQos0 ((off - 0x70) / 4) else ((rowAt b off).map (·.rst)).getD 0
    | .ora =>
      if off = 0x40 then part.oraSize
      else if off = 0x44 then part.banks + (part.oraSize / part.banks / 1024) * 0x100
      else if off = 0x48 then (if part = .osv4108 then 0xF else 0xFF)
      else ((rowAt b off).map (·.rst)).getD 0
    | .ring k =>
      if 0x100 ≤ off ∧ off < 0x500 ∧ off % 0x40 = 8 then ringCfg0 (16 * k + (off - 0x100) / 0x40)
      else ((rowAt b off).map (·.rst)).getD 0
    | .nc n =>
      if off = 0x40 then n % 4 + (n / 4) * 0x10 + clusterOf n * 0x100
      else if off = 0x90 then ncLink0 n
      else ((rowAt b off).map (·.rst)).getD 0
    | .gown =>
      if 0x40 ≤ off ∧ off < 0x54 then (if hostSel then 6 else 5) * 0x11111111
      else if off = 0x54 then 0x33333333 else 0
    | .pmux =>
      if 0x100 ≤ off ∧ off < 0x1C0 then (if off < 0x1A0 then 0x40230 else 0x230) else 0
    | b => ((rowAt b off).map (·.rst)).getD 0

/-- The reset value of the register at an address. -/
def resetReg (part : Part) (hostSel : Bool) (addr : Nat) : Word :=
  match blkOf addr with
  | some b =>
    match b, pageOff addr with
    | .belv, 0x40 => Config.iana
    | .fw, 0xBC => Config.keyRevoked.setWidth 32
    | .mi3c, 0x44 => Config.midProvisional.setWidth 32
    | .mi3c, 0x48 => (Config.midProvisional >>> 32).setWidth 32
    | b, off => BitVec.ofNat 32 (resetOff part hostSel b off)
  | none => 0

end Sys2Proof.Machine
end

