-- ==== Sys2Proof/Machine/State.lean ====
section
/-! DEFINITION. The state of the device: registers, memories, queues, modes and pins, and what the
environment holds in front of it. Plain data. Each structure names the chapter that gives it. -/

namespace Sys2Proof.Machine

/-- A write the crossbar holds while a page is BUSY (R62). -/
structure Held where
  page  : Nat
  write : BusWrite
deriving DecidableEq, Repr

/-- What holds a page BUSY: the enable check (R58), or a soft reset (R66), after which a page whose ENABLE was written
with it ends disabled (R67), or the checks of contexts or streams of the page (R746, R782). A VDEC stream whose write set
a reserved bit stands as its number plus 4. -/
inductive PageJob where
  | check
  | reset (both : Bool)
  | units (ks : List Nat)
deriving DecidableEq, Repr

/-- The xSPI host port (02). -/
structure PortSt where
  /-- 8D-8D-8D mode (R90). -/
  octal    : Bool
  /-- RESET_ENABLE came directly before (R92). -/
  armed    : Bool
  /-- Write words not yet at their target (R100). -/
  fifo     : List Word
  /-- Prefetched words (R106). -/
  prefetch : List Word
  /-- Held data of a REG_READ that answered NOT_READY: address, LEN, words (R99). -/
  replay   : Option (Nat × Nat × List Word)
  /-- The status a WIN_READ gets after a read window halted on a failing access (R98, R107). -/
  halted   : Option Nat
deriving DecidableEq, Repr

/-- The device-time counter (03). -/
structure TimeSt where
  /-- AO ticks since the AO power-on reset (R131). -/
  a       : Nat
  /-- The sub-tick count (R131). -/
  s       : Nat
  /-- The accumulator of R133. -/
  acc     : Nat
  /-- Fine strobes since the last real edge (R157). -/
  since   : Nat
  /-- Fine strobes since the last synthesised tick (R157). -/
  sinceSy : Nat
  /-- TIME_STAT.FINE (R133). -/
  fine    : Bool
  /-- TIME_STAT.AO_LOST (R157). -/
  aoLost  : Bool
  /-- PLL_SOC has locked and counting resumes at the next edge (R135). -/
  resume  : Bool
deriving DecidableEq, Repr

/-- An operating-point change in progress (R173-R176). -/
structure OpChange where
  target : Nat
  raise  : Bool
  since  : Nat
deriving DecidableEq, Repr

/-- The power states of the main domain (04). -/
inductive PState where
  /-- VDD_AO good, AO power-on reset held (R169 step 1). -/
  | aoHeld
  /-- The main domain is off or held in reset and waits for its release (R169 steps 2-5, R201). -/
  | held
  | run
  /-- Power switches open, DRAM kept (R188 step 5). -/
  | sleep
  /-- The wake sequence runs (R194). -/
  | waking
  /-- VDD_AO is not good. -/
  | off
deriving DecidableEq, Repr

/-- The PWR sleep record in Gatehouse retention (R204). -/
structure SleepRec where
  result   : Nat
  count    : Nat
  wakeDt   : Nat
  readyDt  : Nat
  shutdown : Bool
  ceilNpu  : Nat
  ceilApp  : Nat
deriving DecidableEq, Repr

/-- Supplies and clocks outside the registers (04). -/
structure PowerSt where
  /-- Rails good, bit n of R160. -/
  rails    : BitVec 11
  pstate   : PState
  opNpu    : Option OpChange
  opApp    : Option OpChange
  /-- Levels on NPU_VSEL and APP_VSEL (R171). -/
  vselNpu  : Nat
  vselApp  : Nat
  pmicSlp  : Bool
  /-- Device time of the accepted GO, while an entry runs (R186). -/
  goDt     : Option Nat
  /-- The entry is past the point of no return (R188 step 2, R215). -/
  past     : Bool
  /-- A wake event that the running entry or missing rails hold back (R191, R195). -/
  wakePend : Option Nat
  /-- Device time at which the wake sequence started (R194). -/
  wakeSeq  : Option Nat
  /-- The retention record was bad and RUN_READY waits for FW1 (R235). -/
  slowWake : Bool
  kept     : SleepRec
  /-- Highest readings of the last governor periods, newest first, in 1/8 degree (R199). -/
  tmax     : List Int
  /-- Device time of the last period of the governor, or of the start of RUN (R143, R199). -/
  govDt    : Nat
  /-- Kept off by a thermal shutdown until system reset (R201). -/
  thermOff : Bool
  /-- Rails lost after the point of no return of the running entry (R215). -/
  lostSlp  : BitVec 11
deriving DecidableEq, Repr

/-- The retention record of DRAM (R233): the trained and tracked values, the block registers of both DDR pages by address,
and the check byte. -/
structure RetRec where
  trained : Word
  tracked : Word
  regs    : SMap Word
  check   : Byte
deriving DecidableEq, Repr

/-- The refreshes a channel of DRAM was given (R237). -/
structure Refreshes where
  perBank : Nat
  allBank : Nat
deriving DecidableEq, Repr

/-- DRAM outside its registers (05). -/
structure DdrSt where
  /-- DDR_CFG value that the running training trains to (R252), and whether DDR_CFG was written since. -/
  train    : Option (Word × Bool)
  /-- Failed attempts of the running training (R232). -/
  attempts : Nat
  /-- The values of the last successful training, and those that tracking has set since (R231, R236). -/
  trained  : Word
  tracked  : Word
  /-- The retention record (R233). -/
  retain   : Option RetRec
  /-- Out-of-window tracking runs in a row, by channel (R236). -/
  trkA     : Nat
  trkB     : Nat
  /-- Device time of the last tracking run, or of the enable, by channel. -/
  trkDt    : SMap Nat
  /-- Channel in power-down (R239). -/
  pdA      : Bool
  pdB      : Bool
  /-- Refreshes issued, by channel (R237). -/
  refA     : Refreshes
  refB     : Refreshes
  /-- Device time from which nothing refreshes the array (R255). -/
  offDt    : Option Nat
  /-- Requests waiting at the controller, oldest first (R242). -/
  queue    : List DdrReq
  /-- ISOCH tokens by port in 1/32,000 byte, and the device time of the last fill (R243). -/
  tokens   : SMap Nat
  tokDt    : Nat
  /-- The last port served in each class, for the round robin of R242. -/
  lastPort : SMap Nat
deriving DecidableEq, Repr

/-- A slot table entry (R270). -/
structure Slot where
  w0    : Word
  w1    : Word
  w2    : Word
  check : Byte
deriving DecidableEq, Repr

/-- A claim on a slot: agent code of R272, handle, what the claim holds (R274-R276). -/
structure Claim where
  agent   : Nat
  handle  : Nat
  reads   : Bool
  release : Bool
  fill    : Bool
deriving DecidableEq, Repr

/-- A queued or running compare-and-count job (R288). -/
structure CcJob where
  ctx     : Nat
  running : Bool
  /-- The agent its claims belong to: the context, or a command (R274). -/
  agent   : Nat
  /-- Its source was written by address while it streamed (R295). -/
  dirty   : Bool
deriving DecidableEq, Repr

/-- The Orangery outside its registers (06). -/
structure OraSt where
  slots  : SMap Slot
  claims : List Claim
  jobs   : List CcJob
  /-- The context started last (R288). -/
  lastCc : Nat
deriving DecidableEq, Repr

/-- The active descriptor of an XFE channel (07): its eight words, the elements written, the agent of its claims,
whether a commit released it, and the loop of the step it was released for. -/
structure Active where
  words    : List Word
  written  : Nat
  agent    : Nat
  released : Bool
  loop     : Option Nat
deriving DecidableEq, Repr

/-- An XFE channel outside its registers (07). -/
structure Chan where
  active   : Option Active
  /-- Held outbound descriptors of the running command (R335). -/
  hold     : List (List Word)
  /-- Descriptors a commit released, not yet started, with their step's loop (R337). -/
  released : List (List Word × Option Nat)
  /-- Device times of transient errors (R344). -/
  faults   : List Nat
  pausing  : Bool
  /-- The elements whose reads were issued before the PAUSE (R350). -/
  upTo     : Nat
  /-- Device time at which the progress timer restarted (R341). -/
  progress : Nat
deriving DecidableEq, Repr

/-- A ring outside its registers (08). -/
structure RingSt where
  /-- Entries published since DATA was last set (R395). -/
  pub     : Nat
  /-- Device time of the tail write that made `pub` non-zero. -/
  pubDt   : Nat
  space   : Bool
  /-- A full record was raised since the ring last had space (R389). -/
  fullRec : Bool
deriving DecidableEq, Repr

/-- An error record (R959). -/
structure ErrRec where
  dt     : Nat
  unit   : Nat
  code   : Nat
  op     : Nat
  temp   : Nat
  volt   : Nat
  cls    : Nat
  rpt    : Nat
  detail : List Byte
deriving DecidableEq, Repr

/-- A lockstep pair (20). -/
structure PairSt where
  /-- An output divergence not yet recovered (R947). -/
  diverged : Bool
  /-- LSCRATCH of the main and the checker core (R948). -/
  scrMain  : Word
  scrChk   : Word
  /-- Device times of counted divergences (R952). -/
  times    : List Nat
  /-- Device time of the last scrub point (R945). -/
  scrubDt  : Nat
  /-- The injection in LSCRATCH is one with NOCOUNT (R973), and is an injection at all. -/
  injected : Bool
  nocount  : Bool
deriving DecidableEq, Repr

/-- An armed injection (R972). -/
structure Inject where
  kind    : Nat
  target  : Nat
  nocount : Bool
  count   : Nat
  addr    : Nat
deriving DecidableEq, Repr

/-- Checking hardware outside its registers (20). -/
structure CheckSt where
  /-- The ERR queue, oldest first (R966). -/
  queue   : List ErrRec
  /-- Records raised and not yet in the queue, each with the `seq` of the command that raised it (R964). -/
  raised  : List (Nat × ErrRec)
  /-- Records whose mirror entry is due (R969). -/
  mirror  : List ErrRec
  /-- Staged words by core code, 8 per code: key 8 * code + w (R971). -/
  staged  : SMap Word
  armed   : Option Inject
  /-- Register word marked with bad parity (R972 KIND 3), and its NOCOUNT. -/
  parity  : Option (Nat × Bool)
  pairs   : SMap PairSt
  /-- Retirement latches in Gatehouse retention (R957): cores, clusters, channels, Dispatch, prefetch unit. -/
  retCore : BitVec 16
  retCl   : BitVec 4
  retCh   : BitVec 32
  retDisp : Bool
  retPfu  : Bool
deriving DecidableEq, Repr

/-- State of a landing-buffer entry that is not EMPTY (R607). -/
inductive LandState where
  | tentative
  | published
  | held
deriving DecidableEq, Repr

/-- A landing-buffer entry (R607): side it arrives from, TAG, SIZE, cluster whose command wrote or holds it, bytes. -/
structure Landing where
  dir   : Nat
  tag   : Nat
  size  : Nat
  cl    : Nat
  state : LandState
  data  : List Byte
deriving DecidableEq, Repr

/-- A result of an instruction whose reads are still open (R452): bytes by address, accumulator words of the core, or a
landing entry. -/
inductive SpanOut where
  | mem (addr len : Nat)
  | acc (start len : Nat)
  | land (core dir tag : Nat)
deriving DecidableEq, Repr

/-- An access of an instruction that no SYNC has closed yet (R452): unit 0 MXU, 1 VEC, 2 LSU, 3 HLU; an accumulator
or a tile-buffer range, in words or bytes. -/
structure Span where
  unit  : Nat
  write : Bool
  acc   : Bool
  start : Nat
  len   : Nat
  /-- What the instruction of a read writes from it. -/
  outs  : List SpanOut
deriving DecidableEq, Repr

/-- A neural core outside its registers (10, 11, 13). -/
structure CoreSt where
  /-- Instruction memory; an absent index was never written. -/
  imem    : SMap (BitVec 128)
  imStage : List Word
  /-- Accumulator words; an absent word is undefined. -/
  acc     : SMap Word
  /-- Chain-table stage words by 8e + s; an absent word is zero (R513). -/
  vt      : SMap (BitVec 64)
  vtStage : Word
  /-- Accesses since the last SYNC of their unit (R452). -/
  spans   : List Span
  /-- Tile ranges that another unit wrote without a SYNC while the link unit's RECV for them waits (R452, R602). -/
  clash   : List (Nat × Nat)
  /-- Instruction indices waiting in the link unit, the head first (R450, R606). -/
  hlu     : List Nat
  /-- Tile bytes and accumulator words the running command wrote: start and length (R481). -/
  tbWrote : List (Nat × Nat)
  acWrote : List (Nat × Nat)
  /-- Device times of counted residue mismatches and fetch failures (R488, R489). -/
  resTimes : List Nat
  imTimes  : List Nat
  /-- A mismatch is recorded in this run of the command (R487). -/
  recorded : Bool
  /-- The core runs a collective's program (R623). -/
  coll    : Bool
  land    : List Landing
deriving DecidableEq, Repr

/-- A cluster sequencer's work on a step, outside its registers (12). -/
structure SeqSt where
  /-- The loop whose step is bound here, while CSQ_STAT.STEP is 1. -/
  loop    : Nat
  /-- The logical cluster it runs. -/
  lc      : Nat
  /-- Commands of this cluster that have published. -/
  done    : Nat
  /-- The command in body, commit or kill, as its place in the image's command table. -/
  cur     : Nat
  /-- Device time at which the body timer expires (R581). -/
  expiry  : Nat
  /-- Device time at which the commit began (R583). -/
  commitDt : Nat
  /-- Commands that have used their budget re-run (R575), by place in the command table. -/
  used    : List Nat
  /-- Cause and code of the kill in progress (R573). -/
  kill    : Option (Nat × Nat)
  /-- A PREEMPT waits for the kill or the publish (R580). -/
  preempt : Bool
  /-- The body's commit overran already (R583). -/
  overran : Bool
  /-- The next start is a budget re-run (R586 RERUN). -/
  rerun   : Bool
  /-- The step clock while the step is preempted (R564). -/
  clock   : Nat
deriving DecidableEq, Repr

/-- The results of a running collective (R619): core, tile offset, bytes. -/
structure CollOut where
  core : Nat
  ofs  : Nat
  data : List Byte
deriving DecidableEq, Repr

/-- One command of a placed image, as FW3 keeps it (R550): `pcs` with IMEM_BASE added, descriptors with their
logical channel and relocated bytes (R551, R561), or the collective block. -/
structure Cmd where
  id    : Nat
  cl    : Nat
  mask  : Nat
  coll  : Bool
  start : Nat
  bound : Nat
  pcs   : List Nat
  descs : List (Nat × List Byte)
deriving DecidableEq, Repr

/-- A slot of an image (R552, R560): SIZEM1, DRAINS, MODEL, weight offset, and its start in 4 KiB units
(for a MODEL slot, while resident). -/
structure SlotMap where
  sizem1 : Nat
  drains : Nat
  model  : Bool
  wofs   : Nat
  base   : Nat
deriving DecidableEq, Repr

/-- A loaded image (12, 14). -/
structure Image where
  model    : Nat
  addr     : Nat
  len      : Nat
  cores    : Nat
  place    : Nat
  reqPlace : Nat
  /-- Physical cluster of each logical cluster. -/
  clusters : List Nat
  mirx     : Bool
  miry     : Bool
  excl     : Bool
  pin      : Bool
  hot      : Bool
  /-- Weights are in their model-cache slots (R680). -/
  resident : Bool
  handle0  : Nat
  imem0    : Nat
  imemN    : Nat
  chain0   : Nat
  chainN   : Nat
  /-- Bound channels by logical cluster (R560). -/
  chans    : List (List Nat)
  slots    : List SlotMap
  cmds     : List Cmd
  runNpu   : Nat
  needIn   : Nat
  needOut  : Nat
  needState : Nat
  weightOfs : Nat
  bodyOfs  : Nat
  bodyLen  : Nat
  /-- Device time at which its last step started (R681). -/
  lastUse  : Nat
  /-- UNLOAD was requested and waits for the last step (R695, R716). -/
  leaving  : Bool
  /-- Its words were written since the last wake or load (R563). -/
  placed   : Bool
deriving DecidableEq, Repr

/-- What Dispatch knows of a loop's entry (R408, R661, R662, R664). -/
structure Entry where
  seq      : Nat
  origin   : Nat
  deadline : Nat
  inAddr   : Nat
  inLen    : Nat
  outAddr  : Nat
  outLen   : Nat
deriving DecidableEq, Repr

/-- A started step (14). -/
structure StepSt where
  model   : Nat
  entry   : Entry
  defer   : Nat
  preempts : Nat
  reruns  : Nat
  /-- Device time of the first command, once it has started. -/
  start   : Option Nat
  /-- Clusters are bound to it (R656). -/
  bound   : Bool
  /-- Clusters whose sequencers still wait for a PREEMPT at a boundary (R676). -/
  waits   : List Nat
  /-- The preemption was requested and is not complete. -/
  leaving : Bool
  /-- The order of its preemption (R668). -/
  order   : Nat
  /-- Outcome and reason of a step that ended before its last command. -/
  outcome : Option (Nat × Nat)
  /-- Released descriptors not yet ended (R584). -/
  relOut  : Nat
  /-- A released descriptor failed (R665). -/
  relFail : Bool
  /-- The sequencers' work while the step is preempted. -/
  parked  : List SeqSt
deriving DecidableEq, Repr

/-- A loop (14). -/
structure LoopSt where
  step  : Option StepSt
  /-- Deferrals of the head (R666). -/
  defer : Nat
  /-- The head entry as Dispatch read it, once it has passed the checks of R662. -/
  head  : Option Entry
  /-- Queued entries that an attach ends as ABANDONED once their turn comes (R687). -/
  abandon : Nat
deriving DecidableEq, Repr

/-- A load or unload in progress (R694, R695): the 16 report bytes and the model loaded, or the model that leaves. -/
inductive LoadJob where
  | load (report : List Byte) (model : Option Nat)
  | unload (model : Nat)
deriving DecidableEq, Repr

/-- Dispatch outside its registers (14). -/
structure DispSt where
  loops   : SMap LoopSt
  /-- The round-robin pointer of R672. -/
  ptr     : Nat
  /-- The attachment state: 0 DETACHED, 1 ATTACHED, 2 ORPHAN (R687-R691). -/
  attach  : Nat
  /-- Device time at which the heartbeat timer restarted (R689). -/
  hbDt    : Nat
  /-- Device time of the last entry to ORPHAN or DETACHED. -/
  orphanDt : Option Nat
  /-- The 60 s of R692 have passed. -/
  abandoning : Bool
  load    : Option LoadJob
  /-- Preemptions so far, for their order. -/
  order   : Nat
deriving DecidableEq, Repr

/-- A firmware component FW0-FW5 as the FW page shows it (R890, R929, R930). -/
structure Comp where
  state    : Nat
  version  : Nat
  iface    : Nat
  reason   : Nat
  bank     : Nat
  untested : Bool
  /-- It runs the image of a STAGED entry that FW_READY makes ACTIVE (R922). -/
  staged   : Bool
  digest   : List Byte
  /-- REQ_0 to REQ_5 of its image (R887). -/
  req      : List Nat
  /-- Device time of the last kick, by pair for FW3, else under 0 (R899). -/
  kicks    : SMap Nat
  /-- Device time of a start that FW_READY has not answered (R890). -/
  started  : Option Nat
  /-- Device times of watchdog restarts (R901). -/
  restarts : List Nat
deriving DecidableEq, Repr

/-- A SLEEP request in progress (R915): its pair, the device time at which it times out, and whether GO was written. -/
structure SleepReq where
  pair  : Nat
  limit : Nat
  gone  : Bool
deriving DecidableEq, Repr

/-- The firmware update in progress (R921): its requester, the device time of its last message, the transfer size, the
component's image size and bytes received, the state before this one, and the components applied. -/
structure UpdSt where
  who   : Nat
  dt    : Nat
  xfer  : Nat
  size  : Nat
  got   : Nat
  prev  : Nat
  done  : List Nat
deriving DecidableEq, Repr

/-- A PLDM sensor (R919): disabled, events enabled, and its state and the one before: 0 normal, else the upper threshold
passed, 1 to 3. -/
structure SensorSt where
  off   : Bool
  event : Bool
  level : Nat
  prev  : Nat
deriving DecidableEq, Repr

/-- A message the endpoint sends on its own: destination, message type and command, data (R918, R925). -/
structure OutMsg where
  dst  : Nat
  kind : Nat
  body : List Byte
deriving DecidableEq, Repr

/-- Firmware outside its registers (19). -/
structure FwSt where
  comps   : SMap Comp
  /-- Boot flash (R883); an unlisted byte is erased, 0xFF. -/
  flash   : SMap Byte
  /-- FW1 has not started the other components (R890 steps 5-8). -/
  pending : Bool
  /-- FW_SEL by core code (R909). -/
  sel     : SMap Nat
  /-- Records logged since power-on, by class (R919). -/
  counts  : SMap Nat
  /-- Records overwritten unreported (R928). -/
  lost    : Nat
  /-- The ERROR_REPORT outstanding: device time it was last sent, FIRST and COUNT (R927). -/
  report  : Option (Nat × Nat × Nat)
  /-- Records in the flash log since it was empty (R928). -/
  flashLog : Nat
  /-- DT of the last SENS publication (R881). -/
  snDt    : Nat
  sensors : SMap SensorSt
  tid     : Nat
  /-- The PLDM event receiver, while events are enabled (R918, R919). -/
  events  : Option Nat
  upd     : UpdSt
  /-- Digests that verification computed, by component (R922). -/
  digests : SMap (List Byte)
  sleep   : Option SleepReq
  /-- Ring registers saved for the wake (R915). -/
  saved   : List (Nat × Word)
deriving DecidableEq, Repr

/-- A frame of a camera context, open or closed and not yet published (R728-R733). -/
structure Frame where
  /-- The reserved ring position, and the buffer and statistics addresses that follow it (R728). -/
  ptr    : Nat
  buf    : Nat
  stats  : Option Nat
  num    : Nat
  dt     : Nat
  /-- CX_CFG and CX_SIZE when the frame opened. -/
  cfg    : Word
  size   : Word
  /-- FORMAT, output width, height and stride (R733). -/
  fmt    : Nat
  width  : Nat
  height : Nat
  stride : Nat
  /-- Lines received, and output lines written. -/
  lines  : Nat
  wrote  : Nat
  /-- FLAGS without DAMAGED. -/
  flags  : Nat
  /-- Error codes raised for it (R748). -/
  once   : List Nat
  /-- A write failed and writing stopped (R750). -/
  dead   : Bool
  /-- Device time of the close. -/
  close  : Option Nat
deriving DecidableEq, Repr

/-- A camera context outside its registers (15): the open frame, and closed ones in capture order. -/
structure CamSt where
  frame  : Option Frame
  closed : List Frame
deriving DecidableEq, Repr

/-- A damage record's run, with its method: 0 COPY_REF, 1 GREY, 2 DECODED (R767, R768). -/
structure DmgRec where
  first  : Nat
  units  : Nat
  cause  : Nat
  method : Nat
deriving DecidableEq, Repr

/-- A decoded picture that the stream still holds (R762, R763, R768). -/
structure VPic where
  no     : Nat
  /-- Pool buffer; none with NO_PIXELS (R765). -/
  buf    : Option Nat
  stamp  : Nat
  fmt    : Nat
  width  : Nat
  height : Nat
  flags  : Nat
  runs   : List DmgRec
  unitLog2 : Nat
  poc    : Int
  /-- It is a reference. -/
  ref    : Bool
  /-- It waits for output. -/
  held   : Bool
deriving DecidableEq, Repr

/-- A decoder stream outside its registers (16). -/
structure VdecSt where
  /-- Pictures decoded since enable (R765). -/
  count  : Nat
  pics   : List VPic
  /-- Pictures put out and not yet published, by DECODE_NO, with LAST. -/
  out    : List (Nat × Bool)
  /-- Chunks read: PTS where valid, and the pictures that start there and are not decoded (R761). -/
  chunks : List (Option Nat × Nat)
  /-- An EOS chunk was read and not yet acted on (R763). -/
  eos    : Bool
  /-- Buffers that published entries name, by ring position (R762). -/
  named  : List (Nat × Nat)
  /-- Entries of Q96 to pass whose chunks of this stream are skipped (R787). -/
  skip   : Nat
deriving DecidableEq, Repr

/-- A source frame that VENC has read (R771): flags, SEQ, CAPTURE_DT, and the place in its clip. -/
structure VencSrc where
  flags  : Nat
  seq    : Nat
  dt     : Nat
  clipStart : Bool
  clipEnd   : Bool
  /-- Frames of the clip from this one on (R774). -/
  left   : Nat
deriving DecidableEq, Repr

/-- The encoder outside its registers (16). -/
structure VencSt where
  src    : List VencSrc
  /-- The offset in the unit buffer after the last unit. -/
  wp     : Nat
  /-- Units whose entries may be unconsumed: ring position, offset, length. -/
  units  : List (Nat × Nat × Nat)
  /-- Sources of the open clip still to come (R774). -/
  clip   : Nat
  /-- Pictures since the last IDR; none before the first. -/
  sinceIdr : Option Nat
deriving DecidableEq, Repr

/-- A batch that a stream of the sample pipeline fills or has closed (R810-R814). -/
structure Batch where
  bucket  : Nat
  buf     : Nat
  count   : Nat
  /-- Device time at which its first sample was taken (R811). -/
  since   : Nat
  first   : Nat
  capture : Nat
  damaged : Bool
  /-- Its timer expired while a sample was in progress (R824). -/
  expired : Bool
  /-- FLAGS bits TIMEOUT and FLUSH of its close, and SEQ. -/
  flags   : Nat
  seq     : Nat
deriving DecidableEq, Repr

/-- What a stream has closed and not published, in order (R815, R816): a batch, or the drop run with its SEQ. -/
inductive SplItem where
  | batch (b : Batch)
  | drop (seq : Nat)
deriving DecidableEq, Repr

/-- A drop run (R816): first index, first capture stamp, samples, device time of its first drop, and whether it ended. -/
structure DropRun where
  first   : Nat
  capture : Nat
  count   : Nat
  since   : Nat
  ended   : Bool
deriving DecidableEq, Repr

/-- A stream of the sample pipeline outside its registers (17). -/
structure SplSt where
  open_  : List Batch
  queue  : List SplItem
  run    : Option DropRun
  /-- Buffers that published entries name, by ring position (R810). -/
  named  : List (Nat × Nat)
  /-- SEQ of the next entry (R814). -/
  seq    : Nat
deriving DecidableEq, Repr

/-- The sample in progress (R793): stream, entry, index, bucket. -/
structure SplJob where
  stream : Nat
  entry  : List Byte
  index  : Nat
  bucket : Nat
deriving DecidableEq, Repr

/-- A wake-reason record that waits for its write (R852, R873): the tick's events so far. -/
structure WakeRec where
  tick   : Nat
  main   : Nat
  action : Nat
  source : Nat
  slot   : Nat
  gpio   : Nat
  dt     : Nat
  /-- Phrase start frame and length (R840, R852). -/
  phrase : Option (Nat × Nat)
  link   : Nat
deriving DecidableEq, Repr

/-- One microphone channel's decimation filter (R842): integrators, combs, and the last 63 scaled samples, newest first. -/
structure PdmSt where
  integ : List Word
  comb  : List Word
  ys    : List Int
deriving DecidableEq, Repr

/-- The keyword-spotting unit outside its registers (R838-R848). -/
structure KwsSt where
  ch0   : PdmSt
  ch1   : PdmSt
  /-- Hops computed since enable. -/
  hops  : Nat
  /-- Consecutive hops at or above THRESH, and the frame at which the first of them started. -/
  run   : Nat
  start : Nat
  /-- The hop of the last model record (R848). -/
  bad   : Option Nat
deriving DecidableEq, Repr

/-- The cross-domain link outside its registers (R856-R863). -/
structure LinkSt where
  /-- Misses of the main end; the AO end's are in GT_LINK_STAT (R859). -/
  missMain : Nat
  /-- Device times at which the running token periods of the AO end and the main end started. -/
  sinceAo  : Nat
  sinceMain : Nat
  /-- Device times of LINK_DOWN declarations that count (R861). -/
  downs    : List Nat
  /-- Device time from which the next attempt may start (R860). -/
  next     : Nat
  /-- The start handshake of R863 runs. -/
  hs       : Bool
  /-- The last SEQ the main end took (R857). -/
  rxSeq    : Option Nat
  /-- Tokens still suppressed by an injection, and its NOCOUNT (R972). -/
  suppress : Nat
  inj      : Option Bool
deriving DecidableEq, Repr

/-- The Gatehouse outside its registers and its SRAM (18). -/
structure GateSt where
  recs  : List WakeRec
  /-- The wake alarm is armed (R850). -/
  alarm : Bool
  /-- AO tick of each slot's last poll (R865). -/
  polls : SMap Nat
  /-- Words behind AI_DATA (R864): received, and waiting for the next AI_CMD. -/
  aiRx  : List Word
  aiTx  : List Word
  kws   : KwsSt
  link  : LinkSt
deriving DecidableEq, Repr

/-- What a pad presents: a driven level, or none, and its pull code (R993, R1010, R1020). -/
structure Pad where
  drive : Option Bool
  pull  : Nat
deriving DecidableEq, Repr

/-- The pads and pin functions outside their registers (21). -/
structure PinSt where
  /-- Synchronised pad levels (R991). -/
  level  : BitVec 48
  locked : BitVec 48
  /-- Key sequences by core code: 1 first key written, 2 ready for the mask (R1006). -/
  keys   : SMap Nat
  /-- PWM0-3 and AO_PWM0-1 (4, 5): start of the running period, and level (R996). -/
  pwm    : SMap (Nat × Bool)
  /-- EVT0-7 (R996). -/
  evt    : BitVec 8
  /-- Sleep states that pads hold (R1011, R1012). -/
  held   : SMap Pad
  /-- Latches of GP_TCAPn_HI by 8 * core code + n (R1017). -/
  cap    : SMap Word
deriving DecidableEq, Repr

/-- The application cluster and its peripherals outside their registers (22). -/
structure AppSt where
  /-- Comparisons that a write of APPC_MTCMPc_LO suspended (R1038). -/
  suspend : BitVec 4
  /-- Machine timer interrupts delivered (R1038). -/
  mtip    : BitVec 4
  /-- A cluster reset that waits for a point change, with the lines held dirty (R1047). -/
  rst     : Option Nat
  uartTx  : List Byte
  uartRx  : List Byte
  /-- Receive FIFOs of I2C0 and I2C1. -/
  i2c     : SMap (List Byte)
deriving DecidableEq, Repr

/-- The TAP (23): instruction code, boundary register, and which instruction controls the pads: 0 none, 1 EXTEST,
2 CLAMP, 3 HIGHZ (R1070, R1076). -/
structure TapSt where
  ir       : Nat
  boundary : Nat
  control  : Nat
deriving DecidableEq, Repr

/-- What the last command answered: data, bytes, bus error, the status byte of an xSPI response (R98), and messages
the endpoint sent on its own. -/
structure Resp where
  data   : List Word
  bytes  : List Byte
  busErr : Bool
  status : Option Nat
  msgs   : List OutMsg
deriving DecidableEq, Repr

/-- The device. -/
structure State where
  part    : Part
  /-- The HOST_SEL level sampled at the last reset (R86). -/
  hostSel : Bool
  /-- Belvedere runs FW0 (R47, R48). -/
  belvSec : Bool
  /-- Registers by address; an unlisted register holds its reset value. -/
  regs    : SMap Word
  /-- Memory by address; an unlisted byte is undefined (log entry 6). -/
  mem     : SMap Byte
  /-- BUSY pages by page number (R58, R66). -/
  jobs    : SMap PageJob
  held    : List Held
  /-- Pages whose first lock key was written (R53). -/
  keys    : List Nat
  time    : TimeSt
  /-- TIME_DT_HI latches by core code (R141). -/
  latches : SMap Word
  port    : PortSt
  power   : PowerSt
  ddr     : DdrSt
  ora     : OraSt
  chans   : SMap Chan
  rings   : SMap RingSt
  check   : CheckSt
  cores   : SMap CoreSt
  seqs    : SMap SeqSt
  images  : List Image
  /-- Results of the running collectives (R619). -/
  coll    : List CollOut
  disp    : DispSt
  /-- Device times of group stops of the prefetch unit (R347). -/
  pfg     : List Nat
  fw      : FwSt
  /-- Camera contexts by 4p + s (R744). -/
  cams    : SMap CamSt
  /-- Parameter blocks that ISP slots hold, by 2n + t (R742). -/
  params  : SMap (List Byte)
  /-- Decoder streams. -/
  vdec    : SMap VdecSt
  /-- The decoder stream that round robin served last (R758). -/
  vdecLast : Nat
  venc    : VencSt
  /-- The JPEG job in progress, as its entry (R775). -/
  jpeg    : Option (List Byte)
  /-- Streams of the sample pipeline, the sample in progress, and the stream served last (R793). -/
  spl     : SMap SplSt
  splJob  : Option SplJob
  splLast : Nat
  gate    : GateSt
  pins    : PinSt
  app     : AppSt
  tap     : TapSt
  /-- The model's counter for free values (log entry 5). -/
  seq     : Nat
  resp    : Resp
  /-- Commands waiting, first in, first out (log entry 1). -/
  pending : List Instr
deriving DecidableEq, Repr

/-- No command stops the device: the spec gives every one an effect, so there is no fault. -/
inductive Fault where
deriving DecidableEq, Repr

/-- Why a command has no meaning. -/
inductive Refusal where
  /-- A command that the model does not give its meaning. Safe: nothing is claimed about it. -/
  | notModelled (mnemonic : String)
deriving DecidableEq, Repr

/-- A channel with nothing fetched. -/
def Chan.init : Chan := { active := none, hold := [], released := [], faults := [], pausing := false, upTo := 0, progress := 0 }

/-- A ring with nothing published. -/
def RingSt.init : RingSt := { pub := 0, pubDt := 0, space := false, fullRec := false }

/-- A core after reset: instruction memory and accumulators not written, chain table clear. -/
def CoreSt.init : CoreSt :=
  { imem := [], imStage := [], acc := [], vt := [], vtStage := 0, spans := [], clash := [], hlu := [], tbWrote := [], acWrote := [],
    resTimes := [], imTimes := [], recorded := false, coll := false, land := [] }

/-- An idle sequencer. -/
def SeqSt.init : SeqSt :=
  { loop := 0, lc := 0, done := 0, cur := 0, expiry := 0, commitDt := 0, used := [], kill := none, preempt := false, overran := false,
    rerun := false, clock := 0 }

/-- A loop that has seen nothing. -/
def LoopSt.init : LoopSt := { step := none, defer := 0, head := none, abandon := 0 }

/-- Dispatch after reset: DETACHED (R687), the pointer at L0 (R672). -/
def DispSt.init : DispSt :=
  { loops := [], ptr := 0, attach := 0, hbDt := 0, orphanDt := none, abandoning := false, load := none, order := 0 }

/-- A pair in step. -/
def PairSt.init : PairSt :=
  { diverged := false, scrMain := 0, scrChk := 0, times := [], scrubDt := 0, injected := false, nocount := false }

/-- The sleep record after a power-on reset (R204). -/
def SleepRec.init : SleepRec :=
  { result := 0, count := 0, wakeDt := 0, readyDt := 0, shutdown := false, ceilNpu := 3, ceilApp := 3 }

/-- Supplies after reset: every rail good, RUN, both points 0 (R166, R172); log entry 4. -/
def PowerSt.init : PowerSt :=
  { rails := 0x7FF, pstate := .run, opNpu := none, opApp := none, vselNpu := 0, vselApp := 0, pmicSlp := false,
    goDt := none, past := false, wakePend := none, wakeSeq := none, slowWake := false, kept := SleepRec.init, tmax := [],
    govDt := 0,
    thermOff := false, lostSlp := 0 }

/-- DRAM after reset: nothing trained. -/
def DdrSt.init : DdrSt :=
  { train := none, attempts := 0, trained := 0, tracked := 0, retain := none, trkA := 0, trkB := 0, trkDt := [], pdA := false, pdB := false,
    refA := { perBank := 0, allBank := 0 }, refB := { perBank := 0, allBank := 0 }, offDt := none, queue := [], tokens := [], tokDt := 0, lastPort := [] }

/-- The port after a port reset (R90, R124). -/
def PortSt.init : PortSt := { octal := false, armed := false, fifo := [], prefetch := [], replay := none, halted := none }

/-- Device time when the AO power-on reset is released (R131, R169). -/
def TimeSt.init : TimeSt :=
  { a := 0, s := 0, acc := 0, since := 0, sinceSy := 0, fine := true, aoLost := false, resume := false }

/-- No claim and an empty slot table (R270). -/
def OraSt.init : OraSt := { slots := [], claims := [], jobs := [], lastCc := 3 }

/-- No record, nothing armed, nothing retired. -/
def CheckSt.init : CheckSt :=
  { queue := [], raised := [], mirror := [], staged := [], armed := none, parity := none, pairs := [],
    retCore := 0, retCl := 0, retCh := 0, retDisp := false, retPfu := false }

/-- A context with no frame. -/
def CamSt.init : CamSt := { frame := none, closed := [] }

/-- A stream that has read nothing. -/
def VdecSt.init : VdecSt := { count := 0, pics := [], out := [], chunks := [], eos := false, named := [], skip := 0 }

/-- An encoder that has read nothing. -/
def VencSt.init : VencSt := { src := [], wp := 0, units := [], clip := 0, sinceIdr := none }

/-- A stream with nothing taken. -/
def SplSt.init : SplSt := { open_ := [], queue := [], run := none, named := [], seq := 0 }

/-- A filter with every history 0 (R842). -/
def PdmSt.init : PdmSt :=
  { integ := List.replicate 4 0, comb := List.replicate 4 0, ys := List.replicate 63 0 }

/-- A unit that has heard nothing. -/
def KwsSt.init : KwsSt := { ch0 := PdmSt.init, ch1 := PdmSt.init, hops := 0, run := 0, start := 0, bad := none }

/-- A link that is UP (R867). -/
def LinkSt.init : LinkSt :=
  { missMain := 0, sinceAo := 0, sinceMain := 0, downs := [], next := 0, hs := false, rxSeq := none, suppress := 0,
    inj := none }

/-- The Gatehouse after its reset. -/
def GateSt.init : GateSt :=
  { recs := [], alarm := false, polls := [], aiRx := [], aiTx := [], kws := KwsSt.init, link := LinkSt.init }

/-- No update. -/
def UpdSt.init : UpdSt := { who := 0, dt := 0, xfer := 0, size := 0, got := 0, prev := 0, done := [] }

/-- Firmware before FW0 has run; the flash as erased (log entry 36). -/
def FwSt.init : FwSt :=
  { comps := [], flash := [], pending := false, sel := [], counts := [], lost := 0, report := none, flashLog := 0,
    snDt := 0, sensors := [], tid := 0, events := none, upd := UpdSt.init, digests := [], sleep := none, saved := [] }

/-- Pads at their reset configuration, every level low (R1014, log entry 4). -/
def PinSt.init : PinSt := { level := 0, locked := 0, keys := [], pwm := [], evt := 0, held := [], cap := [] }

/-- Cores held, FIFOs empty. -/
def AppSt.init : AppSt := { suspend := 0, mtip := 0, rst := none, uartTx := [], uartRx := [], i2c := [] }

/-- The TAP after its reset: IDCODE selected (R1070). -/
def TapSt.init : TapSt := { ir := 2, boundary := 0, control := 0 }

/-- Nothing answered. -/
def Resp.init : Resp := { data := [], bytes := [], busErr := false, status := none, msgs := [] }

/-- The device when the main-domain reset is released for the first time after power-on (R9, R169 step 6):
every register at its reset value, memory undefined, the Boot ROM about to run as SEC, the queue empty.
Part and strap are log entry 2. -/
def State.reset : State :=
  { part := .osv4116, hostSel := false, belvSec := true, regs := [], mem := [], jobs := [], held := [], keys := [],
    time := TimeSt.init, latches := [], port := PortSt.init, power := PowerSt.init, ddr := DdrSt.init,
    ora := OraSt.init, chans := [], rings := [], check := CheckSt.init, cores := [], seqs := [], images := [],
    coll := [], disp := DispSt.init, pfg := [], fw := FwSt.init, cams := [], params := [],
    vdec := [], vdecLast := 3, venc := VencSt.init, jpeg := none,
    spl := [], splJob := none, splLast := 15, gate := GateSt.init, pins := PinSt.init, app := AppSt.init, tap := TapSt.init, seq := 0, resp := Resp.init, pending := [] }

end Sys2Proof.Machine
end

