-- ==== Sys2Proof/Machine/Ops.lean ====
section
/-! DEFINITION. The named operations over registers, memory, device time, interrupts and error records. -/

namespace Sys2Proof.Machine

/-! ### Registers -/

/-- The stored value of a register. -/
def State.reg (s : State) (addr : Nat) : Word := (s.regs.get? addr).getD (resetReg s.part s.hostSel addr)

/-- Store a register; a register at its reset value is not listed. -/
def State.setReg (s : State) (addr : Nat) (w : Word) : State :=
  { s with regs := if w = resetReg s.part s.hostSel addr then s.regs.del addr else s.regs.put addr w }

/-- The register at an offset of a block's page. -/
def State.get (s : State) (b : Blk) (off : Nat) : Word := s.reg (b.at off)

/-- Store the register at an offset of a block's page. -/
def State.set (s : State) (b : Blk) (off : Nat) (w : Word) : State := s.setReg (b.at off) w

/-- A register as a number. -/
def State.getN (s : State) (b : Blk) (off : Nat) : Nat := (s.get b off).toNat

/-- Store a number in a register. -/
def State.setN (s : State) (b : Blk) (off n : Nat) : State := s.set b off (wd n)

/-- A field of a register. -/
def State.getF (s : State) (b : Blk) (off hi lo : Nat) : Nat := fld (s.get b off) hi lo

/-- Store a field of a register. -/
def State.setF (s : State) (b : Blk) (off hi lo v : Nat) : State := s.set b off (setFld (s.get b off) hi lo v)

/-- A bit of a register. -/
def State.getB (s : State) (b : Blk) (off i : Nat) : Bool := bit (s.get b off) i

/-- Store a bit of a register. -/
def State.setB (s : State) (b : Blk) (off i : Nat) (v : Bool) : State := s.set b off (setBit (s.get b off) i v)

/-- Set the bits of a mask in a register. -/
def State.orReg (s : State) (b : Blk) (off : Nat) (m : Word) : State := s.set b off (s.get b off ||| m)

/-- Clear the bits of a mask in a register. -/
def State.andNot (s : State) (b : Blk) (off : Nat) (m : Word) : State := s.set b off (s.get b off &&& ~~~ m)

/-- Count in a 32-bit register, stopping at 0xFFFFFFFF. -/
def State.count (s : State) (b : Blk) (off k : Nat) : State := s.setN b off (satAdd (s.getN b off) k 0xFFFFFFFF)

/-- Count in a 32-bit register, wrapping. -/
def State.countWrap (s : State) (b : Blk) (off k : Nat) : State := s.setN b off (s.getN b off + k)

/-- Count in a field, stopping at its greatest value. -/
def State.countF (s : State) (b : Blk) (off hi lo k : Nat) : State :=
  s.setF b off hi lo (satAdd (s.getF b off hi lo) k (2 ^ (hi + 1 - lo) - 1))

/-- Store a 64-bit value, low word first. -/
def State.set64 (s : State) (b : Blk) (off n : Nat) : State := (s.setN b off n).setN b (off + 4) (n >>> 32)

/-- A 64-bit value, low word first. -/
def State.get64 (s : State) (b : Blk) (off : Nat) : Nat := s.getN b off + (s.getN b (off + 4)) <<< 32

/-- Return every register of a page to its reset value. -/
def State.clearPage (s : State) (b : Blk) : State := { s with regs := s.regs.clear (b.at 0) 0x1000 }

/-! ### Page header (R108, R110) -/

/-- PG_CTRL. -/
def offCtrl : Nat := 0x008
/-- PG_STATUS. -/
def offStatus : Nat := 0x00C
/-- PG_REASON. -/
def offReason : Nat := 0x010
/-- PG_IRQ_RAW. -/
def offRaw : Nat := 0x014
/-- PG_IRQ_EN. -/
def offEn : Nat := 0x018
/-- PG_OWNER. -/
def offOwner : Nat := 0x01C
/-- PG_LOCK_KEY. -/
def offKey : Nat := 0x020
/-- PG_ERRCNT. -/
def offErrcnt : Nat := 0x024
/-- PG_COLLCNT. -/
def offCollcnt : Nat := 0x028

/-- PG_STATUS.ENABLED. -/
def State.enabled (s : State) (b : Blk) : Bool := s.getB b offStatus 0
/-- PG_STATUS.REFUSED. -/
def State.refusedB (s : State) (b : Blk) : Bool := s.getB b offStatus 1
/-- PG_STATUS.RETIRED. -/
def State.retiredB (s : State) (b : Blk) : Bool := s.getB b offStatus 4
/-- PG_OWNER.OWNER. -/
def State.owner (s : State) (b : Blk) : Nat := s.getF b offOwner 3 0
/-- PG_OWNER.LOCKED. -/
def State.pageLocked (s : State) (b : Blk) : Bool := s.getB b offOwner 8

/-- Set bits of PG_IRQ_RAW. -/
def State.irq (s : State) (b : Blk) (i : Nat) : State := s.setB b offRaw i true

/-- The job that holds a page BUSY. -/
def State.busy (s : State) (b : Blk) : Bool := (s.jobs.get? b.pg).isSome

/-- Set PG_STATUS.FAULT and its interrupt (R110). -/
def State.pageFault (s : State) (b : Blk) : State := (s.setB b offStatus 3 true).irq b 1

/-- BUSY clears. -/
def clearJob (b : Blk) (s : State) : State := { s with jobs := s.jobs.del b.pg }

/-- What a refused check leaves on its page, its error record apart (R60). -/
def State.refusePage (s : State) (b : Blk) (code off : Nat) : State :=
  (((s.setB b offCtrl 0 false).setB b offStatus 1 true).irq b 0).setN b offReason (code + off * 0x10000)

/-- A rail is good (R160). -/
def State.rail (s : State) (r : Nat) : Bool := s.power.rails.getLsbD r

/-- A page is present: its rails are good and its domain is up (R41, R42, R162). -/
def State.present (s : State) (b : Blk) : Bool :=
  b.rails.all s.rail &&
    (if b.isAo then decide (s.power.pstate ≠ .off) && decide (s.power.pstate ≠ .aoHeld)
     else decide (s.power.pstate = .run) || decide (s.power.pstate = .waking))

/-- A clock domain runs (CLK_ON_LO, CLK_ON_HI; R184). -/
def State.clockOn (s : State) (d : Nat) : Bool :=
  if d < 32 then s.getB .clk 0x60 d
  else if d < 60 then s.getB .clk 0x64 (d - 32)
  else s.getB .gate 0x48 (d - 60)

/-! ### Masters (R47) -/

/-- The XFE channel page and block base of channel `c` (R320). -/
def chanBlk (c : Nat) : Blk := .xch (c / 4)
/-- The first offset of channel `c`'s registers (R320). -/
def chanOff (c : Nat) : Nat := 0x40 + 0x40 * (c % 4)

end Sys2Proof.Machine

namespace Sys2Proof

/-- The domain a master carries (R47, R48). -/
def Master.dom (s : Machine.State) : Master → Nat
  | .belvedere => if s.belvSec then Machine.domSec else Machine.domMgmt
  | .dispatch => Machine.domSched
  | .sequencer _ => Machine.domSched
  | .gatehouse => Machine.domGate
  | .application _ => Machine.domApp
  | .xspi => Machine.domXhost
  | .channel c => s.owner (Machine.chanBlk c.val)

/-- The core code a master carries (R47). -/
def Master.code : Master → Nat
  | .belvedere => 0x10
  | .dispatch => 0x20
  | .sequencer k => 0x21 + k.val
  | .gatehouse => 0x30
  | .application c => 0x40 + c.val
  | .xspi => 0x60
  | .channel c => 0x80 + c.val

end Sys2Proof

namespace Sys2Proof.Machine

/-- The master has latches, selectors, staging sets and key sequences of its own: every core code but those of the XFE
channels (R141, R909, R971, R1006, R1017). -/
def hasLatch (m : Master) : Bool :=
  match m with
  | .channel _ => false
  | _ => true

/-! ### Device time (R131) -/

/-- DT. -/
def TimeSt.dt (t : TimeSt) : Nat := 1000 * t.a + t.s

/-- DT as a main-domain block stamps it (R139); log entry 12. -/
def State.dt (s : State) : Nat := s.time.dt

/-- The stamps within a window of `w` units that ends now, both ends included (R1079). -/
def within (now w : Nat) (l : List Nat) : List Nat := l.filter (fun t => decide (now ≤ t + w))

/-- 1 s, 10 s, 60 s and 600 s in DT units (R1079). -/
def oneSecond : Nat := 32768000

/-! ### Memory -/

/-- A byte of memory; one that nothing has written is undefined (R11, log entry 6). -/
def State.byte (s : State) (addr : Nat) : Byte := (s.mem.get? addr).getD (Config.freeByte s.seq addr)

/-- `n` bytes from an address. -/
def State.bytes (s : State) (addr n : Nat) : List Byte := (List.range n).map (fun i => s.byte (addr + i))

/-- The little-endian number of `n` bytes (R5). -/
def State.load (s : State) (addr n : Nat) : Nat := leNat (s.bytes addr n)

/-- Write bytes in ascending order. -/
def putBytes (m : SMap Byte) : Nat → List Byte → SMap Byte
  | _, [] => m
  | a, b :: bs => putBytes (m.put a b) (a + 1) bs

/-- The canonical form of memory: rising addresses. No byte can equal what an unlisted address reads as, for that is a
free value (log entry 6). -/
def Memory.wf (m : SMap Byte) : Bool := m.sorted

/-- Write bytes to memory. -/
def State.storeBytes (s : State) (addr : Nat) (bs : List Byte) : State := { s with mem := putBytes s.mem addr bs }

/-- Write a little-endian number of `n` bytes (R5). -/
def State.store (s : State) (addr n v : Nat) : State := s.storeBytes addr (leBytes v n)

/-- The bytes of [addr, addr + n) become undefined. -/
def State.undef (s : State) (addr n : Nat) : State := { s with mem := s.mem.clear addr n }

/-! ### Indexed parts of the state -/

/-- An XFE channel. -/
def State.chan (s : State) (c : Nat) : Chan := (s.chans.get? c).getD Chan.init
/-- Store an XFE channel. -/
def State.setChan (s : State) (c : Nat) (x : Chan) : State := { s with chans := s.chans.put c x }
/-- A ring. -/
def State.ring (s : State) (q : Nat) : RingSt := (s.rings.get? q).getD RingSt.init
/-- Store a ring. -/
def State.setRing (s : State) (q : Nat) (x : RingSt) : State := { s with rings := s.rings.put q x }
/-- A neural core. -/
def State.core (s : State) (n : Nat) : CoreSt := (s.cores.get? n).getD CoreSt.init
/-- Store a neural core. -/
def State.setCore (s : State) (n : Nat) (x : CoreSt) : State := { s with cores := s.cores.put n x }
/-- A cluster sequencer. -/
def State.cseq (s : State) (k : Nat) : SeqSt := (s.seqs.get? k).getD SeqSt.init
/-- Store a cluster sequencer. -/
def State.setCseq (s : State) (k : Nat) (x : SeqSt) : State := { s with seqs := s.seqs.put k x }
/-- A lockstep pair. -/
def State.pair (s : State) (p : Nat) : PairSt := (s.check.pairs.get? p).getD PairSt.init
/-- Store a lockstep pair. -/
def State.setPair (s : State) (p : Nat) (x : PairSt) : State :=
  { s with check := { s.check with pairs := s.check.pairs.put p x } }

/-! ### Firmware components (R886, R930) -/

/-- A component. -/
def State.comp (s : State) (c : Nat) : Comp :=
  (s.fw.comps.get? c).getD
    { state := 0, version := 0, iface := 0, reason := 0, bank := 0, untested := false, staged := false, digest := [], req := [],
      kicks := [], started := none, restarts := [] }

/-- Store a component. -/
def State.setComp (s : State) (c : Nat) (x : Comp) : State := { s with fw := { s.fw with comps := s.fw.comps.put c x } }
/-- Change a component. -/
def State.updComp (s : State) (c : Nat) (f : Comp → Comp) : State := s.setComp c (f (s.comp c))
/-- A component reads RUNNING (R930). -/
def State.fwRuns (s : State) (c : Nat) : Bool := (s.comp c).state == 2

/-- A pair after its reset or the reload of its snapshot: in step, LSCRATCH 0 (R577, R948). -/
def resetPair (p : Nat) (s : State) : State :=
  s.setPair p { s.pair p with diverged := false, scrMain := 0, scrChk := 0, injected := false, nocount := false }

/-! ### Rejections (R56) and error records (R959) -/

/-- What a rejected access leaves: the count, the interrupt, and PG_REASON unless it holds a refusal (R56, R70). -/
def State.reject (s : State) (b : Blk) (off code : Nat) : State :=
  let s1 := (s.countF b offErrcnt 15 0 1).irq b 3
  if s1.refusedB b then s1 else s1.setN b offReason (code + off <<< 16)

/-- A rejection with a common detail (R69). -/
def State.rejectD (s : State) (b : Blk) (off detail : Nat) : State := s.reject b off (b.type * 256 + detail)

/-- Class TRANSIENT (R960). -/
def clsTransient : Nat := 0
/-- Class PERMANENT. -/
def clsPermanent : Nat := 1
/-- Class LATENT. -/
def clsLatent : Nat := 2
/-- Class CONFIG. -/
def clsConfig : Nat := 3
/-- Class UNTESTED. -/
def clsUntested : Nat := 4

/-- The temperature sensor and the voltage monitor of a unit (R963). -/
def sensorOf (unit : Nat) : Nat × Nat :=
  let ty := unit / 256
  let i := unit % 256
  if ty = 0x20 then (clusterOf i, 3)
  else if ty = 0x21 then (i, 1)
  else if ty = 0x12 then (5, 2)
  else if ty = 0x30 then (6, 6)
  else if ty = 0x40 then (11, 8)
  else if ty = 0x41 ∨ (0x48 ≤ ty ∧ ty ≤ 0x4A) then (7, 1)
  else if ty = 0x90 then (4, 4)
  else if ty = 7 ∨ ty = 8 ∨ (0x80 ≤ ty ∧ ty ≤ 0x82) then (9, 1)
  else if ty = 0x70 ∨ ty = 0x71 then (8, 9)
  else (8, 1)

/-- TEMP of a record: the latest SENS publication, 0x8000 when unavailable (R959, R963). -/
def State.tempOf (s : State) (unit : Nat) : Nat :=
  let r := s.get .sens (0x40 + 4 * (sensorOf unit).1)
  if bit r 31 then fld r 15 0 else 0x8000

/-- VOLT of a record, 0 when unavailable. -/
def State.voltOf (s : State) (unit : Nat) : Nat :=
  let r := s.get .sens (0x80 + 4 * (sensorOf unit).2)
  if bit r 31 then fld r 15 0 else 0

/-- DETAIL padded to 10 bytes. -/
def pad10 (bs : List Byte) : List Byte := (bs ++ List.replicate 10 0#8).take 10

/-- An error record as hardware raises it, stamped `dt` (R959, R963). -/
def State.record (s : State) (dt unit code op cls : Nat) (inj : Bool) (detail : List Byte) : ErrRec :=
  { dt := dt, unit := unit, code := code, op := op, temp := s.tempOf unit, volt := s.voltOf unit,
    cls := cls + inj.toNat * 0x40, rpt := 0, detail := pad10 detail }

/-- A block raises an error record; it is counted on the block's page (R110) and waits for the ERR queue (R964). -/
def State.raiseRec (s : State) (b : Blk) (code op cls : Nat) (inj : Bool) (detail : List Byte) : State :=
  let s1 := s.countF b offErrcnt 31 16 1
  { s1 with check := { s1.check with
      raised := s1.check.raised ++ [(s.seq, s.record s.dt b.unit code op cls inj detail)] } }

/-- An error record that is not injected. -/
def State.raise (s : State) (b : Blk) (code op cls : Nat) (detail : List Byte) : State :=
  s.raiseRec b code op cls false detail

/-- The check of context or stream `k` of a page starts and makes the page BUSY (R58, R746, R782); none where the page is BUSY
with another job since this cycle. -/
def startUnit (b : Blk) (k : Nat) (s : State) : Option State :=
  match s.jobs.get? b.pg with
  | none => some { s with jobs := s.jobs.put b.pg (.units [k]) }
  | some (.units ks) => some { s with jobs := s.jobs.put b.pg (.units (ks.filter (· != k) ++ [k])) }
  | some _ => none

/-- EN is written at 0 in the cycle in which a check started: it has no outcome. -/
def dropUnit (b : Blk) (p : Nat → Bool) (s : State) : State :=
  match s.jobs.get? b.pg with
  | some (.units ks) => { s with jobs := s.jobs.put b.pg (.units (ks.filter (fun k => !p k))) }
  | _ => s

/-- A running check of a main-domain page ends with a refusal at offset 0x008 (R128). -/
def State.endCheck (s : State) (b : Blk) (detail : Nat) : State :=
  if s.jobs.get? b.pg = some .check then
    ((clearJob b s).refusePage b (b.type * 256 + detail) offCtrl).raise b (b.type * 256 + detail) 0 clsConfig
      [byteOf offCtrl 0, byteOf offCtrl 1]
  else s

/-- Hardware raises RETIRED on a page (R110), which ends a running check (R128). -/
def State.retirePage (s : State) (b : Blk) : State := (s.setB b offStatus 4 true).endCheck b 0x0A

/-! ### Answers -/

/-- Answer data words. -/
def State.answer (s : State) (ws : List Word) : State := { s with resp := { s.resp with data := ws } }
/-- Answer bytes. -/
def State.answerBytes (s : State) (bs : List Byte) : State := { s with resp := { s.resp with bytes := bs } }
/-- Answer with a bus error. -/
def State.busError (s : State) : State := { s with resp := { s.resp with busErr := true } }
/-- Answer with a port status (R98). -/
def State.status (s : State) (n : Nat) : State := { s with resp := { s.resp with status := some n } }

/-! ### Running a command -/

/-- A command that leaves device time alone: the effect `f`, the answer of this command, the next free value. -/
def run (f : State → State) (s : State) : Host.Outcome State Fault Refusal :=
  let s1 := f { s with resp := Resp.init }
  .next { s1 with time := s.time, part := s.part, seq := s.seq + 1, pending := s.pending }

/-- A command that acts on the counter of device time as `g` has it. -/
def runTime (g : State → TimeSt) (f : State → State) (s : State) : Host.Outcome State Fault Refusal :=
  let s1 := f { s with resp := Resp.init }
  .next { s1 with time := g s, part := s.part, seq := s.seq + 1, pending := s.pending }

end Sys2Proof.Machine
end

