-- ==== Sys2Proof/Machine/MemMap.lean ====
section
/-! DEFINITION. The physical address space (R219) and which master reaches which region (R222). -/

namespace Sys2Proof.Machine

/-- The regions of R219. -/
inductive Region where
  | rom | orangery
  | tile (n : Nat)
  | gtSram | belvSram | dispSram | registers | dram
deriving DecidableEq, Repr

/-- Orangery window. -/
def oraBase : Nat := 0x10000000
/-- The Orangery window is 32 MiB on every part (R4). -/
def oraWindow : Nat := 0x02000000
/-- Tile buffer of core `n`. -/
def tileBase (n : Nat) : Nat := 0x20000000 + n * 0x100000
/-- Tile buffer bytes. -/
def tileSize : Nat := 0x40000
/-- Gatehouse SRAM. -/
def gtSram : Nat := 0x30000000
/-- Its bytes. -/
def gtSramSize : Nat := 0x80000
/-- Belvedere SRAM. -/
def belvSram : Nat := 0x31000000
/-- Its bytes. -/
def belvSramSize : Nat := 0x40000
/-- Dispatch SRAM. -/
def dispSram : Nat := 0x32000000
/-- Its bytes. -/
def dispSramSize : Nat := 0x80000
/-- DRAM. -/
def dramBase : Nat := 0x80000000
/-- The end of the DRAM window. -/
def dramEnd : Nat := 0x480000000

/-! ### Where a byte of the Orangery or of DRAM lies (R229, R261) -/

/-- The bank of offset `o` of the Orangery. -/
def oraBank (p : Part) (o : Nat) : Nat := o / 64 % p.banks
/-- The line of offset `o` within its bank. -/
def oraLine (p : Part) (o : Nat) : Nat := o / (64 * p.banks)
/-- The byte of offset `o` within its line. -/
def oraByte (o : Nat) : Nat := o % 64
/-- The group of a bank; group g uses clock domain ORA_Gg. -/
def oraGroup (b : Nat) : Nat := b / 4

/-- The channel of a DRAM address: 0 A, 1 B. -/
def ddrChan (a : Nat) : Nat := ((a - dramBase) / 0x100 + (a - dramBase) / 0x2000) % 2

/-- A place in the DRAM devices. -/
structure DramPlace where
  chan : Nat
  rank : Nat
  row  : Nat
  bank : Nat
  col  : Nat
deriving DecidableEq, Repr

/-- The place of a DRAM address with `ranks` ranks and DDR_SIZE of `size` bytes. -/
def dramPlace (ranks size a : Nat) : DramPlace :=
  let o := a - dramBase
  let rank := if ranks = 2 ∧ size / 2 ≤ o then 1 else 0
  { chan := ddrChan a
    rank := rank
    row := (o - rank * (size / 2)) / 0x10000
    bank := (o / 0x1000 % 16) ^^^ (o / 0x10000 % 16)
    col := o % 0x100 + 0x100 * (o / 0x200 % 8) }

/-- DDR_SIZE in bytes (R248). -/
def State.dramSize (s : State) : Nat := s.getF .ddrc 0x44 15 0 * 0x100000

/-- [a, a + n) lies in [lo, lo + size). -/
def inWindow (a n lo size : Nat) : Bool := decide (lo ≤ a) && decide (a + n ≤ lo + size)

/-- Two ranges intersect. -/
def overlaps (a n b k : Nat) : Bool := decide (a < b + k) && decide (b < a + n)

/-- The window an address lies in, with the window's start and length. -/
def windowOf (a : Nat) : Option (Region × Nat × Nat) :=
  if a < 0x10000 then some (.rom, 0, 0x10000)
  else if inWindow a 1 oraBase oraWindow then some (.orangery, oraBase, oraWindow)
  else if inWindow a 1 0x20000000 0x1000000 then
    let n := (a - 0x20000000) / 0x100000
    some (.tile n, tileBase n, 0x100000)
  else if inWindow a 1 gtSram 0x1000000 then some (.gtSram, gtSram, 0x1000000)
  else if inWindow a 1 belvSram 0x1000000 then some (.belvSram, belvSram, 0x1000000)
  else if inWindow a 1 dispSram 0x1000000 then some (.dispSram, dispSram, 0x1000000)
  else if inRegSpace a then some (.registers, regBase, 0x1000000)
  else if dramBase ≤ a ∧ a < dramEnd then some (.dram, dramBase, dramEnd - dramBase)
  else none

/-- The backed bytes of a region (R219). -/
def State.backed (s : State) : Region → Nat
  | .rom => 0x10000
  | .orangery => s.part.oraSize
  | .tile n => if n < 16 then tileSize else 0
  | .gtSram => gtSramSize
  | .belvSram => belvSramSize
  | .dispSram => dispSramSize
  | .registers => 0x1000000
  | .dram => s.dramSize

/-- [a, a + n) lies wholly in the backed part of one region. -/
def State.backedRange (s : State) (a n : Nat) : Option Region :=
  match windowOf a with
  | some (r, lo, _) => if a + n ≤ lo + s.backed r then some r else none
  | none => none

/-- [a, a + n) lies within one region window (R327 rule 6). -/
def oneWindow (a n : Nat) : Bool :=
  match windowOf a with
  | some (_, lo, size) => decide (a + n ≤ lo + size)
  | none => false

/-- A range in DRAM. -/
def State.inDram (s : State) (a n : Nat) : Bool := inWindow a n dramBase s.dramSize

/-- A range in the DRAM window of R219. -/
def inDramWindow (a n : Nat) : Bool := inWindow a n dramBase (dramEnd - dramBase)

/-- R222: which master reaches which region; registers are reached through the crossbar alone. -/
def reachesRegion (g : Agent) (r : Region) : Bool :=
  match g, r with
  | .cpu .belvedere, _ => true
  | .cpu .dispatch, .belvSram => false
  | .cpu .dispatch, _ => true
  | .cpu (.sequencer k), .tile n => clusterOf n == k.val
  | .cpu (.sequencer _), r => r == .orangery || r == .dispSram || r == .registers
  | .cpu .gatehouse, r => r == .gtSram || r == .registers
  | .cpu (.application _), .rom => true
  | .cpu (.application _), .orangery => true
  | .cpu (.application _), .tile _ => true
  | .cpu (.application _), r => r == .registers || r == .dram
  | .cpu (.channel _), r => r != .rom && r != .registers
  | .cpu .xspi, r => r != .registers
  | .window, r => r != .registers
  | .core n, r => r == .tile n.val
  | .isp _, r => r == .dram
  | .codec _, r => r == .dram
  | .spl, r => r == .orangery || r == .dram

end Sys2Proof.Machine
end

