-- ==== Sys2Proof/Machine/Dram.lean ====
section
/-! DEFINITION. The queue of the DRAM controller (05): classes, tokens, how a request is served, and the order of accesses
to one 64-byte unit. -/

namespace Sys2Proof.Machine

/-- Change DRAM outside its registers. -/
def onDdr (f : DdrSt → DdrSt) (s : State) : State := { s with ddr := f s.ddr }

/-- DDR_PORTp_QOS. -/
def State.qos (s : State) (p : Nat) : Word := s.get .ddrc (0x70 + 4 * p)

/-- A range has a byte on a channel: three consecutive blocks of 256 bytes hold both. -/
def onChan (a n ch : Nat) : Bool :=
  let k := (a + n - 1) / 0x100 - a / 0x100 + 1
  decide (n ≠ 0) && (List.range (min k 3)).any (fun i => ddrChan (a / 0x100 * 0x100 + 0x100 * i) == ch)

/-- An access ends the power-down of the channels it reaches (R239). -/
def pdExit (a n : Nat) (s : State) : State :=
  { s with ddr := { s.ddr with pdA := s.ddr.pdA && !onChan a n 0, pdB := s.ddr.pdB && !onChan a n 1 } }

/-- What the token bucket of a port holds at most, in 1/32,000 byte (R243). -/
def tokenCap : Nat := 16384 * 32000

/-- Every bucket fills at its LIMIT (R243). -/
def fillTokens (s : State) : State :=
  let dt := s.dt - s.ddr.tokDt
  onDdr (fun d => { d with
    tokDt := s.dt
    tokens := (List.range 8).map (fun i =>
      (i + 1, min tokenCap ((d.tokens.get? (i + 1)).getD 0 + fld (s.qos (i + 1)) 19 8 * dt * 15625))) }) s

/-- Tokens of one 64-byte access. -/
def tokenCost : Nat := 64 * 32000

/-- The class a request is served in: 3 ISOCH, 2 URGENT, 1 NORMAL, 0 BULK (R242-R244). -/
def serveClass (s : State) (r : DdrReq) : Nat :=
  if r.cls.val = 3 then (if tokenCost ≤ (s.ddr.tokens.get? r.port.val).getD 0 then 3 else 1)
  else if r.cls.val = 0 then (if r.aged then 1 else 0)
  else r.cls.val

/-- The access of a served request: a write lands, a read answers its 64-byte unit. -/
def serveReq (i : Nat) (r : DdrReq) (top : Nat) (s : State) : State :=
  let p := r.port.val
  let s1 := onDdr (fun d => { d with
    queue := d.queue.eraseIdx i, lastPort := d.lastPort.put top p
    tokens := if top = 3 then d.tokens.put p ((d.tokens.get? p).getD 0 - tokenCost) else d.tokens }) s
  let s2 := pdExit r.addr 1 (s1.count .ddrc (0xA0 + 4 * p) 1)
  match r.data with
  | some bs => s2.storeBytes r.addr bs
  | none => s2.answerBytes (s2.bytes (r.addr / 64 * 64) 64)

/-- 64-byte units that a range spans. -/
def unitsOf (a n : Nat) : Nat := if n = 0 then 0 else (a + n - 1) / 64 - a / 64 + 1

/-- A waiting request is to a unit of a range. -/
def meets (r : DdrReq) (a n : Nat) : Bool :=
  decide (n ≠ 0) && decide (a / 64 ≤ r.addr / 64) && decide (r.addr / 64 ≤ (a + n - 1) / 64)

/-- The oldest waiting request to a unit of a range is served. -/
def serveOldest (a n : Nat) (s : State) : State :=
  match s.ddr.queue.findIdx? (fun r => meets r a n) with
  | none => s
  | some i =>
    match s.ddr.queue[i]? with
    | some r => serveReq i r (serveClass s r) s
    | none => s

/-- Waiting requests to the units of a range reached the controller first and are served first (R230). -/
def serveUnits (a n : Nat) (s : State) : State :=
  if s.ddr.queue.any (fun r => meets r a n) then
    { (List.range s.ddr.queue.length).foldl (fun t _ => serveOldest a n t) (fillTokens s) with resp := s.resp }
  else s

end Sys2Proof.Machine
end

