-- ==== Sys2Proof/Machine/Perm.lean ====
section
/-! DEFINITION. Who may write a register: the owner rule (R49, R51) and the own write rules of the chapters. -/

namespace Sys2Proof.Machine

/-- The answer of a write rule: which bits a write reaches, or the rejection. -/
inductive Perm where
  | allow (mask : Word)
  | deny
  /-- A reason that the rule names in place of detail 0x06. -/
  | reason (code : Nat)
deriving DecidableEq, Repr

/-- All bits. -/
def ones : Word := 0xFFFFFFFF#32

/-- Allowed or denied whole. -/
def allowIf (b : Bool) : Perm := if b then .allow ones else .deny

/-- Only the bits of a mask; denied when there is none, or when every bit set to 1 is outside it (R149, R405). A value
whose only 1 bits are reserved is denied as well (log entry 86). -/
def allowBits (mask v : Word) : Perm :=
  if mask = 0 then .deny else if v ≠ 0 ∧ v &&& mask = 0 then .deny else .allow mask

/-- The owner rule (R49, R51). -/
def ownerRule (s : State) (d : Nat) (b : Blk) : Bool :=
  decide (d = domSec) || (decide (s.owner b ≠ 0) && decide (d = s.owner b))

/-- Page owner, SEC or MGMT. -/
def ownerOrMgmt (s : State) (d : Nat) (b : Blk) : Bool := ownerRule s d b || decide (d = domMgmt)

/-- The domain in HOST_DOMAIN.HOST (R87). -/
def State.host (s : State) : Nat := s.getF .sys 0x44 3 0

/-- The owner domain of pin `n` (R998). -/
def State.pinOwner (s : State) (n : Nat) : Nat := s.getF .gown (0x40 + 4 * (n / 8)) (4 * (n % 8) + 3) (4 * (n % 8))

/-- A domain may write pin `n` (R1000). -/
def State.pinMay (s : State) (d n : Nat) : Bool := decide (d = domSec) || (decide (d ≠ 0) && decide (s.pinOwner n = d))

/-- The pins from `base` on that a domain may write, as a mask of `k` bits (R1001). -/
def State.pinMask (s : State) (d base k : Nat) : Word :=
  wd ((List.range k).foldl (fun a i => a + (if s.pinMay d (base + i) then 2 ^ i else 0)) 0)

/-- The domain that owns comparator `n` (R149). -/
def State.cmpOwner (s : State) (n : Nat) : Nat := s.getF .time (0x10C + 0x20 * n) 7 4

/-- A domain may write comparator `n` (R149). -/
def State.cmpMay (s : State) (d n : Nat) : Bool :=
  decide (d = domSec) || decide (d = domMgmt) || (decide (s.cmpOwner n ≠ 0) && decide (s.cmpOwner n = d))

/-- A sum of bits. -/
def bitsOf (k : Nat) (f : Nat → Bool) : Nat := (List.range k).foldl (fun a i => a + (if f i then 2 ^ i else 0)) 0

/-- TIME (R149). -/
def permTime (s : State) (d off : Nat) (v : Word) : Option Perm :=
  if off = offRaw then
    some (allowBits (wd ((if ownerOrMgmt s d .time then 0xF else 0) + (bitsOf 8 (s.cmpMay d)) <<< 8)) v)
  else if 0x100 ≤ off ∧ off < 0x200 then
    let n := (off - 0x100) / 0x20
    if s.cmpMay d n then some (.allow ones)
    else if (off - 0x100) % 0x20 = 0xC ∧ s.cmpOwner n = 0 then
      let o := fld v 7 4
      some (if o = d then .allow ones else if o ≠ 0 then .reason 0x0421 else .deny)
    else some .deny
  else none

/-- A domain of the CLK page that exists on the part (R208); 60 to 63 are only mirrored (R183). -/
def State.clkHas (s : State) (d : Nat) : Bool :=
  decide (d < 60) && !(s.part == .osv4108 && decide (27 ≤ d) && decide (d ≤ 30))

/-- A bit of CLK_SET or CLK_CLR that is not ignored whoever writes it (R208, R211). -/
def State.clkBit (s : State) (rel : Bool) (d : Nat) : Bool := s.clkHas d && (!rel || decide (2 ≤ d))

/-- PWR and CLK (R202, R205, R210). -/
def permPower (s : State) (d : Nat) (b : Blk) (off : Nat) (v : Word) : Option Perm :=
  match b with
  | .pwr =>
    if off = 0x48 ∨ off = 0x4C then
      let req := d = domMgmt ∨ d = domSec ∨ (off = 0x48 ∧ d = domSched) ∨ (off = 0x4C ∧ d = domApp)
      let cap := d = domMgmt ∨ d = domSec
      let m := (if req then 3 else 0) + (if cap then 0x3300 else 0)
      some (if m = 0 then .deny else .allow (wd m))
    else if off = 0x70 then some (allowIf (decide (d = domSec) || decide (d = domMgmt)))
    else none
  | .clk =>
    if 0x50 ≤ off ∧ off < 0x60 then
      let base := if off % 8 = 0 then 0 else 32
      let may := fun i =>
        s.clkBit (decide (0x58 ≤ off)) (base + i) &&
          (decide (d = domSec) || decide (d = domMgmt) ||
            (match clockOwner (base + i) with
             | some p => decide (s.owner p ≠ 0) && decide (s.owner p = d)
             | none => false))
      some (allowBits (wd (bitsOf 32 may)) v)
    else none
  | _ => none

/-- The owner of compare-and-count context `c` (R303). -/
def State.ccOwner (s : State) (c : Nat) : Nat := s.getF .cc (0x100 + 0x40 * c) 31 28

/-- A domain may write context `c` (R304). -/
def State.ccMay (s : State) (d c : Nat) : Bool :=
  decide (d = domSec) || decide (d = domMgmt) || (decide (s.ccOwner c ≠ 0) && decide (s.ccOwner c = d))

/-- Compare-and-count (R304). -/
def permCc (s : State) (d off : Nat) (v : Word) : Option Perm :=
  if off = offRaw then
    some (allowBits (wd ((if ownerRule s d .cc then 0xFFFFF00F else 0) + (bitsOf 4 (s.ccMay d)) <<< 8)) v)
  else if 0x100 ≤ off ∧ off < 0x200 then
    let c := (off - 0x100) / 0x40
    if s.ccMay d c then some (.allow ones)
    else some (allowIf ((off - 0x100) % 0x40 = 0 && decide (s.ccOwner c = 0) && decide (fld v 31 28 = d)))
  else none

/-- RG_CTRL.EN. -/
def State.ringEn (s : State) (k i : Nat) : Bool := s.getB (.ring k) (0x114 + 0x40 * i) 0

/-- Rings (R380, R400, R405). -/
def permRing (s : State) (d k off : Nat) (v : Word) : Option Perm :=
  if 0x100 ≤ off ∧ off < 0x500 then
    let i := (off - 0x100) / 0x40
    let r := (off - 0x100) % 0x40
    let base := 0x100 + 0x40 * i
    let prod := s.getF (.ring k) (base + 0x0C) 3 0
    let cons := s.getF (.ring k) (base + 0x0C) 7 4
    let hwP := s.getB (.ring k) (base + 0x08) 16
    let hwC := s.getB (.ring k) (base + 0x08) 17
    let isCons := decide (cons ≠ 0) && decide (d = cons)
    let isProd := decide (prod ≠ 0) && decide (d = prod)
    if r = 0x20 then
      some (if s.ringEn k i then allowIf (isProd && !hwP) else allowIf (ownerOrMgmt s d (.ring k)))
    else if r = 0x1C then
      some (if s.ringEn k i then allowIf (isCons && !hwC) else allowIf (ownerOrMgmt s d (.ring k)))
    else if r = 0x24 ∨ r = 0x28 ∨ r = 0x30 then some (allowIf (ownerRule s d (.ring k) || isCons))
    else if r = 0x2C then
      some (allowBits
        (if ownerOrMgmt s d (.ring k) then 0xF else (if isCons then 0xB else 0) ||| (if isProd then 4 else 0)) v)
    else if r = 0x38 then some (allowIf (ownerOrMgmt s d (.ring k) || isCons))
    else none
  else none

/-- GT_LINK_STAT.STATE. -/
def State.linkState (s : State) : Nat := s.getF .gate 0x68 1 0

/-- SYS, LOCK (R85), NC, DISP, GATE, FW, ERR, APPC (R87, R494, R702, R862, R867, R868, R909, R931, R976, R1045). -/
def permMisc (s : State) (m : Master) (d : Nat) (b : Blk) (off : Nat) (v : Word) : Option Perm :=
  let sec := decide (d = domSec)
  let mgmt := decide (d = domMgmt)
  match b with
  | .sys => if off = 0x44 then some (allowIf (sec || mgmt || decide (d = s.host))) else none
  | .lock =>
    if 0x100 ≤ off ∧ off < 0x200 then some (.allow ones)
    else if off = offCtrl ∧ bit v 1 = true then some (allowIf sec)
    else none
  | .nc _ => if off = 0x78 then some (allowIf (sec || mgmt)) else none
  | .disp =>
    if off = 0x4C ∨ off = 0x54 then some (allowIf (sec || decide (d = s.host)))
    else if off = 0x50 ∨ (0x60 ≤ off ∧ off < 0x84) ∨ 0x100 ≤ off then
      some (allowIf (sec || mgmt || decide (d = domSched) || decide (d = s.host)))
    else if off = 0x9C then some (allowIf (sec || mgmt))
    else none
  | .gate =>
    if off = 0x58 ∨ off = 0x54 then some (allowIf (sec || mgmt || decide (d = domGate)))
    else if off = 0x74 then some (allowIf (decide (d = domGate)))
    else if off = 0x44 then some (allowIf (sec || mgmt))
    else if off = 0x70 then some (allowIf (sec || (mgmt && decide (s.linkState ≠ 0))))
    else none
  | .fw =>
    if off = 0x4C then some (.allow ones)
    else if off = 0xB0 ∨ off = 0xB4 then
      let c := m.code
      let want := if c = 0x10 then 1 else if c = 0x20 then 2 else if 0x21 ≤ c ∧ c ≤ 0x24 then 3 else if c = 0x30 then 4 else 8
      some (allowIf (sec || decide (fld v 2 0 = want)))
    else none
  | .err =>
    if 0x70 ≤ off ∧ off < 0x94 then some (allowIf (sec || mgmt || decide (d = domSched) || decide (d = domGate)))
    else if off = 0xC0 ∨ off = 0xC4 then some (allowIf (sec || mgmt))
    else none
  | .appc =>
    if off = 0x44 then some (allowIf (sec || mgmt || decide (d = domApp)))
    else if 0x400 ≤ off ∧ off < 0x440 then some (allowIf (sec || mgmt || decide (d = domXhost)))
    else if off = 0x80 ∨ off = 0x84 then some (allowIf (sec || mgmt || decide (d = domApp)))
    else none
  | _ => none

/-- The pins (R997, R1000-R1002, R1006, R1007). -/
def permPins (s : State) (d : Nat) (b : Blk) (off : Nat) (v : Word) : Option Perm :=
  match b with
  | .gpio =>
    let lo := s.pinMask d 0 32
    let hi := s.pinMask d 32 16
    let bank := if off % 8 = 0 then lo else hi
    if (0x48 ≤ off ∧ off < 0x68) then some (if bank = 0 then .deny else .allow bank)
    else if 0x68 ≤ off ∧ off < 0x78 then some (allowBits bank v)
    else if 0x80 ≤ off ∧ off < 0x90 then some (allowIf (s.pinMay d ((off - 0x80) / 4)))
    else if 0x90 ≤ off ∧ off < 0xA0 then some (allowIf (s.pinMay d ((off - 0x90) / 4)))
    else if 0xA0 ≤ off ∧ off < 0x120 then some (allowIf (s.pinMay d (32 + (off - 0xA0) / 0x10)))
    else if 0x120 ≤ off ∧ off < 0x128 then some (allowIf (s.pinMay d (40 + (off - 0x120) / 4)))
    else none
  | .gown =>
    if 0x40 ≤ off ∧ off < 0x58 then some (.allow ones)
    else if 0x60 ≤ off ∧ off < 0x6C then some (.allow ones)
    else none
  | .pmux => if 0x100 ≤ off ∧ off < 0x1C0 then some (allowIf (s.pinMay d ((off - 0x100) / 4))) else none
  | _ => none

/-- An own write rule; none where the owner rule holds, as at every reserved offset (R8). -/
def ownRule (s : State) (m : Master) (d : Nat) (b : Blk) (off : Nat) (v : Word) : Option Perm :=
  if (rowAt b off).isNone then none
  else
  match b with
  | .time => permTime s d off v
  | .pwr => permPower s d .pwr off v
  | .clk => permPower s d .clk off v
  | .cc => permCc s d off v
  | .ring k => permRing s d k off v
  | .gpio => permPins s d .gpio off v
  | .gown => permPins s d .gown off v
  | .pmux => permPins s d .pmux off v
  | b => permMisc s m d b off v

/-- Rule 3 of R57: who may write (R49, R52, R53). -/
def perm (s : State) (m : Master) (b : Blk) (off : Nat) (v : Word) : Perm :=
  let d := m.dom s
  if off = offOwner then
    allowIf (decide (d = domSec) || decide (d = domMgmt) || (decide (s.owner b ≠ 0) && decide (d = s.owner b))
      || (decide (s.owner b = 0) && decide (fld v 3 0 = d)))
  else if off = offKey then allowIf (ownerRule s d b)
  else
    match ownRule s m d b off v with
    | some p => p
    | none => allowIf (ownerRule s d b)

end Sys2Proof.Machine
end

