-- ==== Sys2Proof/Machine/Judge.lean ====
section
/-! DEFINITION. How the crossbar judges an access (R42, R43, R49-R57, R62, R65). -/

namespace Sys2Proof.Machine

/-- What becomes of a write. -/
inductive Verdict where
  /-- R42: nothing happens. -/
  | absent
  /-- A decode miss (R220, R222). -/
  | miss
  /-- Rejected, with a full reason code (R56). -/
  | reject (code : Nat)
  /-- The page is BUSY (R62). -/
  | hold
  /-- Applied: the value with locked fields as they stand, the bits the writer reaches, and whether it
  attempted to change a locked field (R55). -/
  | apply (v mask : Word) (locked : Bool)
deriving DecidableEq, Repr

/-- A field of a context's own configuration set changes while the context runs (R119, R362, R400, R705, R746,
R747, R782, R821, R869). -/
def ctxBlocked (s : State) (b : Blk) (off : Nat) (v : Word) : Bool :=
  let r := (off - 0x100) % 0x40
  let base := off - r
  match b with
  | .hport => s.getB .hport 0x44 8 && (off = 0x48 || off = 0x4C || off = 0x50)
  | .ring k =>
    decide (0x100 ≤ off ∧ off < 0x500) && decide (r < 0x10) && s.getB (.ring k) (base + 0x10) 0
  | .xch k =>
    let j := (off - 0x40) / 0x40
    decide (0x40 ≤ off ∧ off < 0x140) && decide ((off - 0x40) % 0x40 < 8) && s.getB (.xch k) (0x4C + 0x40 * j) 0
  | .disp =>
    decide (0x100 ≤ off) && s.getB .disp (base + 0x1C) 4 &&
      (if r = 0 then decide ((v ^^^ s.get .disp off) &&& 0xFF000F36#32 ≠ 0)
       else r = 4 || r = 0x10 || r = 0x14 || r = 0x18 || r = 0x38 || r = 0x3C)
  | .csi p =>
    decide (0x100 ≤ off ∧ off < 0x200) && s.getB (.csi p) base 0 &&
      (if r = 0 then decide ((v ^^^ s.get (.csi p) off) &&& 0x01333FF0#32 ≠ 0) else decide (r < 0x18))
  | .isp n =>
    decide (0x100 ≤ off ∧ off < 0x180) && s.getB (.isp n) (base + 0x1C) 0 &&
      (decide (r < 0xC) || r = 0x14 || r = 0x18)
  | .vdec =>
    decide (0x100 ≤ off ∧ off < 0x200) && s.getB .vdec base 0 &&
      (if r = 0 then decide ((v ^^^ s.get .vdec off) &&& 6#32 ≠ 0) else decide (r < 0x24))
  | .spls => decide (0x100 ≤ off) && s.getB .spl (0x104 + 0x20 * ((off - 0x100) / 0xA0)) 0
  | .kws =>
    s.getB .kws 0x40 0 &&
      (if off = 0x40 then decide ((v ^^^ s.get .kws off) &&& 0xFF0E#32 ≠ 0) else off = 0x44 || off = 0x48)
  | _ => false

/-- Rule 5 of R57 (R65). -/
def cfgBlocked (s : State) (b : Blk) (off : Nat) (v : Word) : Bool :=
  (s.enabled b && ((rowAt b off).map (·.cfg)).getD false) || ctxBlocked s b off v

/-- The RWL bits of a register. -/
def lockMask (b : Blk) (off : Nat) : Word := wd (((rowAt b off).map (·.lck)).getD 0)

/-- The Gatehouse core reaches the registers of the main domain in RUN alone (R222), the pages of the Gatehouse itself and
the AO-bank fields of the pin pages in every state (R990); an access to another page is a decode miss (R220). -/
def State.gateMisses (s : State) (m : Master) (b : Blk) : Bool :=
  m == .gatehouse && !b.isAo && b != .gpio && b != .gown && b != .pmux && decide (s.power.pstate ≠ .run)

/-- A register address is one that its master reaches (R222). -/
def State.regsFor (s : State) (m : Master) (a : Nat) : Bool :=
  match blkOf a with
  | some b => !s.gateMisses m b
  | none => true

/-- A decode miss in register space (R220): the record of the fabric, which only a main domain that is up can raise. -/
def regMiss (s : State) : State := (if s.present .sys then s.raise .sys 0x0121 0 clsConfig [] else s).busError

/-- The Gatehouse core reaches the AO-bank fields of the pin pages in every state (R990). -/
def reaches (s : State) (m : Master) (b : Blk) : Bool :=
  s.present b || (m == .gatehouse && s.rail 0 && (b == .gpio || b == .gown || b == .pmux)
    && decide (s.power.pstate ≠ .off) && decide (s.power.pstate ≠ .aoHeld))

/-- Rules 4 to 6 of R57 for a write that its master may make. The first that applies decides: a write that attempts a
locked field is carried out at once by R55, whether or not the page is BUSY. A write that arrives after BUSY has cleared
is judged at once, ahead of the writes still held (log entry 85). -/
def judgeState (s : State) (b : Blk) (off : Nat) (v mask : Word) : Verdict :=
  let old := s.get b off
  let lk := lockMask b off &&& mask
  let tries := s.pageLocked b && decide ((v ^^^ old) &&& lk ≠ 0)
  let v' := if tries then merge v old lk else v
  if (rowAt b off).isNone then .apply v' 0 false
  else if tries then .apply v' mask true
  else if cfgBlocked s b off v' then .reject (b.type * 256 + 0x10)
  else if s.busy b ∧ off ≠ offRaw ∧ off ≠ offEn then .hold
  else .apply v' mask false

/-- The order of R57 for a write of `size` bytes. -/
def judge (s : State) (w : BusWrite) : Verdict :=
  match blkOf w.addr with
  | none => .absent
  | some b =>
    let off := pageOff w.addr
    if s.gateMisses w.master b then .miss
    else if !reaches s w.master b then .absent
    else if w.size = 4 ∧ w.addr % 4 ≠ 0 then .reject (b.type * 256 + 0x03)
    else if w.size ≠ 4 then .reject (b.type * 256 + 0x0F)
    else
      match perm s w.master b off w.value with
      | .deny => .reject (b.type * 256 + 0x06)
      | .reason c => .reject c
      | .allow mask => judgeState s b off w.value mask

/-- The page of an address; SYS stands in where there is none, which no verdict but `absent` meets. -/
def blkOr (addr : Nat) : Blk := (blkOf addr).getD .sys

/-- Carry a write through its verdict: `f` is the effect of an applied write, given the value and the mask.
A write that attempted a locked field is rejected as well (R55). -/
def settle (w : BusWrite) (vd : Verdict) (f : Word → Word → State → State) (s : State) : State :=
  let b := blkOr w.addr
  let off := regOff w.addr
  match vd with
  | .absent => s
  | .miss => regMiss s
  | .reject c => s.reject b off c
  | .hold => { s with held := s.held ++ [{ page := b.pg, write := w }] }
  | .apply v mask locked =>
    let s1 := if locked then s.rejectD b off 0x07 else s
    f v mask s1

/-- Judge a write and carry it out. -/
def guarded (w : BusWrite) (f : Word → Word → State → State) (s : State) : State := settle w (judge s w) f s

/-- A full-word write of a master. -/
def wr (m : Master) (addr : Nat) (v : Word) : BusWrite := { master := m, addr := addr, size := 4, value := v }

/-- Store the plain bits of a register: RW and RWL bits take the value, W1C bits set in it clear. -/
def plainStore (b : Blk) (off : Nat) (v mask : Word) (s : State) : State :=
  match rowAt b off with
  | none => s
  | some r =>
    let old := s.get b off
    let w1 := merge old v (wd r.rw &&& mask)
    s.set b off (w1 &&& ~~~(v &&& wd r.w1c &&& mask))

/-! ### Reads -/

/-- What becomes of a read. -/
inductive ReadVerdict where
  | absent
  /-- A decode miss (R220, R222). -/
  | miss
  | reject (code : Nat)
  | ok
deriving DecidableEq, Repr

/-- Reads of read-clear registers and data ports are the owner's alone (R50); CMPn_STAT has its own rule (R149). -/
def mayRead (s : State) (m : Master) (b : Blk) (off : Nat) : Bool :=
  match rowAt b off with
  | none => true
  | some r =>
    if r.rc ∨ r.port then
      let d := m.dom s
      match b with
      | .time => s.cmpMay d ((off - 0x100) / 0x20) || (decide (s.owner .time ≠ 0) && decide (d = s.owner .time))
      | .gpio => decide (d = s.pinOwner (32 + (off - 0xA0) / 0x10)) || (decide (s.owner .gpio ≠ 0) && decide (d = s.owner .gpio))
      | b => decide (s.owner b ≠ 0) && decide (d = s.owner b)
    else true

/-- The order of R57 for a read (R43, R50). -/
def judgeRead (s : State) (m : Master) (addr size : Nat) : ReadVerdict :=
  match blkOf addr with
  | none => .absent
  | some b =>
    let off := regOff addr
    let special := match rowAt b off with
      | some r => r.rc || r.port
      | none => false
    if s.gateMisses m b then .miss
    else if !reaches s m b then .absent
    else if size = 4 ∧ addr % 4 ≠ 0 then .reject (b.type * 256 + 0x03)
    else if size = 2 ∧ addr % 2 ≠ 0 then .reject (b.type * 256 + 0x03)
    else if (size = 1 ∨ size = 2) ∧ special = true then .reject (b.type * 256 + 0x0F)
    else if !mayRead s m b off then .reject (b.type * 256 + 0x06)
    else .ok

end Sys2Proof.Machine
end

