-- ==== Sys2Proof/Machine/Slots.lean ====
section
/-! DEFINITION. The slot handle table, its claims, writes by address, and compare-and-count (06). -/

namespace Sys2Proof.Machine

/-! ### Entries (R270, R271) -/

/-- An entry never stored: all zero, not valid. -/
def Slot.zero : Slot := { w0 := 0, w1 := 0, w2 := 0, check := 0 }

/-- The entry of a handle. -/
def State.slot (s : State) (h : Nat) : Slot := (s.ora.slots.get? h).getD Slot.zero

/-- CHECK over bytes 0 to 11 (R271). -/
def slotCheck (w0 w1 w2 : Word) : Byte := crc8 (leBytes w0.toNat 4 ++ leBytes w1.toNat 4 ++ leBytes w2.toNat 4)

/-- Store an entry as it is. -/
def State.setSlot (s : State) (h : Nat) (e : Slot) : State := { s with ora := { s.ora with slots := s.ora.slots.put h e } }

/-- A hardware update of an entry recomputes CHECK (R271). -/
def State.updSlot (s : State) (h : Nat) (w0 w1 w2 : Word) : State :=
  s.setSlot h { w0 := w0, w1 := w1, w2 := w2, check := slotCheck w0 w1 w2 }

/-- Slot start offset. -/
def Slot.base (e : Slot) : Nat := fld e.w0 12 0 * 4096
/-- Slot bytes. -/
def Slot.size (e : Slot) : Nat := (fld e.w0 23 16 + 1) * 4096
/-- GEN. -/
def Slot.gen (e : Slot) : Nat := fld e.w0 31 24
/-- STATE: 0 EMPTY, 1 FILLING, 2 FULL, 3 DRAINING. -/
def Slot.state (e : Slot) : Nat := fld e.w1 1 0
/-- DRAINS. -/
def Slot.drains (e : Slot) : Nat := fld e.w1 7 4
/-- RELEASED. -/
def Slot.released (e : Slot) : Nat := fld e.w1 11 8
/-- HOLDERS. -/
def Slot.holders (e : Slot) : Nat := fld e.w1 15 12
/-- VALID. -/
def Slot.valid (e : Slot) : Bool := bit e.w1 16
/-- MODEL. -/
def Slot.model (e : Slot) : Bool := bit e.w1 17
/-- FILLER. -/
def Slot.filler (e : Slot) : Nat := fld e.w1 31 24

/-- A valid entry that is FILLING or has holders (R301); one that a failed lookup or a reset made invalid can be stored
again (R310, R315; log entry 62). -/
def Slot.inUse (e : Slot) : Bool := e.valid && (e.state == 1 || e.holders != 0)

/-- All valid handles. -/
def State.validHandles (s : State) : List Nat := (s.ora.slots.filter (fun p => p.2.valid)).map (·.1)

/-- Add one to a field of W1. -/
def w1Add (w : Word) (hi lo : Nat) : Word := setFld w hi lo (fld w hi lo + 1)

/-- A slot whose releases reach DRAINS with no holders becomes EMPTY (R278). -/
def drainCheck (h : Nat) (s : State) : State :=
  let e := s.slot h
  if e.valid ∧ e.drains ≠ 0 ∧ e.released = e.drains ∧ e.holders = 0 then
    s.updSlot h e.w0 (setFld (setFld e.w1 1 0 0) 11 8 0) e.w2
  else s

/-! ### Claims (R274-R280) -/

/-- The claim an agent holds on a handle. -/
def State.claim? (s : State) (agent h : Nat) : Option Claim :=
  s.ora.claims.find? (fun c => c.agent == agent && c.handle == h)

/-- Replace or add a claim. -/
def State.putClaim (s : State) (c : Claim) : State :=
  { s with ora := { s.ora with
      claims := c :: s.ora.claims.filter (fun d => !(d.agent == c.agent && d.handle == c.handle)) } }

/-- Drop every claim of an agent. -/
def State.dropClaims (s : State) (agent : Nat) : State :=
  { s with ora := { s.ora with claims := s.ora.claims.filter (fun d => d.agent != agent) } }

/-- The claims of an agent. -/
def State.claimsOf (s : State) (agent : Nat) : List Claim := s.ora.claims.filter (fun d => d.agent == agent)

/-- Causes of R275, in its order; none when the use is accepted. -/
def useCause (s : State) (agent h gen kind off len : Nat) : Option Nat :=
  let e := s.slot h
  if !s.enabled .ora ∨ !e.valid then some 4
  else if e.check ≠ slotCheck e.w0 e.w1 e.w2 then some 6
  else if e.size < off + len then some 5
  else if kind ≠ 2 ∧ (e.state ≤ 1 ∨ (e.drains ≠ 0 ∧ e.released = e.drains)) then some 1
  else if kind = 2 ∧ e.state ≠ 0 ∧ !(e.state = 1 ∧ e.filler = agent ∧ (s.claim? agent h).isSome) then some 2
  else if gen ≠ e.gen then some 3
  else none

/-- The effect of an accepted use (R276, R281). -/
def useAccept (agent h kind : Nat) (s : State) : State :=
  let e := s.slot h
  let c := (s.claim? agent h).getD { agent := agent, handle := h, reads := false, release := false, fill := false }
  if kind = 2 then
    let s1 := if e.state = 0 then s.updSlot h e.w0 (setFld (setFld e.w1 1 0 1) 31 24 agent) e.w2 else s
    s1.putClaim { c with fill := true }
  else
    let s1 := if c.reads then s else s.updSlot h e.w0 (w1Add e.w1 15 12) e.w2
    s1.putClaim { c with reads := true, release := c.release || (decide (kind = 1) && decide (e.drains ≠ 0)) }

/-- SLOT_ORDER (R282, R310): the trap registers, the interrupt and the record. -/
def slotOrder (requester h gen kind cause op : Nat) (s : State) : State :=
  let e := s.slot h
  let t1 := h + cause * 0x1000 + gen * 0x10000 + e.gen * 0x1000000
  let t2 := e.state + kind * 0x10 + requester * 0x100
  let s1 := ((s.count .ora 0x58 1).setN .ora 0x5C t1).setN .ora 0x60 t2
  let s2 := s1.irq .ora 8
  let s3 := if cause = 6 then (s2.updSlot h e.w0 (setBit e.w1 16 false) e.w2).irq .ora 11 else s2
  s3.raise .ora 0x1240 op clsTransient (leBytes t1 4 ++ leBytes t2 4)

/-- A handle use (R273, R275, R276, R282): the state after it and whether it was accepted. -/
def handleUse (agent requester h gen kind off len op : Nat) (s : State) : State × Bool :=
  match useCause s agent h gen kind off len with
  | none => (useAccept agent h kind s, true)
  | some c => (slotOrder requester h gen kind c op s, false)

/-- The address a handle use reaches. -/
def State.slotAddr (s : State) (h off : Nat) : Nat := oraBase + (s.slot h).base + off

/-- A claim as a commit publishes it (R277); `cmd` is the command ID, none for a standalone claim. -/
def publishClaim (cmd : Option Word) (c : Claim) (s : State) : State :=
  let e := s.slot c.handle
  if !e.valid then s
  else
    let w0 := if c.fill ∧ e.state = 1 then setFld e.w0 31 24 (e.gen + 1) else e.w0
    let a := if c.fill ∧ e.state = 1 then setFld (setFld (setFld e.w1 1 0 2) 11 8 0) 31 24 0 else e.w1
    let b := if c.release then setFld (w1Add a 11 8) 1 0 3 else a
    let d := if c.reads then setFld b 15 12 (fld b 15 12 - 1) else b
    drainCheck c.handle (s.updSlot c.handle w0 d (cmd.getD e.w2))

/-- A claim as a kill returns it (R279). -/
def returnClaim (c : Claim) (s : State) : State :=
  let e := s.slot c.handle
  if !e.valid then s
  else
    let fills := c.fill && e.state == 1
    let a := if fills then setFld (setFld e.w1 1 0 0) 31 24 0 else e.w1
    let d := if c.reads then setFld a 15 12 (fld a 15 12 - 1) else a
    let s1 := drainCheck c.handle (s.updSlot c.handle e.w0 d e.w2)
    if fills then s1.undef (oraBase + e.base) e.size else s1

/-- Return one claim of an agent. -/
def returnOne (agent h : Nat) (s : State) : State :=
  match s.claim? agent h with
  | none => s
  | some c =>
    let t := returnClaim c s
    { t with ora := { t.ora with claims := t.ora.claims.filter (fun d => !(d.agent == agent && d.handle == h)) } }

/-- Publish every claim of an agent (R277, R280). -/
def publishClaims (agent : Nat) (cmd : Option Word) (s : State) : State :=
  ((s.claimsOf agent).foldl (fun t c => publishClaim cmd c t) s).dropClaims agent

/-- Return every claim of an agent (R279, R280). -/
def returnClaims (agent : Nat) (s : State) : State :=
  ((s.claimsOf agent).foldl (fun t c => returnClaim c t) s).dropClaims agent

/-! ### Writes by address -/

/-- The regions of claimed slots that a write by address touches (R263). -/
def State.touched (s : State) (a n : Nat) : List (Nat × Nat) :=
  (s.ora.claims.map (fun c => (oraBase + (s.slot c.handle).base, (s.slot c.handle).size))).filter
    (fun r => overlaps a n r.1 r.2)

/-- A job reads its source by address, and the range meets [a, a + n) (R295). -/
def State.jobReads (s : State) (c a n : Nat) : Bool :=
  let op := s.get .cc (0x100 + 0x40 * c)
  let w := [1, 1, 2, 4, 2, 2, 4, 1].getD (fld op 6 4) 1
  !bit op 8 && overlaps a n (oraBase + fld (s.get .cc (0x104 + 0x40 * c)) 24 0) (s.getN .cc (0x108 + 0x40 * c) * w)

/-- A store by address: the bytes land, but a claimed slot's region becomes undefined (R263, R371), and a job that
streams the range has undefined results (R295). -/
def storeByAddr (a : Nat) (bs : List Byte) (s : State) : State :=
  let n := bs.length
  let s1 := s.storeBytes a bs
  let s2 := (s.touched a n).foldl (fun t r => t.undef r.1 r.2) s1
  { s2 with ora := { s2.ora with
      jobs := s2.ora.jobs.map (fun j => { j with dirty := j.dirty || (j.running && s.jobReads j.ctx a n) }) } }

/-- An out-of-range access to the Orangery (R4, R262). -/
def oraMiss (off : Nat) (s : State) : State :=
  ((s.setN .ora 0x54 off).irq .ora 9).raise .ora 0x1230 0 clsConfig []

/-- An access while the Orangery is disabled (R312). -/
def oraDisabled (s : State) : State := s.raise .ora 0x1231 0 clsConfig []

/-- The model-cache region: start offset and bytes (R285). -/
def State.mcRegion (s : State) : Nat × Nat := (s.getN .ora 0x4C * 4096, s.getN .ora 0x50 * 4096)

/-- The model-cache protection drop (R287). -/
def mcProtect (s : State) : State := ((s.irq .ora 10).raise .ora 0x1232 0 clsConfig []).busError

/-! ### The slot table window (R299-R301) -/

/-- LOAD. -/
def stLoad (s : State) : State :=
  let e := s.slot (s.getN .st 0x40)
  (((s.set .st 0x50 e.w0).set .st 0x54 e.w1).set .st 0x58 e.w2).setN .st 0x5C e.check.toNat

/-- A slot lies wholly inside, wholly outside or across the model-cache region (R286). -/
def mcPlace (s : State) (base size : Nat) : Option Bool :=
  let r := s.mcRegion
  if r.2 = 0 then some false
  else if r.1 ≤ base ∧ base + size ≤ r.1 + r.2 then some true
  else if overlaps base size r.1 r.2 then none
  else some false

/-- The first rule of R301 that refuses a STORE. -/
def storeRefusal (s : State) : Option Nat :=
  let e := s.slot (s.getN .st 0x40)
  let w0 := s.get .st 0x50
  let w1 := s.get .st 0x54
  let w2 := s.get .st 0x58
  let w3 := s.get .st 0x5C
  let n : Slot := { w0 := w0, w1 := w1, w2 := w2, check := 0 }
  if e.inUse then some 0x1224
  else if fld w3 7 0 ≠ (slotCheck w0 w1 w2).toNat then some 0x120C
  else if w0 &&& 0xE000#32 ≠ 0 ∨ w1 &&& 0x00FC000C#32 ≠ 0 ∨ w3 &&& 0xFFFFFF00#32 ≠ 0
      ∨ (n.state ≠ 0 ∧ n.state ≠ 2) ∨ n.released ≠ 0 ∨ n.holders ≠ 0 ∨ n.filler ≠ 0 then some 0x1202
  else if s.part.oraSize < n.base + n.size then some 0x1201
  else if n.valid ∧ mcPlace s n.base n.size ≠ some n.model then some 0x1225
  else none

/-- ST_INDEX after an accepted operation (R300). -/
def stInc (v : Word) (s : State) : State :=
  if bit v 8 then s.setN .st 0x40 ((s.getN .st 0x40 + 1) % 4096) else s

/-- STORE. -/
def stStore (s : State) : State :=
  s.setSlot (s.getN .st 0x40)
    { w0 := s.get .st 0x50, w1 := s.get .st 0x54, w2 := s.get .st 0x58, check := (s.get .st 0x5C).setWidth 8 }

/-- INVAL. -/
def stInval (s : State) : State :=
  let h := s.getN .st 0x40
  let e := s.slot h
  s.updSlot h e.w0 (setBit e.w1 16 false) e.w2

/-- A write of ST_CMD (R300, R301). -/
def stCmd (v : Word) (s : State) : State :=
  let k := fld v 2 0
  if k = 1 then stInc v (stLoad s)
  else if k = 2 then
    match storeRefusal s with
    | none => stInc v (stStore s)
    | some c => s.reject .st 0x44 c
  else if k = 4 then
    let e := s.slot (s.getN .st 0x40)
    if e.inUse then s.reject .st 0x44 0x1224 else stInc v (stInval s)
  else if k = 0 then s
  else s.rejectD .st 0x44 0x02

/-- What a read of the slot table window shows: ST_VALID_CNT counts the valid entries (R299). -/
def stView (off : Nat) (s : State) : Word := if off = 0x48 then wd s.validHandles.length else s.get .st off

/-! ### The ORA page -/

/-- ORA_MC_BASE and ORA_MC_SIZE (R298), ORA_SHARE (R297), others plain. -/
def oraStore (off : Nat) (v mask : Word) (s : State) : State :=
  if off = 0x48 ∧ s.part = .osv4108 then s.setN .ora 0x48 (fld v 3 0)
  else if off = 0x4C ∨ off = 0x50 then
    let base := if off = 0x4C then fld v 12 0 else s.getN .ora 0x4C
    let size := if off = 0x50 then fld v 13 0 else s.getN .ora 0x50
    if s.validHandles.any (fun h => (s.slot h).model) then s.reject .ora off 0x1221
    else if size ≠ 0 ∧ s.part.oraSize < (base + size) * 4096 then s.rejectD .ora off 0x01
    else plainStore .ora off v mask s
  else plainStore .ora off v mask s

/-- Every entry's VALID becomes 0 (R311, R315). -/
def invalidateAll (s : State) : State :=
  s.validHandles.foldl (fun t h => let e := t.slot h; t.updSlot h e.w0 (setBit e.w1 16 false) e.w2) s

/-- A disable of the ORA page is refused (R311): an entry is FILLING or has holders, be it valid or not, or a job is queued
or running. -/
def oraBusy (s : State) : Bool :=
  s.ora.slots.any (fun p => p.2.state == 1 || p.2.holders != 0) || !s.ora.jobs.isEmpty

/-! ### Compare-and-count (R288-R295, R302-R306) -/

/-- A register of context `c`. -/
def ccOff (c r : Nat) : Nat := 0x100 + 0x40 * c + r
/-- Bits of an element type (R303). -/
def ccBits (t : Nat) : Nat := [8, 8, 16, 32, 16, 16, 32, 8].getD t 8
/-- The standalone agent code of a context (R272). -/
def ccAgent (c : Nat) : Nat := 0xC0 + c

/-- The key of an element; none for a NaN (R289). -/
def ccKey (t raw : Nat) : Option Nat :=
  let w := ccBits t
  let top := 2 ^ (w - 1)
  if t = 1 then some raw
  else if t ≤ 3 then some (raw ^^^ top)
  else
    let mag := raw % top
    let inf := if t = 4 then 0x7C00 else if t = 5 then 0x7F80 else 0x7F800000
    if inf < mag then none
    else if mag = 0 then some top
    else if raw < top then some (raw ^^^ top)
    else some (2 ^ w - 1 - raw)

/-- The refusal of GO, as a full reason code (R305, R312). -/
def ccGoRefusal (s : State) (c : Nat) : Option Nat :=
  let op := s.get .cc (ccOff c 0)
  let o := fld op 2 0
  let t := fld op 6 4
  let w := ccBits t
  let st := s.getF .cc (ccOff c 0x1C) 1 0
  let len := s.getN .cc (ccOff c 8)
  let a := s.getN .cc (ccOff c 0xC)
  let b := s.getN .cc (ccOff c 0x10)
  let src := s.getF .cc (ccOff c 4) 24 0
  let dst := s.getF .cc (ccOff c 0x14) 24 0
  let sh := fld op 20 16
  let srcA := !bit op 8
  let dstA := o == 2 && !bit op 9
  if !s.enabled .ora then some 0x1208
  else if st = 1 ∨ st = 2 then some 0x1251
  else if 4 < o ∨ t = 7 then some 0x1202
  else if len = 0 then some 0x1204
  else if (srcA ∧ src % (w / 8) ≠ 0) ∨ (dstA ∧ dst % 64 ≠ 0) then some 0x1203
  else if (srcA ∧ s.part.oraSize < src + len * (w / 8)) ∨ (dstA ∧ s.part.oraSize < dst + 1024)
      ∨ 16777216 < len ∨ (o ≠ 4 ∧ 2 ^ w ≤ a) ∨ (o = 1 ∧ 2 ^ w ≤ b) ∨ w - 8 < sh
      ∨ (o = 4 ∧ (b = 0 ∨ len < b)) then some 0x1201
  else if o = 1 ∧ b < a then some 0x1250
  else none

/-- An accepted GO queues the job; `agent` holds its claims (R274). -/
def ccGo (c agent : Nat) (s : State) : State :=
  match ccGoRefusal s c with
  | some code => s.reject .cc (ccOff c 0x18) code
  | none =>
    let s1 := (((s.setN .cc (ccOff c 0x1C) 1).setN .cc (ccOff c 0x20) 0).setN .cc (ccOff c 0x24) 0).setN .cc (ccOff c 0x28) 0
    let s2 := (s1.setN .cc (ccOff c 0x2C) 0).setN .cc (ccOff c 0x30) 0
    { s2 with ora := { s2.ora with jobs := s2.ora.jobs ++ [{ ctx := c, running := false, agent := agent, dirty := false }] } }

/-- A job ends with flags set: STATE 3, the time, DONE; its standalone claims are published or returned (R280). -/
def ccEnd (c : Nat) (flags : Word) (complete : Bool) (s : State) : State :=
  let s0 := { s with ora := { s.ora with jobs := s.ora.jobs.filter (fun j => j.ctx != c) } }
  let s1 := s0.set .cc (ccOff c 0x1C) (3#32 ||| flags)
  let s2 := (s1.setN .cc (ccOff c 0x30) s.dt).irq .cc (8 + c)
  if complete then publishClaims (ccAgent c) none s2 else returnClaims (ccAgent c) s2

/-- FAULT. -/
def ccFault : Word := 0x20#32
/-- CANCELLED. -/
def ccCancelled : Word := 0x40#32

/-- CANCEL (R306). -/
def ccCancel (c : Nat) (s : State) : State :=
  if s.ora.jobs.any (fun j => j.ctx == c) then ccEnd c ccCancelled false s else s

/-- The address of a context's source or destination. -/
def ccAddr (s : State) (c r : Nat) (handle : Bool) : Nat :=
  if handle then s.slotAddr (s.getF .cc (ccOff c r) 11 0) 0 else oraBase + s.getF .cc (ccOff c r) 24 0

/-- The next queued context, round robin from the one after the last started (R288). -/
def ccNext (s : State) : Option Nat :=
  ((List.range 4).map (fun i => (s.ora.lastCc + 1 + i) % 4)).find?
    (fun c => s.ora.jobs.any (fun j => j.ctx == c && !j.running))

/-- The address ranges of a job, as Orangery offset and bytes: its source, and the bins of HIST256. -/
def ccRanges (s : State) (c : Nat) : List (Nat × Nat) :=
  let op := s.get .cc (ccOff c 0)
  (if bit op 8 then [] else [(s.getF .cc (ccOff c 4) 24 0, s.getN .cc (ccOff c 8) * (ccBits (fld op 6 4) / 8))])
    ++ (if fld op 2 0 = 2 ∧ bit op 9 = false then [(s.getF .cc (ccOff c 0x14) 24 0, 1024)] else [])

/-- A range that leaves the Orangery, or any while the page is disabled (R317); its first offset that is out of range. -/
def ccOutside (s : State) (c : Nat) : Option Nat :=
  ((ccRanges s c).find? (fun r => r.2 != 0 && (!s.enabled .ora || decide (s.part.oraSize < r.1 + r.2)))).map
    (fun r => max r.1 s.part.oraSize)

/-- An access of a job out of range or while the page is disabled ends it with FAULT (R262, R312, R317). The registers of its
context hold while it waits and runs, so a write to them after GO can bring this about. -/
def ccFaulted (c o : Nat) (s : State) : State :=
  ccEnd c ccFault false (if s.enabled .ora then oraMiss o s else oraDisabled s)

/-- A queued job starts and makes its handle uses (R288, R294); a SLOT_ORDER ends it (R295), and so does a range outside
(R317). The second part names the agent of a job whose command the trap kills (R283). -/
def ccStart (s : State) : State × Option Nat :=
  if s.ora.jobs.any (·.running) then (s, none)
  else
    match ccNext s with
    | none => (s, none)
    | some c =>
      let agent := ((s.ora.jobs.find? (fun j => j.ctx == c)).map (·.agent)).getD (ccAgent c)
      let op := s.get .cc (ccOff c 0)
      let w := ccBits (fld op 6 4)
      let js := s.ora.jobs.map (fun j => if j.ctx == c then { j with running := true } else j)
      let s1 := { s with ora := { s.ora with lastCc := c, jobs := js } }
      let s2 := s1.setF .cc (ccOff c 0x1C) 1 0 2
      let src := s.get .cc (ccOff c 4)
      let dst := s.get .cc (ccOff c 0x14)
      let r1 := if bit op 8 then handleUse agent (ccAgent c) (fld src 11 0) (fld src 23 16) 0 0
                    (s.getN .cc (ccOff c 8) * (w / 8)) 0 s2
                else (s2, true)
      let r2 := if r1.2 && decide (fld op 2 0 = 2) && bit op 9 then
                    handleUse agent (ccAgent c) (fld dst 11 0) (fld dst 23 16) 2 0 1024 0 r1.1
                else r1
      if r2.2 then
        match ccOutside r2.1 c with
        | some o => (ccFaulted c o r2.1, none)
        | none => (r2.1, none)
      else (ccEnd c ccFault false r2.1, if agent < 0x80 then some agent else none)

/-- The keys of a source. -/
def ccKeys (s : State) (c : Nat) : List (Option Nat) :=
  let op := s.get .cc (ccOff c 0)
  let t := fld op 6 4
  let k := ccBits t / 8
  let a := ccAddr s c 4 (bit op 8)
  (List.range (s.getN .cc (ccOff c 8))).map (fun i => ccKey t (s.load (a + i * k) k))

/-- The three results and SHORT of an operation over the keys (R290, R292). -/
def ccResult (op : Word) (a b : Nat) (ks : List (Option Nat)) : Nat × Nat × Nat × Bool :=
  let good := ks.filterMap id
  let cnt := fun (p : Nat → Bool) => (good.filter p).length
  match fld op 2 0 with
  | 0 => (cnt (fun k => k == a), 0, 0, false)
  | 1 => (cnt (fun k => decide (a ≤ k) && decide (k ≤ b)), 0, 0, false)
  | 2 => (good.length, cnt (fun k => decide (k < a)), cnt (fun k => decide (a + 256 * 2 ^ fld op 20 16 ≤ k)), false)
  | 3 =>
    (((ks.findIdx? (fun o => match o with | some k => decide (a ≤ k) | none => false))).getD 0xFFFFFFFF, 0, 0, false)
  | _ =>
    let t := if good.length < b then 0
             else (good.filter (fun t => decide (b ≤ cnt (fun k => decide (t ≤ k))))).foldl max 0
    (t, cnt (fun k => decide (t ≤ k)), cnt (fun k => decide (t < k)), decide (good.length < b))

/-- The bins of HIST256 (R291). -/
def ccBins (op : Word) (a : Nat) (ks : List (Option Nat)) : List Byte :=
  let good := ks.filterMap id
  (List.range 256).flatMap (fun i =>
    leBytes ((good.filter (fun k => decide (a ≤ k) && decide ((k - a) / 2 ^ fld op 20 16 = i))).length) 4)

/-- The results of a running job (R290-R292). A source written meanwhile leaves the result registers and the destination
undefined (R295); CC_NAN and SHORT, which an integer type holds at 0 whatever the data, are so for float types alone. -/
def ccFinish (c : Nat) (j : CcJob) (s : State) : State :=
  let op := s.get .cc (ccOff c 0)
  let a := s.getN .cc (ccOff c 0xC)
  let b := s.getN .cc (ccOff c 0x10)
  let ks := ccKeys s c
  let r := ccResult op a b ks
  let dst := ccAddr s c 0x14 (bit op 9)
  let pick := fun (i : Nat) (v : Nat) => if j.dirty then Config.freeWord s.seq i else wd v
  let s1 := ((s.set .cc (ccOff c 0x20) (pick 0 r.1)).set .cc (ccOff c 0x24) (pick 1 r.2.1)).set .cc (ccOff c 0x28) (pick 2 r.2.2.1)
  let loose := j.dirty && decide (4 ≤ fld op 6 4)
  let nans := (ks.filter Option.isNone).length
  let s2 := s1.set .cc (ccOff c 0x2C) (if loose then pick 3 nans else wd nans)
  let s3 := if fld op 2 0 = 2 then (if j.dirty then s2.undef dst 1024 else
              (if bit op 9 then s2.storeBytes dst (ccBins op a ks) else storeByAddr dst (ccBins op a ks) s2)) else s2
  let short := if loose then Config.freeBool s.seq 4 && decide (fld op 2 0 = 4) else r.2.2.2
  ccEnd c (if short then 0x10#32 else 0) true s3

/-- A running job completes, or ends with FAULT at an access outside (R317). -/
def ccDone (c : Nat) (s : State) : State :=
  match s.ora.jobs.find? (fun j => j.ctx == c && j.running) with
  | none => s
  | some j =>
    match ccOutside s c with
    | some o => ccFaulted c o s
    | none => ccFinish c j s

/-- A write to a register of a context (R304, R305, R306); `agent` is where a GO puts the job's claims. -/
def ccStore (agent : Option Nat) (off : Nat) (v mask : Word) (s : State) : State :=
  if 0x100 ≤ off ∧ off < 0x200 then
    let c := (off - 0x100) / 0x40
    let r := (off - 0x100) % 0x40
    if r = 0 then
      let st := s.getF .cc (ccOff c 0x1C) 1 0
      let v' := if fld v 31 28 = 0 ∧ (st = 1 ∨ st = 2) then setFld v 31 28 (s.ccOwner c) else v
      plainStore .cc off v' mask s
    else if r = 0x18 then
      if bit v 0 then ccGo c (agent.getD (ccAgent c)) s else if bit v 1 then ccCancel c s else s
    else plainStore .cc off v mask s
  else plainStore .cc off v mask s

/-- The jobs of a killed command end with FAULT (R294, R303). -/
def killJobs (agent : Nat) (s : State) : State :=
  (s.ora.jobs.filter (fun j => j.agent == agent)).foldl (fun t j => ccEnd j.ctx ccFault false t) s

/-- SOFT_RST of the ORA page (R315). -/
def oraSoftReset (s : State) : State :=
  invalidateAll (s.ora.jobs.foldl (fun t j => ccEnd j.ctx ccCancelled false t) s)

end Sys2Proof.Machine
end

