-- ==== Sys2Proof/Machine/Access.lean ====
section
/-! DEFINITION. Memory accesses by address: decode misses (R220, R222, R254), the Orangery's own refusals
(R262, R287, R312), the partition firewall (R895, R896), and the bytes they move. -/

namespace Sys2Proof.Machine

/-- The domain an agent's accesses carry (R47, R105); the others carry none. -/
def agentDom (s : State) : Agent → Nat
  | .cpu m => m.dom s
  | .window => domXhost
  | _ => 0

/-- The core code of an agent (R47). -/
def agentCode : Agent → Nat
  | .cpu m => m.code
  | .window => 0x60
  | _ => 0

/-- The permission bit of R895; none for SEC and for agents the firewall does not judge (R223). -/
def fwBit (s : State) (g : Agent) : Option Nat :=
  match g with
  | .cpu (.sequencer _) => some 3
  | .cpu m =>
    let d := m.dom s
    if d = domMgmt then some 0 else if d = domGate then some 1 else if d = domSched then some 2
    else if d = domApp then some 4 else if d = domXhost then some 5 else none
  | .window => some 5
  | _ => none

/-- Region `i` is enabled and holds the address (R895). -/
def fwHolds (s : State) (i a : Nat) : Bool :=
  s.getB .fw (0x208 + 0x10 * i) 31 && decide (s.getF .fw (0x200 + 0x10 * i) 27 0 ≤ a / 4096)
    && decide (a / 4096 ≤ s.getF .fw (0x204 + 0x10 * i) 27 0)

/-- The deciding region: the highest-numbered one that holds the address (R896). -/
def fwRegion (s : State) (a : Nat) : Option Nat :=
  ((List.range 32).reverse).find? (fun i => fwHolds s i a)

/-- The region that denies an access (R896). -/
def fwDenies (s : State) (g : Agent) (a : Nat) (write : Bool) : Option Nat :=
  match fwBit s g, fwRegion s a with
  | some b, some i => if s.getB .fw (0x208 + 0x10 * i) (b + 8 * write.toNat) then none else some i
  | _, _ => none

/-- What becomes of a byte access. -/
inductive Acc where
  | ok
  | miss
  /-- DRAM with its controller disabled (R254). -/
  | ddrOff
  | deny (region : Nat)
  | oraMiss
  | oraOff
  | protect
  /-- A protected region of Gatehouse SRAM (R836). -/
  | gate
deriving DecidableEq, Repr

/-- The address lies in the model-cache region and the agent may not write there (R287). -/
def mcProtects (s : State) (g : Agent) (a : Nat) (write : Bool) : Bool :=
  let r := s.mcRegion
  let d := agentDom s g
  write && inWindow a 1 (oraBase + r.1) r.2 && !(d == domSec || d == domMgmt || d == domSched)

/-- The audio ring, the retention area and the wake-reason records (R835, R836). -/
def gateProtected (a : Nat) : Bool :=
  inWindow a 1 (gtSram + 0x40000) 128000 || inWindow a 1 (gtSram + 0x60000) 0x1000 || inWindow a 1 (gtSram + 0x61000) 0x800

/-- A dropped write to a protected region of Gatehouse SRAM (R836); its DETAIL holds the address as R962 has it. -/
def gateDrop (a : Nat) (s : State) : State := s.raise .gate 0x6034 0 clsConfig (leBytes a 5)

/-- An access to one byte of memory. -/
def accJudge (s : State) (g : Agent) (a : Nat) (write : Bool) : Acc :=
  match windowOf a with
  | none => .miss
  | some (r, lo, _) =>
    if !reachesRegion g r || (r == .rom && write) then .miss
    else if r == .registers && (match g with | .cpu m => !s.regsFor m a | _ => false) then .miss
    else if r == .orangery && !s.enabled .ora then .oraOff
    else if r == .orangery && decide (lo + s.backed r ≤ a) then .oraMiss
    else if r == .dram && !s.enabled .ddrc then .ddrOff
    else if lo + s.backed r ≤ a then .miss
    else if mcProtects s g a write then .protect
    else if write && gateProtected a then .gate
    else
      match fwDenies s g a write with
      | some i => .deny i
      | none => .ok

/-- A bus error to a processor or to the window. -/
def agentError (g : Agent) (s : State) : State :=
  match g with
  | .cpu (.channel _) => s
  | .cpu _ => s.busError
  | .window => s.busError
  | _ => s

/-- A decode miss (R220). -/
def decodeMissAt (g : Agent) (a : Nat) (s : State) : State :=
  let s1 := if dramBase + s.dramSize ≤ a ∧ dramBase ≤ a ∧ a < dramEnd ∧ s.enabled .ddrc = true then
              (s.setN .ddrc 0x5C a).setN .ddrc 0x60 ((a >>> 32) % 256) else s
  agentError g (s1.raise .sys 0x0121 0 clsConfig [])

/-- A firewall denial (R223, R896). -/
def denyAt (g : Agent) (a i : Nat) (write : Bool) (s : State) : State :=
  let info := (a >>> 32) % 256 + agentDom s g * 0x100 + agentCode g * 0x10000 + i * 0x1000000 + write.toNat * 0x20000000
  let s1 := ((s.setN .fw 0xC0 a).setN .fw 0xC4 info).irq .fw 9
  agentError g (s1.raise .sys 0x0122 0 clsConfig [])

/-- The data of a failed read of `n` bytes: 0x0000_0000 (R220, R223, R254, R262); R312 names none. -/
def Acc.data (c : Acc) (n : Nat) : List Byte := if c = .oraOff then [] else List.replicate n 0#8

/-- An error response that R342 does not make an address fault: R312 and R836 (R340). -/
def Acc.retried (c : Acc) : Bool := c == .oraOff || c == .gate

/-- What a failed access leaves. -/
def accFail (g : Agent) (a : Nat) (write : Bool) (c : Acc) (s : State) : State :=
  match c with
  | .ok => s
  | .miss => decodeMissAt g a s
  | .ddrOff => agentError g (s.raise .sys 0x0121 0 clsConfig [])
  | .deny i => denyAt g a i write s
  | .oraMiss => let s1 := oraMiss (a - oraBase) s; if write then s1 else agentError g s1
  | .oraOff => agentError g (oraDisabled s)
  | .protect => agentError g (mcProtect s)
  | .gate => agentError g (gateDrop a s)

/-- The controller port of an agent (R240). -/
def agentPort : Agent → Option Nat
  | .cpu (.channel _) => some 0
  | .cpu (.application _) => some 7
  | .cpu _ => some 8
  | .window => some 8
  | .isp n => some (1 + n.val)
  | .codec n => some (3 + n.val)
  | .spl => some 6
  | .core _ => none

/-- An access of an agent reaches the controller: older requests to its 64-byte units are served first (R230), and
DDR_PORTp_CNT counts the units moved (R247). -/
def ddrReach (g : Agent) (a n : Nat) (s : State) : State :=
  match agentPort g with
  | some p => if inDramWindow a 1 then pdExit a n ((serveUnits a n s).count .ddrc (0xA0 + 4 * p) (unitsOf a n)) else s
  | none => s

/-- Core `n` has a command in body, and the agent is not a channel that works for it (R483): one whose active descriptor is
the command's own. -/
def tileForeign (s : State) (g : Agent) (n : Nat) : Bool :=
  s.getF (.nc n) 0x48 1 0 == 1 &&
    (match g with
     | .cpu (.channel c) => ((s.chan c.val).active.map (·.agent)) != some (0x10 + clusterOf n)
     | _ => true)

/-- Bytes written by address to backed memory (R263, R483). -/
def putByAddr (g : Agent) (a : Nat) (bs : List Byte) (s : State) : State :=
  match windowOf a with
  | some (.orangery, _, _) => storeByAddr a bs s
  | some (.tile n, _, _) =>
    let s1 := s.storeBytes a bs
    if tileForeign s g n then s1.undef a bs.length else s1
  | _ => s.storeBytes a bs

/-- The first byte of a range that fails, with its outcome. -/
def firstFail (s : State) (g : Agent) (a n : Nat) (write : Bool) : Option (Nat × Acc) :=
  ((List.range n).map (fun i => (a + i, accJudge s g (a + i) write))).find? (fun p => p.2 != .ok)

/-- A read by address: the state, and the bytes unless it failed. -/
def memRead (g : Agent) (a n : Nat) (s : State) : State × Option (List Byte) :=
  match firstFail s g a n false with
  | some (x, c) => (accFail g x false c s, none)
  | none => let s1 := ddrReach g a n s; (s1, some (s1.bytes a n))

/-- A write by address: the state, and whether it landed. -/
def memWrite (g : Agent) (a : Nat) (bs : List Byte) (s : State) : State × Bool :=
  match firstFail s g a bs.length true with
  | some (x, c) => (accFail g x true c s, false)
  | none => (putByAddr g a bs (ddrReach g a bs.length s), true)

end Sys2Proof.Machine
end

