-- ==== Sys2Proof/Machine/Locks.lean ====
section
/-! DEFINITION. Hardware locks (R78-R85, R114-R116, R130). -/

namespace Sys2Proof.Machine

/-- The offset of LOCKn. -/
def lockOff (n : Nat) : Nat := 0x100 + 4 * n

/-- HELD. -/
def lockHeld (w : Word) : Bool := bit w 0
/-- ABANDONED. -/
def lockAband (w : Word) : Bool := bit w 1
/-- HOLDER_DOMAIN and HOLDER_CORE. -/
def lockHolder (w : Word) : Nat × Nat := (fld w 19 16, fld w 27 20)

/-- The writer is the holder, by domain and core code (R79). -/
def isHolder (s : State) (m : Master) (w : Word) : Bool := lockHeld w && lockHolder w == (m.dom s, m.code)

/-- A free lock keeps ABANDONED alone (R83, R115). -/
def freeLock (w : Word) : Word := w &&& 2#32

/-- A lock granted to a master (R78, R83). -/
def heldLock (s : State) (m : Master) (w : Word) : Word := freeLock w ||| wd (1 + m.dom s * 0x10000 + m.code * 0x100000)

/-- A write of LOCKn (R78, R80, R81, R84). -/
def lockWrite (m : Master) (n : Nat) (v : Word) (s : State) : State :=
  let off := lockOff n
  let w := s.get .lock off
  let acq := bit v 8
  let rel := bit v 9
  let ak := bit v 10
  if 1 < acq.toNat + rel.toNat + ak.toNat then s.rejectD .lock off 0x02
  else if acq then
    if lockHeld w then s.count .lock 0x50 1 else s.set .lock off (heldLock s m w)
  else if rel then
    if !isHolder s m w then s.rejectD .lock off 0x06
    else if lockAband w then s.reject .lock off 0x0520
    else s.set .lock off 0
  else if ak then
    if !isHolder s m w then s.rejectD .lock off 0x06 else s.set .lock off (setBit w 1 false)
  else s

/-- Free a lock with ABANDONED set (R82). -/
def abandonOne (n : Nat) (s : State) : State := s.set .lock (lockOff n) 2#32

/-- A reset of holders frees their locks (R82); `p` says which core codes are reset. -/
def abandon (p : Nat → Bool) (s : State) : State :=
  (List.range 64).foldl (fun t n =>
    let w := t.get .lock (lockOff n)
    if lockHeld w && p (lockHolder w).2 then abandonOne n t else t) s

/-- The LOCK registers after its SOFT_RST (R85). -/
def lockSoftReset (s : State) : State :=
  (List.range 64).foldl (fun t n => if lockHeld (t.get .lock (lockOff n)) then abandonOne n t else t) s

/-- What a read of the LOCK page shows (R79, R114). -/
def lockView (m : Master) (off : Nat) (s : State) : Word :=
  let l := fun i => s.get .lock (lockOff i)
  if off = 0x40 then wd (bitsOf 32 (fun i => lockHeld (l i)))
  else if off = 0x44 then wd (bitsOf 32 (fun i => lockHeld (l (32 + i))))
  else if off = 0x48 then wd (bitsOf 32 (fun i => lockAband (l i)))
  else if off = 0x4C then wd (bitsOf 32 (fun i => lockAband (l (32 + i))))
  else if 0x100 ≤ off ∧ off < 0x200 then
    let w := s.get .lock off
    setBit w 2 (isHolder s m w)
  else s.get .lock off

end Sys2Proof.Machine
end

