-- ==== Sys2Proof/Machine/HostPort.lean ====
section
/-! DEFINITION. The memory window and the registers of the xSPI host port (R100-R107, R117-R124). -/

namespace Sys2Proof.Machine

/-- Change the port outside its registers. -/
def onPort (f : PortSt → PortSt) (s : State) : State := { s with port := f s.port }

/-- WFIFO_FREE (R100). -/
def State.fifoFree (s : State) : Nat := 64 - s.port.fifo.length

/-- WIN_ACTIVE. -/
def State.winActive (s : State) : Bool := s.getB .hport 0x44 8
/-- HP_WIN_CTRL.DIR: the window writes memory. -/
def State.winWrites (s : State) : Bool := s.getB .hport 0x54 0
/-- HP_WIN_ADDR. -/
def State.winAddr (s : State) : Nat := s.getN .hport 0x48 + (s.getF .hport 0x4C 7 0) <<< 32
/-- HP_WIN_COUNT. -/
def State.winCount (s : State) : Nat := s.getF .hport 0x50 23 0

/-- Set a bit of HP_STAT. -/
def hpSet (i : Nat) (s : State) : State := s.setB .hport 0x44 i true

/-- Set HP_WIN_ADDR and HP_WIN_COUNT. -/
def setWindow (a n : Nat) (s : State) : State :=
  ((s.setN .hport 0x48 a).setN .hport 0x4C ((a >>> 32) % 256)).setN .hport 0x50 n

/-- The window has moved one word (R118). -/
def winStep (s : State) : State := setWindow (s.winAddr + 4) (s.winCount - 1) s

/-- A reason of the port that belongs to no register access: PG_REASON alone (R70, R120). -/
def hpReason (code : Nat) (s : State) : State :=
  if s.refusedB .hport then s else s.setN .hport offReason (code + 0x58 * 0x10000)

/-- The window stops: what was prefetched is discarded (R123). -/
def winEnd (s : State) : State :=
  onPort (fun p => { p with fifo := [], prefetch := [], halted := none }) (s.setB .hport 0x44 8 false)

/-- The address of the word that the window moves to or from memory next. -/
def State.winNext (s : State) : Nat :=
  if s.winWrites then s.winAddr - 4 * s.port.fifo.length else s.winAddr + 4 * s.port.prefetch.length

/-- The port's state when the window halts: what waits in the FIFO goes with the failing word; words prefetched before
the failing one can still be read, and a WIN_READ of more answers `status`. -/
def haltPort (writes : Bool) (status : Nat) (p : PortSt) : PortSt :=
  { p with fifo := [], halted := if writes then none else some status }

/-- The words not moved from the next one on. -/
def State.winLeft (s : State) : Nat :=
  if s.winWrites then s.winCount + s.port.fifo.length else s.winCount - s.port.prefetch.length

/-- The window halts on its next word, with the address on it and the count exact (R107; log entry 88). `status` is
BUS_ERROR or BUS_TIMEOUT (R98). -/
def winHalt (status : Nat) (s : State) : State :=
  let a := s.winNext
  let s1 := (onPort (haltPort s.winWrites status) (setWindow a s.winLeft s)).setB .hport 0x44 8 false
  let s2 := (hpSet 2 s1).setN .hport 0x60 a
  if status = 4 then hpReason 0x0621 s2 else s2

/-- A window word arrives (R101, R122): it enters the FIFO, or is dropped as overflow. -/
def winPush (w : Word) (s : State) : State :=
  if !s.winActive ∨ !s.winWrites ∨ s.winCount = 0 then hpSet 1 s
  else if s.fifoFree = 0 then hpReason 0x0625 (hpSet 1 s)
  else winStep (onPort (fun p => { p with fifo := p.fifo ++ [w] }) s)

/-- A write of the window at an address fails: it meets a bus error or the firewall. A write out of the Orangery's range
is dropped with no bus error (R262). -/
def winWriteFails (s : State) (a : Nat) : Bool :=
  match firstFail s .window a 4 true with
  | some (_, c) => c != .oraMiss
  | none => false

/-- The oldest FIFO word reaches memory, or halts the window (R105, R107). -/
def winDrain (s : State) : State :=
  match s.port.fifo with
  | [] => s
  | w :: rest =>
    let s1 := (memWrite .window s.winNext (leBytes w.toNat 4) s).1
    if winWriteFails s s.winNext then winHalt 4 s1 else onPort (fun p => { p with fifo := rest }) s1

/-- Every FIFO word reaches memory (R102, R123). -/
def winDrainAll (s : State) : State := (List.range s.port.fifo.length).foldl (fun t _ => winDrain t) s

/-- The next word is prefetched (R106), or halts the window (R107). -/
def winFetch (s : State) : State :=
  if !s.winActive ∨ s.winWrites = true ∨ 64 ≤ s.port.prefetch.length ∨ s.winCount ≤ s.port.prefetch.length then s
  else
    let r := memRead .window s.winNext 4 s
    match r.2 with
    | some bs => onPort (fun p => { p with prefetch := p.prefetch ++ [wd (leNat bs)] }) r.1
    | none => winHalt 4 r.1

/-- The next word of the window moves. -/
def winMove (s : State) : State := if s.winWrites then winDrain s else winFetch s

/-- WINDOW_ACCESS_FAIL: the access of the next word fails (R107). -/
def winFailAt (why : WinFail) (s : State) : State :=
  if !s.present .hport ∨ !s.winActive then s
  else if (if s.winWrites then s.port.fifo.isEmpty else s.winLeft == 0 || decide (64 ≤ s.port.prefetch.length)) then s
  else winHalt (if why = .timeout then 3 else 4) s

/-- WINDOW_COUNT_DONE (R122). -/
def winDoneAt (s : State) : State :=
  if s.present .hport ∧ s.winActive = true ∧ s.winCount = 0 ∧ s.port.fifo.isEmpty = true then winEnd s else s

/-- START (R106, R120, R121). -/
def winStart (v : Word) (s : State) : State :=
  if s.winActive then s.reject .hport 0x54 0x0622
  else if s.winCount = 0 then s.rejectD .hport 0x54 0x04
  else if inRegSpace s.winAddr then s.reject .hport 0x54 0x0620
  else (winEnd (s.setB .hport 0x54 0 (bit v 0))).setB .hport 0x44 8 true

/-- STOP (R123). -/
def winStop (s : State) : State := winEnd (winDrainAll s)

/-- HP_WIN_CTRL (R119). A change of DIR while the window is active rejects the whole write, START and STOP with it, and
START with STOP runs START alone (log entry 89). -/
def winCtrl (v : Word) (s : State) : State :=
  if s.winActive ∧ bit v 0 ≠ s.winWrites then s.rejectD .hport 0x54 0x10
  else if bit v 1 then winStart v s
  else
    let s1 := s.setB .hport 0x54 0 (bit v 0)
    if bit v 2 ∧ s.winActive = true then winStop s1 else s1

/-- A write to a register of the HPORT page that passed judgement. -/
def hportStore (off : Nat) (v mask : Word) (s : State) : State :=
  if off = 0x40 ∧ (fld v 5 0 < 8 ∨ 32 < fld v 5 0) then s.rejectD .hport off 0x01
  else if off = 0x54 then winCtrl v s
  else if off = 0x58 then winPush v s
  else plainStore .hport off v mask s

/-- What a read of the HPORT page shows. -/
def hportView (off : Nat) (s : State) : Word :=
  if off = 0x44 then setFld (s.get .hport off) 22 16 s.fifoFree else s.get .hport off

/-- The oldest prefetched word; the window moves with it while it is active. -/
def winPop (s : State) : State × Word :=
  match s.port.prefetch with
  | w :: rest =>
    let s1 := onPort (fun p => { p with prefetch := rest }) s
    (if s.winActive then winStep s1 else s1, w)
  | [] => (s, 0)

/-- Take one word of a read window; it is fetched now if it was not prefetched. Undefined without a read window (R118). -/
def winTake (s : State) : State × Word :=
  let s1 := if s.port.prefetch.isEmpty then winFetch s else s
  if s1.winActive && !s1.winWrites && !s1.port.prefetch.isEmpty then winPop s1
  else (s1, Config.freeWord s.seq 0x600)

/-- A port reset (R124). Besides what the rule names it keeps HP_WIN_COUNT, HP_WIN_CTRL.DIR and HP_ERR_ADDR, and the window
address as it stands, past the FIFO words it discards (log entry 90). -/
def portReset (s : State) : State :=
  let s1 := (s.setN .hport 0x44 0x400000).setN .hport 0x5C 0
  abandon (fun c => c == 0x60) { s1 with port := PortSt.init }

end Sys2Proof.Machine
end

