-- ==== Sys2Proof/Machine/Ddr.lean ====
section
/-! DEFINITION. The DDR controller and its PHY (05): enable check, training, tracking, refresh, the request queue. -/

namespace Sys2Proof.Machine

/-- The data rate of a RATE code in MT/s (R225). -/
def ddrRate (code : Nat) : Nat := [3200, 4267, 5500, 6400, 7500, 8533].getD code 0

/-- How a RATE code runs the banks (R225): in 16 banks, or in bank groups. -/
inductive BankMode where
  | banks16
  | bankGroup
deriving DecidableEq, Repr

/-- The bank mode of a RATE code. -/
def bankMode (code : Nat) : BankMode := if code = 0 then .banks16 else .bankGroup

/-- The bank group of a place, in bank-group mode (R229). -/
def DramPlace.group (p : DramPlace) (code : Nat) : Option Nat :=
  match bankMode code with
  | .banks16 => none
  | .bankGroup => some (p.bank % 4)

/-- The place of a DRAM address in the devices that DDR_CFG names (R229). -/
def State.dramPlace (s : State) (a : Nat) : DramPlace := Machine.dramPlace (s.getF .ddrc 0x40 5 5 + 1) s.dramSize a

/-- RATE 6 or 7, or DENSITY 5 to 7. -/
def ddrReserved (cfg : Word) : Bool := decide (6 ≤ fld cfg 2 0) || decide (5 ≤ fld cfg 10 8)

/-- DDR_SIZE in MiB: 2 × ranks × density (R226). -/
def ddrMib (cfg : Word) : Nat := 2 * (fld cfg 5 5 + 1) * [1024, 1536, 2048, 3072, 4096].getD (fld cfg 10 8) 0

/-! ### QoS rules and the enable check (R249) -/

/-- The QoS rules on P1 to P8 from port `p` on; `sum` is the running sum of ISOCH LIMITs. -/
def qosRules (rate : Nat) (reg : Nat → Word) (p sum : Nat) : Nat → Option (Nat × Nat)
  | 0 => none
  | n + 1 =>
    let w := reg p
    let lim := fld w 19 8
    if fld w 1 0 = 3 then
      if lim = 0 then some (0x3021, 0x70 + 4 * p)
      else if 2 * ddrRate rate < 16 * (sum + lim) then some (0x3022, 0x70 + 4 * p)
      else qosRules rate reg (p + 1) (sum + lim) n
    else qosRules rate reg (p + 1) sum n

/-- The first QoS rule that the registers break. -/
def qosBad (s : State) (reg : Nat → Word) : Option (Nat × Nat) := qosRules (s.getF .ddrc 0x40 2 0) reg 1 0 8

/-- The enable check of the controller page. -/
def ddrCheck (s : State) : Option (Nat × Nat) :=
  let cfg := s.get .ddrc 0x40
  if ddrReserved cfg ∨ cfg &&& ~~~0x737#32 ≠ 0 then some (0x3002, 0x40)
  else if 4 ≤ fld cfg 2 0 ∧ bit cfg 4 = true then some (0x3020, 0x40)
  else if s.getB .ddrphy 0x44 0 = false then some (0x3023, 0x40)
  else qosBad s s.qos

/-- A controller that starts to run: channels awake; what the buckets hold is open (log entry 5). -/
def freshDdr (s : State) (d : DdrSt) : DdrSt :=
  { d with
    offDt := none
    trkDt := [(0, s.dt), (1, s.dt)]
    tokDt := s.dt
    pdA := false
    pdB := false
    tokens := (List.range 8).map (fun i => (i + 1, Config.freeNat s.seq i % (tokenCap + 1))) }

/-- 32 ms in DT units (R255). -/
def refreshLimit : Nat := 1048576

/-- DRAM that nothing refreshed for more than 32 ms has lost its contents (R255). -/
def lapse (s : State) : State :=
  match s.ddr.offDt with
  | some d => if d + refreshLimit < s.dt then s.undef dramBase (dramEnd - dramBase) else s
  | none => s

/-- The controller starts: DDR_SIZE is known. -/
def ddrStart (s : State) : State :=
  onDdr (freshDdr s) ((lapse s).setN .ddrc 0x44 (ddrMib (s.get .ddrc 0x40)))

/-! ### Training and retention (R231-R233, R252) -/

/-- PHY_RET_STAT.VALID follows the record. -/
def phyRet (s : State) : State := s.setB .ddrphy 0x48 0 s.ddr.retain.isSome

/-- The block registers of both DDR pages but DDR_PORTp_CNT, by address (R233). -/
def ddrRegs (s : State) : SMap Word :=
  s.regs.filter (fun p =>
    (decide (Blk.at .ddrc 0x40 ≤ p.1) && decide (p.1 < Blk.at .ddrc 0xA0))
      || (decide (Blk.at .ddrphy 0x40 ≤ p.1) && decide (p.1 < Blk.at .ddrphy 0x1000)))

/-- The check byte of a retention record: CRC-8 over what it holds (R233). -/
def retCheck (trained tracked : Word) (regs : SMap Word) : Byte :=
  crc8 (leBytes trained.toNat 4 ++ leBytes tracked.toNat 4 ++ regs.flatMap (fun p => leBytes p.1 4 ++ leBytes p.2.toNat 4))

/-- The check byte of a record matches. -/
def RetRec.ok (r : RetRec) : Bool := r.check == retCheck r.trained r.tracked r.regs

/-- A record holds a training of its DDR_CFG: DONE was 1 when it was written (log entry 97). -/
def RetRec.usable (r : RetRec) : Bool := bit ((r.regs.get? (Blk.at .ddrphy 0x44)).getD 0) 0

/-- The PHY writes the retention record (R233). -/
def retainNow (s : State) : State :=
  let s1 := s.setB .ddrphy 0x48 0 true
  onDdr (fun d => { d with
    retain := some { trained := d.trained, tracked := d.tracked, regs := ddrRegs s1
                     check := retCheck d.trained d.tracked (ddrRegs s1) } }) s1

/-- PHY_TRAIN_CTRL.START (R252). -/
def trainStart (v : Word) (s : State) : State :=
  if bit v 0 = false then s
  else if s.enabled .ddrphy = false then s.rejectD .ddrphy 0x40 0x08
  else if s.ddr.train.isSome then s.reject .ddrphy 0x40 0x3028
  else if s.enabled .ddrc then s.reject .ddrphy 0x40 0x3024
  else if ddrReserved (s.get .ddrc 0x40) then s.rejectD .ddrphy 0x40 0x02
  else onDdr (fun d => { d with train := some (s.get .ddrc 0x40, false), attempts := 0, offDt := none })
    ((lapse s).setN .ddrphy 0x44 4)

/-- A write of DDR_CFG clears DONE and outdates a running training (R252). -/
def cfgChanged (s : State) : State :=
  onDdr (fun d => { d with train := d.train.map (fun t => (t.1, true)) }) (s.setB .ddrphy 0x44 0 false)

/-- The running training ends with PHY_TRAIN_STAT at `stat`; the controller, still disabled, refreshes nothing from then
on (R255). -/
def trainStop (stat : Nat) (s : State) : State :=
  onDdr (fun d => { d with train := none, offDt := some s.dt }) (s.setN .ddrphy 0x44 stat)

/-- The values of a successful training (R231): the spec gives none, so they are free. -/
def newTraining (s : State) : State :=
  onDdr (fun d => { d with trained := Config.freeWord s.seq 20, tracked := Config.freeWord s.seq 21 }) s

/-- TRAINING_END: an attempt succeeds, or fails and is retried up to three in all (R231-R233). -/
def trainingEndAt (e : TrainEnd) (s : State) : State :=
  match s.ddr.train, e with
  | none, _ => s
  | some (_, dirty), .done =>
    let s1 := trainStop (0x1000 * (s.ddr.attempts + 1) + (!dirty).toNat) s
    if dirty then s1 else retainNow (newTraining (s1.setB .ddrc 0x48 1 false))
  | some _, .failed step chan =>
    if step = 0 then s
    else if s.ddr.attempts < 2 then onDdr (fun d => { d with attempts := d.attempts + 1 }) s
    else (trainStop (0x3002 + 0x10 * step.val + 0x100 * chan.val) s).raise .ddrphy 0x3025 0 clsPermanent []

/-- The PHY page stops: a running training ends without a result. -/
def phyStop (s : State) : State := if s.ddr.train.isSome then trainStop 0 s else s

/-! ### Tracking, refresh, power-down (R236-R239) -/

/-- The controller runs. -/
def State.ddrUp (s : State) : Bool := s.present .ddrc && s.enabled .ddrc

/-- Out-of-window runs in a row. -/
def DdrSt.trk (d : DdrSt) (ch : Nat) : Nat := if ch = 0 then d.trkA else d.trkB

/-- Change a channel's count. -/
def setTrk (ch n : Nat) (s : State) : State :=
  onDdr (fun d => if ch = 0 then { d with trkA := n } else { d with trkB := n }) s

/-- TRACKING_RUN (R236). -/
def trackingAt (ch : Nat) (inside : Bool) (s : State) : State :=
  if !s.ddrUp ∨ s.dt < (s.ddr.trkDt.get? ch).getD 0 + s.getN .ddrc 0x50 then s
  else
    let s0 := onDdr (fun d => { d with trkDt := d.trkDt.put ch s.dt }) s
    if inside then onDdr (fun d => { d with tracked := Config.freeWord s.seq 22 }) (setTrk ch 0 s0)
    else
      let n := s.ddr.trk ch + 1
      ((setTrk ch n s0).setB .ddrc 0x48 2 true).raise .ddrc 0x3026 0 (if 3 ≤ n then clsPermanent else clsTransient) []

/-- A further refresh of one bank, or of all of them. -/
def Refreshes.next (all : Bool) (r : Refreshes) : Refreshes :=
  if all then { r with allBank := r.allBank + 1 } else { r with perBank := r.perBank + 1 }

/-- The bank of the next per-bank refresh: the sixteen take turns, in rising order (log entry 98). -/
def Refreshes.bank (r : Refreshes) : Nat := r.perBank % 16

/-- A channel is refreshed. -/
def refreshChan (all : Bool) (ch : Nat) (s : State) : State :=
  onDdr (fun d => if ch = 0 then { d with refA := d.refA.next all } else { d with refB := d.refB.next all }) s

/-- REFRESH: one bank with DDR_REF.MODE 0, all banks with MODE 1 (R237). -/
def refreshAt (ch : Nat) (s : State) : State := if s.ddrUp then refreshChan (s.getB .ddrc 0x4C 0) ch s else s

/-- MR4_READ (R238). -/
def mr4At (code : Nat) (s : State) : State := if s.ddrUp then s.setF .ddrc 0x48 10 8 code else s

/-- POWER_DOWN_ENTRY: an idle channel, with DDR_PD.IDLE not 0 (R239). -/
def powerDownAt (ch : Nat) (s : State) : State :=
  if !s.ddrUp ∨ s.getF .ddrc 0x54 15 0 = 0 ∨ s.ddr.queue.any (fun r => ddrChan r.addr == ch) then s
  else onDdr (fun d => if ch = 0 then { d with pdA := true } else { d with pdB := true }) s

/-! ### Requests (R230, R240-R245) -/

/-- A 64-byte access of the controller (R228). -/
def reqOk (s : State) (r : DdrReq) : Bool :=
  s.ddrUp && s.inDram r.addr 1 && decide (r.addr % 64 + (r.data.map List.length).getD 1 ≤ 64)

/-- The class of a request: on P0 that of the channel's active descriptor (CLASS, W0 [3:2]), never ISOCH, and none where no
descriptor is active (R241); elsewhere that of its port. -/
def reqClass (s : State) (r : DdrReq) : Option Nat :=
  if r.port = 0 then (s.chan r.chan.val).active.map (fun a => min 2 (fld (a.words.getD 0 0) 3 2))
  else some (fld (s.qos r.port.val) 1 0)

/-- A request joins the queue with its class as it stands (R241, R259). -/
def ddrRequest (r : DdrReq) (s : State) : State :=
  if reqOk s r then
    match reqClass s r with
    | some c => onDdr (fun d => { d with queue := d.queue ++ [{ r with cls := Fin.ofNat 4 c, aged := false }] }) s
    | none => s
  else s

/-- The agent whose request waits at a port (R240); P8 stands for Belvedere. -/
def reqAgent (r : DdrReq) : Agent :=
  match r.port.val with
  | 0 => .cpu (.channel r.chan)
  | 1 => .isp 0
  | 2 => .isp 1
  | 3 => .codec 0
  | 4 => .codec 1
  | 5 => .codec 2
  | 6 => .spl
  | 7 => .cpu (.application 0)
  | _ => .cpu .belvedere

/-- A request of channel `ch` that no older one to its 64-byte unit precedes (R230), by its place. -/
def servable (s : State) (ch : Nat) : List (Nat × DdrReq) :=
  let l := (List.range s.ddr.queue.length).zip s.ddr.queue
  l.filter (fun p => ddrChan p.2.addr == ch && !((s.ddr.queue.take p.1).any (fun q => q.addr / 64 == p.2.addr / 64)))

/-- The first of these ports in round-robin order after `last`. -/
def nextPort (last : Nat) (ports : List Nat) : Option Nat :=
  ((List.range 9).map (fun i => (last + 1 + i) % 9)).find? ports.contains

/-- The request that a channel serves next, by its place, and its class. -/
def pickRequest (s : State) (ch : Nat) : Option (Nat × DdrReq × Nat) :=
  let l := servable s ch
  let top := l.foldl (fun a p => max a (serveClass s p.2)) 0
  let cls := l.filter (fun p => serveClass s p.2 == top)
  let ahead := cls.filter (fun p => p.2.cls.val == 1 && p.2.aged)
  let best := if ahead.isEmpty then cls else ahead
  (nextPort ((s.ddr.lastPort.get? top).getD 8) (best.map (·.2.port.val))).bind (fun q =>
    (best.find? (fun p => p.2.port.val == q)).map (fun p => (p.1, p.2, top)))

/-- A channel takes a request (R242). -/
def ddrServe (ch : Nat) (s : State) : State :=
  if !s.ddrUp then s
  else
    let s0 := fillTokens s
    match pickRequest s0 ch with
    | some (i, r, top) => serveReq i r top s0
    | none => s

/-- AGE_PROMOTION of a waiting request whose limit is not 0 (R244). -/
def agePromoteAt (i : Nat) (s : State) : State :=
  match s.ddr.queue[i]? with
  | some r =>
    let lim := if r.cls.val = 0 then s.getF .ddrc 0x58 31 16 else s.getF .ddrc 0x58 15 0
    if s.ddrUp ∧ r.cls.val < 2 ∧ lim ≠ 0 then
      onDdr (fun d => { d with queue := d.queue.set i { r with aged := true } }) s
    else s
  | none => s

/-- The controller is disabled: accepted requests complete first (R255). -/
def ddrcStop (s : State) : State :=
  let s1 := (List.range s.ddr.queue.length).foldl (fun t _ => ddrServe 1 (ddrServe 0 t)) s
  onDdr (fun d => { d with queue := [], pdA := false, pdB := false, offDt := some s.dt }) { s1 with resp := s.resp }

/-! ### Register writes and reads -/

/-- A QoS write on an enabled page that breaks a rule is rejected (R249); the buckets have filled at the old LIMIT until now
(R259). -/
def qosStore (off : Nat) (v mask : Word) (s : State) : State :=
  let p := (off - 0x70) / 4
  let w := v &&& 0xFFF03#32
  let bad := if s.enabled .ddrc ∧ p ≠ 0 then qosBad s (fun q => if q = p then w else s.qos q) else none
  match bad with
  | some e => s.reject .ddrc off e.1
  | none => plainStore .ddrc off v mask (fillTokens s)

/-- A write to a register of the controller page that passed judgement; INTERVAL has a range (R249). -/
def ddrcStore (off : Nat) (v mask : Word) (s : State) : State :=
  if off = 0x40 then cfgChanged (plainStore .ddrc off v mask s)
  else if off = 0x50 then
    if v.toNat < 32768 ∨ 32768000 < v.toNat then s.rejectD .ddrc off 0x01 else plainStore .ddrc off v mask s
  else if 0x70 ≤ off ∧ off < 0x94 then qosStore off v mask s
  else plainStore .ddrc off v mask s

/-- What a read of the controller page shows: the reserved bits that DDR_CFG keeps for its check read 0 (R7). -/
def ddrcView (off : Nat) (s : State) : Word :=
  if off = 0x40 then s.get .ddrc off &&& 0x737#32 else s.get .ddrc off

/-- A write to a register of the PHY page that passed judgement. -/
def phyStore (off : Nat) (v mask : Word) (s : State) : State :=
  if off = 0x40 then trainStart v s else plainStore .ddrphy off v mask s

/-- DRAM contents and the retention record are lost (R256). -/
def dramLost (s : State) : State :=
  onDdr (fun _ => DdrSt.init) (s.undef dramBase (dramEnd - dramBase))

end Sys2Proof.Machine
end

