-- ==== Sys2Proof/Machine/Rings.lean ====
section
/-! DEFINITION. Hardware rings (08): pointers, doorbells, full and empty, bad entries, interrupts, ring enable. -/

namespace Sys2Proof.Machine

/-- The page of ring `q` (R373). -/
def rgBlk (q : Nat) : Blk := .ring (q / 16)
/-- The offset of a register of ring `q` (R403). -/
def rgOff (q r : Nat) : Nat := 0x100 + 0x40 * (q % 16) + r
/-- A register of ring `q`. -/
def State.rg (s : State) (q r : Nat) : Word := s.get (rgBlk q) (rgOff q r)
/-- Store a register of ring `q`. -/
def State.setRg (s : State) (q r : Nat) (w : Word) : State := s.set (rgBlk q) (rgOff q r) w
/-- RG_STAT.ENABLED. -/
def State.rgOn (s : State) (q : Nat) : Bool := bit (s.rg q 0x14) 0
/-- RG_CTRL.EN: from the write that starts the ring check on (R399, R400). -/
def State.rgEn (s : State) (q : Nat) : Bool := bit (s.rg q 0x10) 0
/-- RG_STAT.BUSY: the ring check runs (R399). -/
def State.rgBusy (s : State) (q : Nat) : Bool := bit (s.rg q 0x14) 2
/-- N = 2^ORDER (R374). -/
def State.rgN (s : State) (q : Nat) : Nat := 2 ^ (fld (s.rg q 0x08) 3 0)
/-- Entry bytes (R404). -/
def State.rgEsize (s : State) (q : Nat) : Nat := 16 * 2 ^ (fld (s.rg q 0x08) 9 8)
/-- BASE. -/
def State.rgBase (s : State) (q : Nat) : Nat := (s.rg q 0).toNat + (fld (s.rg q 4) 7 0) <<< 32
/-- HEAD. -/
def State.rgHead (s : State) (q : Nat) : Nat := (s.rg q 0x1C).toNat
/-- TAIL. -/
def State.rgTail (s : State) (q : Nat) : Nat := (s.rg q 0x20).toNat
/-- (a − b) mod 2N. -/
def ringDiff (n a b : Nat) : Nat := (a + 2 * n - b % (2 * n)) % (2 * n)
/-- The occupancy (R375). -/
def State.rgOcc (s : State) (q : Nat) : Nat := ringDiff (s.rgN q) (s.rgTail q) (s.rgHead q)
/-- HW_PROD. -/
def State.rgHwProd (s : State) (q : Nat) : Bool := bit (s.rg q 0x08) 16
/-- HW_CONS. -/
def State.rgHwCons (s : State) (q : Nat) : Bool := bit (s.rg q 0x08) 17
/-- The address of the entry a pointer names (R374, R375). -/
def State.rgSlot (s : State) (q p : Nat) : Nat := s.rgBase q + (p % s.rgN q) * s.rgEsize q
/-- The bytes of the entry a pointer names. -/
def State.rgEntry (s : State) (q p : Nat) : List Byte := s.bytes (s.rgSlot q p) (s.rgEsize q)
/-- The check byte of an entry holds (R378). -/
def checkOk (e : List Byte) : Bool := e.getLastD 0 == crc8 e.dropLast
/-- An entry with its check byte appended (R378). -/
def withCheck (body : List Byte) : List Byte := body ++ [crc8 body]

/-- Set causes in RG_IRQ (R394). -/
def State.rgIrq (s : State) (q : Nat) (m : Word) : State := s.setRg q 0x2C (s.rg q 0x2C ||| m)

/-- `k` entries become available: PUB and the DATA cause (R384, R395). -/
def ringPublished (q k : Nat) (s : State) : State :=
  let r := s.ring q
  let pub := r.pub + k
  let cnt := fld (s.rg q 0x24) 11 0
  let dt0 := if r.pub = 0 then s.dt else r.pubDt
  if cnt ≠ 0 ∧ cnt ≤ pub then (s.setRing q { r with pub := 0, pubDt := dt0 }).rgIrq q 1
  else s.setRing q { r with pub := pub, pubDt := dt0 }

/-- An applied move of the tail (R384). -/
def moveTail (q p : Nat) (s : State) : State :=
  ringPublished q (ringDiff (s.rgN q) p (s.rgTail q)) (s.setRg q 0x20 (wd p))

/-- An applied move of the head: LOW, SPACE, PUB (R395, R396, R397), and room for the record of R389. -/
def moveHead (q p : Nat) (s : State) : State :=
  let old := s.rgOcc q
  let s1 := s.setRg q 0x1C (wd p)
  let new := s1.rgOcc q
  let low := fld (s.rg q 0x28) 12 0
  let s2 := if low ≠ 0 ∧ low ≤ old ∧ new < low then s1.rgIrq q 2 else s1
  let r := s2.ring q
  let s3 := if r.space then s2.rgIrq q 4 else s2
  s3.setRing q { r with space := false, pub := if new = 0 then 0 else r.pub,
                        fullRec := if new < s.rgN q then false else r.fullRec }

/-- A ring is full. -/
def State.rgFull (s : State) (q : Nat) : Bool := decide (s.rgN q ≤ s.rgOcc q)

/-- A ring that has free space may raise the record of R389 again. -/
def roomSeen (q : Nat) (s : State) : State :=
  if s.rgFull q then s else s.setRing q { s.ring q with fullRec := false }

/-- A software write of RG_TAIL (R382, R383, R384). -/
def tailStore (q : Nat) (v : Word) (s : State) : State :=
  let p := fld v 12 0
  let n := s.rgN q
  if 2 * n ≤ p then s.rejectD (rgBlk q) (rgOff q 0x20) 0x01
  else if !s.rgEn q then roomSeen q (s.setRg q 0x20 (wd p))
  else if n < ringDiff n p (s.rgHead q) then
    let s1 := (s.count (rgBlk q) (rgOff q 0x34) 1).setRg q 0x14 (setBit (s.rg q 0x14) 3 true)
    s1.setRing q { s1.ring q with space := true }
  else roomSeen q (moveTail q p s)

/-- A software write of RG_HEAD (R382, R385). -/
def headStore (q : Nat) (v : Word) (s : State) : State :=
  let p := fld v 12 0
  let n := s.rgN q
  if 2 * n ≤ p then s.rejectD (rgBlk q) (rgOff q 0x1C) 0x01
  else if !s.rgEn q then roomSeen q (s.setRg q 0x1C (wd p))
  else if s.rgOcc q < ringDiff n (s.rgTail q) p then s.reject (rgBlk q) (rgOff q 0x1C) 0x1021
  else moveHead q p s

/-- A hardware consumer frees its head entry (R381). -/
def takeHead (q : Nat) (s : State) : State := moveHead q ((s.rgHead q + 1) % (2 * s.rgN q)) s

/-- A hardware producer may write: ring enabled with HW_PROD. -/
def State.rgProduces (s : State) (q : Nat) : Bool := s.rgOn q && s.rgHwProd q

/-- A hardware producer finds its ring full (R389). -/
def ringFull (q : Nat) (s : State) : State :=
  let s1 := s.count (rgBlk q) (rgOff q 0x34) 1
  if (s1.ring q).fullRec then s1
  else (s1.setRing q { s1.ring q with fullRec := true }).raise (rgBlk q) 0x1031 0 clsTransient []

/-- An entry reaches the memory of a ring: a write of its producer (R222, R247, R254). The ERR hardware (R969), which R222
does not list, meets nothing but a disabled DRAM. -/
def ringStoreEntry (g : Option Agent) (a : Nat) (e : List Byte) (s : State) : State × Bool :=
  match g with
  | some g => memWrite g a e s
  | none => if inDramWindow a 1 && !s.enabled .ddrc then (s.raise .sys 0x0121 0 clsConfig [], false) else (s.storeBytes a e, true)

/-- A hardware producer publishes one entry; on a full or stopped ring nothing is written, and an entry whose write fails is
not published (log entry 96). -/
def ringPut (g : Option Agent) (q : Nat) (e : List Byte) (s : State) : State :=
  if !s.rgProduces q then s
  else if s.rgFull q then ringFull q s
  else
    let p := s.rgTail q
    let r := ringStoreEntry g (s.rgSlot q p) e s
    if r.2 then moveTail q ((p + 1) % (2 * s.rgN q)) r.1 else r.1

/-- A pointer write of a master that moves its own end: a register write like any other (R380). -/
def tailWrite (m : Master) (q : Nat) (v : Word) (s : State) : State :=
  guarded (wr m ((rgBlk q).at (rgOff q 0x20)) v) (fun w _ t => tailStore q w t) s

/-- The same for the head. -/
def headWrite (m : Master) (q : Nat) (v : Word) (s : State) : State :=
  guarded (wr m ((rgBlk q).at (rgOff q 0x1C)) v) (fun w _ t => headStore q w t) s

/-- A software producer's entry: the bytes, then the tail write of its own domain (R386); an entry whose write fails is not
published (log entry 96). -/
def ringPutSw (m : Master) (q : Nat) (e : List Byte) (s : State) : State :=
  if s.rgOn q && !s.rgFull q then
    let p := s.rgTail q
    let r := memWrite (.cpu m) (s.rgSlot q p) e s
    if r.2 then tailWrite m q (wd ((p + 1) % (2 * s.rgN q))) r.1 else r.1
  else s

/-- A software consumer frees the head entry of a ring (R376, R385). -/
def freeHead (m : Master) (q : Nat) (s : State) : State := headWrite m q (wd ((s.rgHead q + 1) % (2 * s.rgN q))) s

/-- RG_BAD and the BAD cause (R391, R392). -/
def ringBad (q p : Nat) (s : State) : State :=
  let n := satAdd (fld (s.rg q 0x38) 31 16) 1 0xFFFF
  (s.setRg q 0x38 (wd (p + n <<< 16))).rgIrq q 8

/-- A software consumer's report (R391, R405); the DETAIL layout is log entry 13. -/
def badReport (q : Nat) (v : Word) (s : State) : State :=
  if !s.rgOn q then s.rejectD (rgBlk q) (rgOff q 0x38) 0x08
  else
    let p := fld v 12 0
    (ringBad q p s).raise (rgBlk q) 0x1030 0 clsTransient [BitVec.ofNat 8 q, byteOf p 0, byteOf p 1]

/-- DATA by the coalescing time (R145, R395). -/
def coalesce (q : Nat) (s : State) : State :=
  let r := s.ring q
  let t := fld (s.rg q 0x24) 31 16
  if r.pub ≠ 0 ∧ t ≠ 0 ∧ r.pubDt + t ≤ s.dt then (s.setRing q { r with pub := 0 }).rgIrq q 1 else s

/-- The regions of R379. -/
def State.ringRegion (s : State) (a n : Nat) : Bool :=
  inWindow a n dramBase s.dramSize || inWindow a n dispSram dispSramSize || inWindow a n belvSram belvSramSize

/-- The ring check (R399): the first failing rule, as code and offset. -/
def ringCheck (s : State) (q : Nat) : Option (Nat × Nat) :=
  let b := rgBlk q
  let ord := fld (s.rg q 0x08) 3 0
  let es := fld (s.rg q 0x08) 9 8
  let base := s.rgBase q
  let len := s.rgN q * s.rgEsize q
  let prod := fld (s.rg q 0x0C) 3 0
  let cons := fld (s.rg q 0x0C) 7 4
  if !s.enabled b then some (0x1008, 0x008)
  else if ord < 2 ∨ 12 < ord then some (0x1001, rgOff q 0x08)
  else if es = 3 then some (0x1002, rgOff q 0x08)
  else if base % 64 ≠ 0 then some (0x1003, rgOff q 0)
  else if !s.ringRegion base len then some (0x1020, rgOff q 0)
  else if prod = 0 ∨ 6 < prod ∨ cons = 0 ∨ 6 < cons then some (0x1002, rgOff q 0x0C)
  else if (List.range 128).any (fun r => r != q && s.rgOn r && overlaps base len (s.rgBase r) (s.rgN r * s.rgEsize r)) then
    some (0x1005, rgOff q 0)
  else if 2 * s.rgN q ≤ s.rgHead q then some (0x1001, rgOff q 0x1C)
  else if 2 * s.rgN q ≤ s.rgTail q ∨ s.rgN q < s.rgOcc q then some (0x1001, rgOff q 0x20)
  else none

/-- What a refused check of a context leaves on its page (R60). -/
def refuse (b : Blk) (code off : Nat) (s : State) : State :=
  (s.irq b 0).raise b code 0 clsConfig [byteOf off 0, byteOf off 1]

/-- RG_CTRL.EN written at 1: the ring check starts (R399, R58, R63). -/
def ringEnableAt (q : Nat) (s : State) : State :=
  if s.rgOn q ∨ s.rgBusy q then s else (s.setRg q 0x14 (setBit (s.rg q 0x14) 2 true)).setRg q 0x10 1

/-- The ring check completes (R399, R59, R60). -/
def ringCheckDone (q : Nat) (s : State) : State :=
  if !s.rgBusy q then s
  else
    let st := setBit (s.rg q 0x14) 2 false
    match ringCheck s q with
    | none => ((s.setRg q 0x14 (setBit (setBit st 0 true) 1 false)).setRg q 0x10 1).setRg q 0x18 0
    | some (code, off) =>
      refuse (rgBlk q) code off (((s.setRg q 0x14 (setBit st 1 true)).setRg q 0x10 0).setRg q 0x18 (wd (code + off <<< 16)))

/-- The ring stops, or its check ends without an outcome (R401). -/
def ringDisableAt (q : Nat) (s : State) : State :=
  let s1 := (s.setRg q 0x14 (setBit (setBit (s.rg q 0x14) 0 false) 2 false)).setRg q 0x10 0
  s1.setRing q { s1.ring q with pub := 0, space := false }

/-- A write of RG_CTRL. -/
def ringCtrl (q : Nat) (v : Word) (s : State) : State := if bit v 0 then ringEnableAt q s else ringDisableAt q s

/-- RG_CFG: fixed ends and sizes keep their reset bits (R377, R404). -/
def ringCfgStore (q : Nat) (v : Word) (s : State) : State :=
  let m := 0xF + (if 120 ≤ q then 0x300 else 0) + (ringSelProd q).toNat * 0x10000 + (ringSelCons q).toNat * 0x20000
  s.setRg q 0x08 (merge (s.rg q 0x08) v (wd m))

/-- A write to a register of a RING page that passed judgement. -/
def ringStore (k off : Nat) (v mask : Word) (s : State) : State :=
  if 0x100 ≤ off ∧ off < 0x500 then
    let q := 16 * k + (off - 0x100) / 0x40
    let r := off % 0x40
    if r = 0x08 then roomSeen q (ringCfgStore q v s)
    else if r = 0x10 then ringCtrl q v s
    else if r = 0x1C then headStore q v s
    else if r = 0x20 then tailStore q v s
    else if r = 0x2C then s.setRg q 0x2C (s.rg q 0x2C &&& ~~~(v &&& mask &&& 0xF#32))
    else if r = 0x38 then badReport q v s
    else plainStore (.ring k) off v mask s
  else plainStore (.ring k) off v mask s

/-- What a read of a RING page shows (R398, R403, R404). -/
def ringView (k off : Nat) (s : State) : Word :=
  if off = 0x40 then wd (bitsOf 16 (fun i => s.rgOn (16 * k + i)))
  else if off = offRaw then
    wd (fld (s.get (.ring k) off) 7 0 +
      (bitsOf 16 (fun i => decide (s.rg (16 * k + i) 0x2C &&& s.rg (16 * k + i) 0x30 ≠ 0))) <<< 8)
  else if 0x100 ≤ off ∧ off < 0x500 ∧ off % 0x40 = 0x14 then
    let q := 16 * k + (off - 0x100) / 0x40
    setFld (s.rg q 0x14) 28 16 (s.rgOcc q)
  else s.get (.ring k) off

/-- A RING page stops: every ring on it is disabled (R402, R416). -/
def ringPageStop (k : Nat) (s : State) : State := (List.range 16).foldl (fun t i => ringDisableAt (16 * k + i) t) s

end Sys2Proof.Machine
end

