-- ==== Sys2Proof/Machine/Camera.lean ====
section
/-! DEFINITION. Camera ports and image pipelines (15): packets, frames, publication, contexts, slots. -/

namespace Sys2Proof.Machine

/-! ### Contexts and their registers -/

/-- A context's key. -/
def camKey (p c : Nat) : Nat := 4 * p + c
/-- A context outside its registers. -/
def State.cam (s : State) (p c : Nat) : CamSt := (s.cams.get? (camKey p c)).getD CamSt.init
/-- Store a context. -/
def State.setCam (s : State) (p c : Nat) (x : CamSt) : State := { s with cams := s.cams.put (camKey p c) x }
/-- The offset of a register of context `c` (R744). -/
def cxOff (c r : Nat) : Nat := 0x100 + 0x40 * c + r
/-- A register of a context. -/
def State.cx (s : State) (p c r : Nat) : Word := s.get (.csi p) (cxOff c r)
/-- CX_CFG.EN. -/
def State.cxOn (s : State) (p c : Nat) : Bool := bit (s.cx p c 0) 0
/-- The ring of a context (R724). -/
def camRing (p c : Nat) : Nat := 80 + 4 * p + c

/-- CX_CFG.ROUTE. -/
def cfgRoute (w : Word) : Nat := fld w 17 16
/-- CX_CFG.DT. -/
def cfgDt (w : Word) : Nat := fld w 13 8
/-- CX_CFG.SLOT. -/
def cfgSlot (w : Word) : Nat := fld w 24 24
/-- The ISP whose DDR port a context uses (R737). -/
def cfgIsp (w : Word) : Nat := if cfgRoute w = 2 then fld w 20 20 else cfgRoute w % 2
/-- The agent that writes a context's frames (R737). -/
def cfgAgent (w : Word) : Agent := .isp ⟨cfgIsp w % 2, Nat.mod_lt _ (by decide)⟩

/-- The offset of a register of slot `t` (R747). -/
def slOff (t r : Nat) : Nat := 0x100 + 0x40 * t + r
/-- A register of a slot. -/
def State.sl (s : State) (n t r : Nat) : Word := s.get (.isp n) (slOff t r)
/-- SL_STAT.BOUND. -/
def State.slBound (s : State) (n t : Nat) : Bool := bit (s.sl n t 0x1C) 0

/-- Bytes of one line as the link carries it (R722, R726); a partial byte counts whole (log entry 20). -/
def linkLine (dt width : Nat) : Nat :=
  if dt = 0x1E then 2 * width
  else if dt = 0x2B then (10 * width + 7) / 8
  else if dt = 0x2C then (12 * width + 7) / 8
  else width

/-- The output format of a RAW route (R734). -/
def rawFmt (cfg : Word) : Nat :=
  let dt := cfgDt cfg
  if dt = 0x12 then 5
  else if dt = 0x1E then 4
  else if dt = 0x2A then 0
  else if bit cfg 21 then 3
  else if dt = 0x2B then 1 else 2

/-- Output bytes of one line of a RAW route (R734). -/
def rawLine (cfg : Word) (width : Nat) : Nat := if rawFmt cfg = 3 then 2 * width else linkLine (cfgDt cfg) width

/-- RAW10 unpacked: four pixels in five bytes, the low bits in the fifth (log entry 20). -/
def unpack10 : Nat → List Byte → List Nat
  | 0, _ => []
  | k + 1, a :: b :: c :: d :: e :: r =>
    let lo := e.toNat
    (a.toNat * 4 + lo % 4) :: (b.toNat * 4 + lo / 4 % 4) :: (c.toNat * 4 + lo / 16 % 4) :: (d.toNat * 4 + lo / 64) :: unpack10 k r
  | _, _ => []

/-- RAW12 unpacked: two pixels in three bytes, the low bits in the third (log entry 20). -/
def unpack12 : Nat → List Byte → List Nat
  | 0, _ => []
  | k + 1, a :: b :: c :: r => (a.toNat * 16 + c.toNat % 16) :: (b.toNat * 16 + c.toNat / 16) :: unpack12 k r
  | _, _ => []

/-- A list cut or padded with zeros to `n` bytes (R726). -/
def fit (n : Nat) (bs : List Byte) : List Byte := (bs ++ List.replicate n 0#8).take n

/-- The bytes a RAW route writes for one line (R734). -/
def rawOut (cfg : Word) (width : Nat) (bs : List Byte) : List Byte :=
  let xs := fit (linkLine (cfgDt cfg) width) bs
  if rawFmt cfg = 3 then
    let px := if cfgDt cfg = 0x2B then unpack10 width (xs ++ List.replicate 5 0#8) else unpack12 width (xs ++ List.replicate 3 0#8)
    (px.take width).flatMap (fun v => leBytes v 2)
  else xs

/-- Lines of `stride` bytes that an ISP output takes (R734). -/
def ispLines (fmt height : Nat) : Nat :=
  if fmt = 0x10 then height + height / 2 else if fmt = 0x11 then 2 * height else height

/-! ### Flags, error codes -/

/-- TRUNC. -/
def fTrunc : Nat := 2
/-- CRC. -/
def fCrc : Nat := 4
/-- OVERFLOW. -/
def fOver : Nat := 8
/-- NO_FE. -/
def fNoFe : Nat := 0x10
/-- ABORTED. -/
def fAbort : Nat := 0x20
/-- STATS. -/
def fStats : Nat := 0x40
/-- WRITE_ERR. -/
def fWrite : Nat := 0x80

/-- A frame with flags set. -/
def Frame.mark (f : Frame) (m : Nat) : Frame := { f with flags := f.flags ||| m }

/-- Set a bit of CSI_ERR and the ERR interrupt (R744, R745). -/
def csiErr (p i : Nat) (s : State) : State := (s.setB (.csi p) 0x48 i true).irq (.csi p) 12

/-- Raise a code at most once for the open frame of a context (R748). -/
def camRaise (b : Blk) (p c code : Nat) (s : State) : State :=
  let x := s.cam p c
  match x.frame with
  | none => s.raise b code 0 clsTransient []
  | some f =>
    if f.once.contains code then s
    else (s.setCam p c { x with frame := some { f with once := code :: f.once } }).raise b code 0 clsTransient []

/-- Change the open frame of a context. -/
def onFrame (p c : Nat) (g : Frame → Frame) (s : State) : State :=
  let x := s.cam p c
  s.setCam p c { x with frame := x.frame.map g }

/-- A port-wide error: once for each context with an open frame that lacks it, or once when no frame is open (log entry 21). -/
def portRaise (p code : Nat) (which : Nat → Bool) (s : State) : State :=
  let open_ := (List.range 4).filter (fun c => which c && (s.cam p c).frame.isSome)
  if open_.isEmpty then s.raise (.csi p) code 0 clsTransient []
  else
    let fresh := open_.filter (fun c => !(((s.cam p c).frame.map (·.once)).getD []).contains code)
    let s1 := open_.foldl (fun t c => onFrame p c (fun f => if f.once.contains code then f else { f with once := code :: f.once }) t) s
    if fresh.isEmpty then s1 else s1.raise (.csi p) code 0 clsTransient []

/-- A dropped packet (R722, R723, R731). -/
def csiDrop (p : Nat) (s : State) : State := s.count (.csi p) 0x54 1

/-- The port receives: its page is present and enabled. -/
def State.csiUp (s : State) (p : Nat) : Bool := s.present (.csi p) && s.enabled (.csi p)

/-- A corrected header (R725). -/
def csiFixed (p : Nat) (fixed : Bool) (s : State) : State := if fixed then s.count (.csi p) 0x4C 1 else s

/-! ### Writing frame data -/

/-- Whether a write of [a, a + n) by a frame writer fails: the region is whole when both ends are. -/
def camFails (s : State) (g : Agent) (a n : Nat) : Option (Nat × Acc) :=
  if n = 0 then none
  else
    let c := accJudge s g a true
    if c ≠ .ok then some (a, c)
    else
      let e := accJudge s g (a + n - 1) true
      if e ≠ .ok then some (a + n - 1, e) else none

/-- A failed frame write (R750). -/
def camWriteErr (p c : Nat) (s : State) : State :=
  camRaise (.csi p) p c 0x4036 (onFrame p c (fun f => { f.mark fWrite with dead := true }) (csiErr p 7 s))

/-- Make [a, a + n) undefined as frame data whose values no rule gives. -/
def camUndef (g : Agent) (p c a n : Nat) (s : State) : State :=
  match camFails s g a n with
  | some (x, e) => camWriteErr p c (accFail g x true e s)
  | none => (ddrReach g a n s).undef a n

/-- One delivered line of an open frame (R726, R733-R735). -/
def camLine (p c : Nat) (data : List Byte) (s : State) : State :=
  match (s.cam p c).frame with
  | none => s
  | some f =>
    let s1 := onFrame p c (fun f => { f with lines := f.lines + 1 }) s
    let inH := fld f.size 29 16
    if f.dead ∨ inH ≤ f.lines then s1
    else if cfgRoute f.cfg ≠ 2 then s1
    else
      let a := f.buf + f.wrote * f.stride
      let bs := rawOut f.cfg (fld f.size 13 0) data
      let s2 := onFrame p c (fun f => { f with wrote := f.wrote + 1 }) s1
      let g := cfgAgent f.cfg
      if f.flags &&& fOver ≠ 0 then camUndef g p c a (bs.length) s2
      else
        match camFails s2 g a bs.length with
        | some (x, e) =>
          camWriteErr p c (onFrame p c (fun h => { h with wrote := f.wrote }) (accFail g x true e s2))
        | none => (ddrReach g a bs.length s2).storeBytes a bs

/-! ### Closing and opening -/

/-- The statistics header of R743; the counts are undefined (log entry 7). -/
def camStats (f : Frame) (a : Nat) (s : State) : State :=
  let s1 := s.undef a 0x2000
  let s2 := s1.storeBytes a (leBytes f.num 2 ++ List.replicate 6 0#8 ++ leBytes f.dt 8 ++ List.replicate 48 0#8)
  s2.storeBytes (a + 0x1640) (List.replicate 0x9C0 0#8)

/-- The last writes of a closing frame: ISP output and statistics. -/
def camFinish (p c : Nat) (s : State) : State :=
  match (s.cam p c).frame with
  | none => s
  | some f =>
    if cfgRoute f.cfg = 2 then s
    else
      let g := cfgAgent f.cfg
      let bytes := f.stride * ispLines f.fmt f.height
      let whole := decide (fld f.size 29 16 ≤ f.lines)
      let lines := if f.lines = 0 then 0 else if whole then f.height else Config.freeNat s.seq (0x1500 + camKey p c) % (f.height + 1)
      let s1 := if f.dead ∨ f.lines = 0 then s
                else onFrame p c (fun f => if f.dead then f else { f with wrote := lines }) (camUndef g p c f.buf bytes s)
      match f.stats with
      | none => s1
      | some a =>
        match camFails s1 g a 0x2000 with
        | some (x, e) => camWriteErr p c (accFail g x true e s1)
        | none => onFrame p c (fun f => f.mark fStats) (camStats f a (ddrReach g a 0x2000 s1))

/-- The open frame closes with extra flags (R729). -/
def camClose (p c m : Nat) (s : State) : State :=
  match (s.cam p c).frame with
  | none => s
  | some _ =>
    let s1 := if m &&& fNoFe ≠ 0 then camRaise (.csi p) p c 0x4032 (csiErr p 3 s) else s
    let s2 := camFinish p c s1
    let x := s2.cam p c
    match x.frame with
    | none => s2
    | some f =>
      let short := if f.lines < fld f.size 29 16 then fTrunc else 0
      let f1 := { f.mark (m ||| short) with close := some s2.dt }
      (s2.setCam p c { frame := none, closed := x.closed ++ [f1] }).setF (.csi p) (cxOff c 0x1C) 15 0 0

/-- The parameter block of a slot at frame start (R742): the state, and whether the slot has a valid block. -/
def latchParams (p c n t : Nat) (s : State) : State × Bool :=
  let a := (s.sl n t 0xC).toNat + (fld (s.sl n t 0x10) 7 0) <<< 32
  let (s1, r) := memRead (.isp ⟨n % 2, Nat.mod_lt _ (by decide)⟩) a 0x1000 s
  match r.filter (fun bs => leNat (bs.drop 0xFFC) == (crc32 (bs.take 0xFFC)).toNat) with
  | some bs => ({ s1 with params := s1.params.put (2 * n + t) bs }, true)
  | none =>
    let s2 := camRaise (.isp n) p c 0x4121 (s1.setB (.isp n) (slOff t 0x1C) 8 true)
    (s2, (s2.params.get? (2 * n + t)).isSome)

/-- The frame that an FS opens at ring position `ptr` (R728, R733). -/
def newFrame (s : State) (p c ptr num : Nat) : Frame :=
  let cfg := s.cx p c 0
  let size := s.cx p c 4
  let j := ptr % s.rgN (camRing p c)
  let buf := (s.cx p c 8).toNat + (fld (s.cx p c 0xC) 7 0) <<< 32 + j * (s.cx p c 0x10).toNat
  let raw := cfgRoute cfg = 2
  let n := cfgRoute cfg
  let t := cfgSlot cfg
  let sb := (s.sl n t 0x14).toNat + (fld (s.sl n t 0x18) 7 0) <<< 32
  { ptr := ptr, buf := buf,
    stats := if raw then none else if bit (s.sl n t 0) 16 then some (sb + j * 0x2000) else none,
    num := num % 0x10000, dt := s.dt, cfg := cfg, size := size,
    fmt := if raw then rawFmt cfg else fld (s.sl n t 0) 15 8,
    width := if raw then fld size 13 0 else fld (s.sl n t 4) 13 0,
    height := if raw then fld size 29 16 else fld (s.sl n t 4) 29 16,
    stride := if raw then (s.cx p c 0x14).toNat else fld (s.sl n t 8) 15 0,
    lines := 0, wrote := 0, flags := 0, once := [], dead := false, close := none }

/-- The context may open frames: a bound slot on an enabled page, or the RAW route (R751). -/
def camRoutes (s : State) (p c : Nat) : Bool :=
  let cfg := s.cx p c 0
  let n := cfgRoute cfg
  n == 2 || (s.enabled (.isp n) && s.slBound n (cfgSlot cfg))

/-- An FS for context `c` (R728); closed frames that are not yet published hold their slots (log entry 22). -/
def camOpen (p c num : Nat) (s : State) : State :=
  let q := camRing p c
  let held := (s.cam p c).closed.length
  if !camRoutes s p c ∨ !s.rgProduces q then s
  else if s.rgN q ≤ s.rgOcc q + held then ringFull q (s.count (.csi p) (cxOff c 0x2C) 1)
  else
    let f := newFrame s p c ((s.rgTail q + held) % (2 * s.rgN q)) num
    let s1 := s.setCam p c { (s.cam p c) with frame := some f }
    let s2 := (s1.setF (.csi p) (cxOff c 0x1C) 31 16 f.num).setF (.csi p) (cxOff c 0x1C) 15 0 1
    let s3 := s2.set64 (.csi p) (cxOff c 0x20) f.dt
    if cfgRoute f.cfg = 2 then s3
    else
      let n := cfgRoute f.cfg
      let t := cfgSlot f.cfg
      let (s4, ok) := latchParams p c n t s3
      let s5 := s4.setF (.isp n) 0x40 (16 * t + 15) (16 * t) (Config.freeNat s.seq (0x1540 + 2 * n + t))
      if ok then s5 else onFrame p c (fun f => f.mark fWrite) s5

/-- The enabled contexts of a virtual channel (R723). -/
def camsOf (s : State) (p vc : Nat) : List Nat :=
  (List.range 4).filter (fun c => s.cxOn p c && fld (s.cx p c 0) 7 4 == vc)

/-- FS (R728, R729, R749). -/
def frameStartAt (p vc num : Nat) (fixed : Bool) (s : State) : State :=
  if !s.csiUp p then s
  else (camsOf s p vc).foldl (fun t c => camOpen p c num (camClose p c fNoFe t)) (csiFixed p fixed s)

/-- FE (R729, R731). -/
def frameEndAt (p vc : Nat) (fixed : Bool) (s : State) : State :=
  if !s.csiUp p then s
  else
    (camsOf s p vc).foldl
      (fun t c => if (t.cam p c).frame.isSome then camClose p c 0 t
                  else (csiErr p 3 t).raise (.csi p) 0x4032 0 clsTransient [])
      (csiFixed p fixed s)

/-- The data types of long packets of R722. -/
def longDts : List Nat := [0x12, 0x1E, 0x2A, 0x2B, 0x2C]

/-- A long packet of the context that owns it (R726, R735). -/
def camPacket (p c : Nat) (k : LongPacket) (s : State) : State :=
  match (s.cam p c).frame with
  | none => csiDrop p s
  | some f =>
    if k.excess then
      camRaise (.csi p) p c 0x4033 (onFrame p c (fun f => f.mark fOver) (csiErr p 6 s))
    else
      let s1 := if k.crcOk then s
                else camRaise (.csi p) p c 0x4031
                  (onFrame p c (fun f => f.mark fCrc) (csiErr p 2 (s.count (.csi p) 0x50 1)))
      let s2 := if k.wc = linkLine (cfgDt f.cfg) (fld f.size 13 0) then s1
                else onFrame p c (fun f => f.mark fTrunc) (csiErr p 4 s1)
      let s3 := camLine p c (k.data.take k.wc) s2
      s3.setF (.csi p) (cxOff c 0x1C) 15 8 (min 255 (((s3.cam p c).frame.map (·.lines)).getD 0 / 16))

/-- A long packet (R722, R723, R725, R726, R731). -/
def longPacketAt (p : Nat) (k : LongPacket) (s : State) : State :=
  if !s.csiUp p then s
  else
    let s1 := csiFixed p k.fixed s
    if !longDts.contains k.dt then
      portRaise p 0x4034 (fun c => s1.cxOn p c && fld (s1.cx p c 0) 7 4 == k.vc) (csiErr p 5 (csiDrop p s1))
    else
      match (camsOf s1 p k.vc).find? (fun c => cfgDt (s1.cx p c 0) == k.dt) with
      | none => csiDrop p s1
      | some c => camPacket p c k s1

/-- An uncorrectable header (R725). -/
def headerBadAt (p : Nat) (s : State) : State :=
  if !s.csiUp p then s else portRaise p 0x4030 (fun _ => true) (csiErr p 1 s)

/-- CX_TMO expires (R145, R729). -/
def frameTimeoutAt (p c : Nat) (s : State) : State :=
  match (s.cam p c).frame with
  | some f => if f.dt + (s.cx p c 0x18).toNat ≤ s.dt then camClose p c fNoFe s else s
  | none => s

/-- DAMAGED: any of bits 1 to 5 or 7 (R733). -/
def damaged (flags : Nat) : Bool := decide (flags &&& 0xBE ≠ 0)

/-- The frame ring entry (R733). -/
def frameEntry (p c : Nat) (f : Frame) : List Byte :=
  let ofs := min 0xFFFFFF ((f.close.getD f.dt) - f.dt)
  withCheck (leBytes 4 1 ++ leBytes (f.flags + (damaged f.flags).toNat) 1 ++
    leBytes (p + 4 * c + 16 * (min 2 (cfgRoute f.cfg))) 1 ++ leBytes f.fmt 1 ++ leBytes f.num 2 ++ leBytes f.wrote 2 ++
    leBytes f.dt 8 ++ leBytes f.buf 5 ++ leBytes 0 1 ++ leBytes f.width 2 ++ leBytes f.height 2 ++ leBytes f.stride 2 ++
    leBytes ofs 3)

/-- Publication of the oldest closed frame (R730). -/
def framePublishAt (p c : Nat) (s : State) : State :=
  let x := s.cam p c
  match x.closed with
  | [] => s
  | f :: fs =>
    let s1 := ringPut (some (cfgAgent f.cfg)) (camRing p c) (frameEntry p c f) (s.setCam p c { x with closed := fs })
    if !s1.present (.csi p) then s1
    else
      let s2 := (s1.count (.csi p) (cxOff c 0x28) 1).irq (.csi p) (8 + c)
      if damaged f.flags then s2.count (.csi p) (cxOff c 0x30) 1 else s2

/-! ### Context check and disable -/

/-- A context check refuses: PG_REASON as R60 has it (log entry 23). -/
def ctxRefuse (b : Blk) (code off : Nat) (s : State) : State :=
  refuse b code off ((s.setB b offStatus 1 true).setN b offReason (code + off * 0x10000))

/-- A context check passes (R59; log entry 23). -/
def ctxPass (b : Blk) (s : State) : State := (s.setB b offStatus 1 false).set b offReason 0

/-- R738 and R740 for a slot: input width and height, output format, size and stride. -/
def slotGeometryBad (s : State) (n t inW inH dt : Nat) : Bool :=
  let other := s.slBound n (1 - t)
  let oc := fld (s.sl n (1 - t) 0x1C) 5 2
  let otherW := fld (s.cx (oc / 4) (oc % 4) 4) 13 0
  let w := fld (s.sl n t 4) 13 0
  let h := fld (s.sl n t 4) 29 16
  let fmt := fld (s.sl n t 0) 15 8
  let st := fld (s.sl n t 8) 15 0
  decide ((if other then 2048 else 4096) < inW) || (other && decide (2048 < otherW))
    || decide (inW < w) || decide (inH < h) || decide (w * 8 < inW) || decide (h * 8 < inH)
    || decide (fmt < 0x10) || decide (0x12 < fmt)
    || (fmt == 0x10 && (w % 2 != 0 || h % 2 != 0)) || (fmt == 0x11 && w % 2 != 0)
    || (fmt == 0x12 && dt == 0x1E)
    || st % 64 != 0 || decide (st < (if fmt = 0x12 then 3 * w else w))

/-- The buffer region of rule 9 (R746). -/
def camBufBad (s : State) (p c : Nat) (cfg : Word) : Bool :=
  let n := s.rgN (camRing p c)
  let size := s.cx p c 4
  let buf := (s.cx p c 8).toNat + (fld (s.cx p c 0xC) 7 0) <<< 32
  let bsz := (s.cx p c 0x10).toNat
  let r := cfgRoute cfg
  let t := cfgSlot cfg
  let st := (s.cx p c 0x14).toNat
  let need :=
    if r = 2 then (fld size 29 16 - 1) * st + max st (rawLine cfg (fld size 13 0))
    else fld (s.sl r t 8) 15 0 * ispLines (fld (s.sl r t 0) 15 8) (fld (s.sl r t 4) 29 16)
  let sb := (s.sl r t 0x14).toNat + (fld (s.sl r t 0x18) 7 0) <<< 32
  let pb := (s.sl r t 0xC).toNat + (fld (s.sl r t 0x10) 7 0) <<< 32
  decide (bsz < need) || !inDramWindow buf (n * bsz)
    || (r != 2 && (overlaps buf (n * bsz) sb (n * 0x2000) || overlaps buf (n * bsz) pb 0x1000))

/-- The context check (R746): the first failing rule, as code and offset. -/
def camCheck (s : State) (p c : Nat) : Option (Nat × Nat) :=
  let cfg := s.cx p c 0
  let q := camRing p c
  let dt := cfgDt cfg
  let r := cfgRoute cfg
  let o := cxOff c
  let inW := fld (s.cx p c 4) 13 0
  let inH := fld (s.cx p c 4) 29 16
  let isp := r != 2
  let bound := s.slBound r (cfgSlot cfg)
  if !s.csiUp p then some (0x4008, o 0)
  else if !s.rgProduces q ∨ s.rgEsize q ≠ 32 then some (0x4008, o 0)
  else if r = 3 ∨ !([0, 1, 2, 3] ++ longDts).contains dt then some (0x4002, o 0)
  else if dt < 4 ∨ (isp = true ∧ dt = 0x12) ∨ (bit cfg 21 = true ∧ dt ≠ 0x2B ∧ dt ≠ 0x2C) then some (0x4020, o 0)
  else if (List.range 4).any (fun e => e != c && s.cxOn p e && fld (s.cx p e 0) 13 4 == fld cfg 13 4) then some (0x4021, o 0)
  else if isp = true ∧ !(s.present (.isp r) && s.enabled (.isp r)) then some (0x4008, o 0)
  else if isp = true ∧ bound = true ∧ fld (s.sl r (cfgSlot cfg) 0x1C) 5 2 ≠ camKey p c then some (0x4022, o 0)
  else if inW = 0 ∨ inH = 0 then some (0x4004, o 4)
  else if isp = true ∧ slotGeometryBad s r (cfgSlot cfg) inW inH dt = true then some (0x4120, o 4)
  else if (s.cx p c 8).toNat % 64 ≠ 0 then some (0x4003, o 8)
  else if (s.cx p c 0x10).toNat % 64 ≠ 0 then some (0x4003, o 0x10)
  else if camBufBad s p c cfg then some (0x4023, o 8)
  else none

/-- Bind the slot of a context (R747). -/
def bindSlot (p c : Nat) (s : State) : State :=
  let cfg := s.cx p c 0
  let r := cfgRoute cfg
  if r < 2 then s.setF (.isp r) (slOff (cfgSlot cfg) 0x1C) 5 0 (1 + 4 * camKey p c) else s

/-- Unbind the slot of a context. -/
def unbindSlot (p c : Nat) (s : State) : State :=
  let cfg := s.cx p c 0
  let r := cfgRoute cfg
  let o := slOff (cfgSlot cfg) 0x1C
  if r < 2 ∧ s.getF (.isp r) o 5 0 = 1 + 4 * camKey p c then s.setF (.isp r) o 5 0 0 else s

/-- A context check completes (R746). -/
def camEnable (p c : Nat) (s : State) : State :=
  match camCheck s p c with
  | none => bindSlot p c (ctxPass (.csi p) (s.setB (.csi p) (cxOff c 0) 0 true))
  | some (code, off) => ctxRefuse (.csi p) code off s

/-- A context is disabled (R729). -/
def camDisable (p c : Nat) (s : State) : State :=
  if s.cxOn p c then unbindSlot p c ((camClose p c fAbort s).setB (.csi p) (cxOff c 0) 0 false) else s

/-- CX_CFG: EN is set by the check alone (R745, R746). -/
def cxCfgStore (p c : Nat) (v mask : Word) (s : State) : State :=
  let on := s.cxOn p c
  let s1 := plainStore (.csi p) (cxOff c 0) v mask s
  if !bit v 0 then camDisable p c (dropUnit (.csi p) (· == c) s1)
  else if on then s1
  else (startUnit (.csi p) c s1).getD (camEnable p c s1)

/-- A write to a register of a CSI page that passed judgement; a reserved LANES is refused (log entry 24), and a CX_TMO
outside its range (R744; log entry 75). -/
def csiStore (p off : Nat) (v mask : Word) (s : State) : State :=
  if off = 0x40 then
    let rate := fld v 31 20
    if fld v 1 0 = 3 then s.rejectD (.csi p) off 0x02
    else if rate < 8 ∨ 250 < rate then s.rejectD (.csi p) off 0x01
    else plainStore (.csi p) off v mask s
  else if 0x100 ≤ off ∧ off < 0x200 ∧ off % 0x40 = 0x18 ∧ (v.toNat < 131072 ∨ 65536000 < v.toNat) then s.rejectD (.csi p) off 0x01
  else if 0x100 ≤ off ∧ off < 0x200 ∧ off % 0x40 = 0 then cxCfgStore p ((off - 0x100) / 0x40) v mask s
  else plainStore (.csi p) off v mask s

/-- CSI_STAT: lane levels are the link's and no command gives them (log entry 5). -/
def csiView (p off : Nat) (s : State) : Word :=
  let w := s.get (.csi p) off
  if off = 0x44 ∧ s.csiUp p = true ∧ !bit w 8 then
    setFld (setFld w 7 4 (Config.freeNat s.seq (0x1560 + p))) 0 0 (Config.freeNat s.seq (0x1570 + p))
  else w

/-- A CSI page stops: its contexts are disabled (R729; log entry 25). -/
def csiStop (p : Nat) (s : State) : State := (List.range 4).foldl (fun t c => camDisable p c t) s

/-- The contexts bound to the slots of an ISP. -/
def ispBound (s : State) (n : Nat) : List Nat :=
  ((List.range 2).filter (s.slBound n)).map (fun t => fld (s.sl n t 0x1C) 5 2)

/-- An ISP page stops (R751): the frames of its contexts close, the slots unbind, the contexts stay enabled. -/
def ispStop (n : Nat) (s : State) : State :=
  (ispBound s n).foldl (fun t k => unbindSlot (k / 4) (k % 4) (camClose (k / 4) (k % 4) fAbort t)) s

/-- An ISP page is enabled again: its contexts hold their slots (R751). -/
def ispStart (n : Nat) (s : State) : State :=
  (List.range 16).foldl
    (fun t k => if t.cxOn (k / 4) (k % 4) && cfgRoute (t.cx (k / 4) (k % 4) 0) == n then bindSlot (k / 4) (k % 4) t else t) s

/-- A soft reset of an ISP page forgets its parameter blocks. -/
def ispForget (n : Nat) (s : State) : State := { s with params := (s.params.del (2 * n)).del (2 * n + 1) }

/-- VDD_PHY or VDD_IO is lost (R752): frames close ABORTED and NO_FE, slots unbind. The pages are absent by then. -/
def camRailLost (s : State) : State :=
  (List.range 16).foldl
    (fun t k => unbindSlot (k / 4) (k % 4) (camClose (k / 4) (k % 4) (fAbort ||| fNoFe) t)) s

/-- SLEEP is reached with frames open: they are lost without an entry (R753). -/
def camSleep (s : State) : State := { s with cams := [], params := [] }

/-! ### Link events -/

/-- A D-PHY SoT error (R745, R748). -/
def sotErrorAt (p : Nat) (s : State) : State :=
  if !s.csiUp p then s else portRaise p 0x4035 (fun _ => true) (csiErr p 0 s)

/-- A deskew sequence: calibration above 1,500 Mb/s (R720). -/
def deskewAt (p : Nat) (s : State) : State :=
  if s.csiUp p ∧ 150 < s.getF (.csi p) 0x40 31 20 then s.setB (.csi p) 0x44 9 true else s

/-- ULPS entered or left (R720). -/
def ulpsAt (p : Nat) (inUlps : Bool) (s : State) : State :=
  if s.csiUp p then s.setB (.csi p) 0x44 8 inUlps else s

/-- A generic short packet (R722). -/
def genericShortAt (p dt : Nat) (s : State) : State :=
  if s.csiUp p ∧ 8 ≤ dt ∧ dt < 16 then csiDrop p s else s

end Sys2Proof.Machine
end

