-- ==== Sys2Proof/Machine/Jpeg.lean ====
section
/-! DEFINITION. The JPEG encoder's output (16, R775-R777): the tables of T.81 Annex K, the header, Huffman coding; the
samples a job encodes, and the fill of a damaged interval (R778). -/

namespace Sys2Proof.Machine

/-! ### Tables (R777) -/

/-- Annex K luminance quantisation entries, row by row. -/
def jpegLuma : List Byte := beBytes 0x100b0a101828333d0c0c0e131a3a3c370e0d1018283945380e11161d3357503e12162538446d674d182337405168715c31404e5767797865485c5f6270646763 64

/-- Annex K chrominance quantisation entries. -/
def jpegChroma : List Byte := beBytes 0x1112182f6363636312151a4263636363181a3863636363632f426363636363636363636363636363636363636363636363636363636363636363636363636363 64

/-- The zig-zag order: natural place of each coefficient. -/
def jpegZigzag : List Byte := beBytes 0x000108100902030a11182019120b04050c131a21283029221b140d06070e151c232a313839322b241d160f171e252c333a3b342d261f272e353c3d362f373e3f 64

/-- A Huffman table of Annex K: counts of the code lengths 1 to 16, then the symbols. -/
abbrev HuffTable := List Byte × List Byte

/-- DC differences of luminance. -/
def jpegDcLuma : HuffTable :=
  (beBytes 0x00010501010101010100000000000000 16,
   beBytes 0x000102030405060708090a0b 12)

/-- DC differences of chrominance. -/
def jpegDcChroma : HuffTable :=
  (beBytes 0x00030101010101010101010000000000 16,
   beBytes 0x000102030405060708090a0b 12)

/-- AC coefficients of luminance. -/
def jpegAcLuma : HuffTable :=
  (beBytes 0x0002010303020403050504040000017d 16,
   beBytes 0x01020300041105122131410613516107227114328191a1082342b1c11552d1f02433627282090a161718191a25262728292a3435363738393a434445464748494a535455565758595a636465666768696a737475767778797a838485868788898a92939495969798999aa2a3a4a5a6a7a8a9aab2b3b4b5b6b7b8b9bac2c3c4c5c6c7c8c9cad2d3d4d5d6d7d8d9dae1e2e3e4e5e6e7e8e9eaf1f2f3f4f5f6f7f8f9fa 162)

/-- AC coefficients of chrominance. -/
def jpegAcChroma : HuffTable :=
  (beBytes 0x00020102040403040705040400010277 16,
   beBytes 0x000102031104052131061241510761711322328108144291a1b1c109233352f0156272d10a162434e125f11718191a262728292a35363738393a434445464748494a535455565758595a636465666768696a737475767778797a82838485868788898a92939495969798999aa2a3a4a5a6a7a8a9aab2b3b4b5b6b7b8b9bac2c3c4c5c6c7c8c9cad2d3d4d5d6d7d8d9dae2e3e4e5e6e7e8e9eaf2f3f4f5f6f7f8f9fa 162)

/-- S of a QUALITY. -/
def jpegScale (quality : Nat) : Nat := if quality < 50 then 5000 / quality else 200 - 2 * quality

/-- One quantisation entry. -/
def jpegQuant (quality b : Nat) : Nat := min 255 (max 1 ((b * jpegScale quality + 50) / 100))

/-- A quantisation table in natural order. -/
def jpegQuants (quality : Nat) (chroma : Bool) : List Nat :=
  (if chroma then jpegChroma else jpegLuma).map (fun b => jpegQuant quality b.toNat)

/-! ### Header (R777) -/

/-- A marker segment with its length. -/
def jpegSegment (marker : Nat) (body : List Byte) : List Byte :=
  beBytes (0xFF00 + marker) 2 ++ beBytes (body.length + 2) 2 ++ body

/-- DQT: both tables, each in zig-zag order. -/
def jpegDqt (quality : Nat) : List Byte :=
  let tab := fun (c : Bool) =>
    let q := jpegQuants quality c
    jpegZigzag.map (fun z => BitVec.ofNat 8 (q.getD z.toNat 1))
  jpegSegment 0xDB ([0x00] ++ tab false ++ [0x01] ++ tab true)

/-- Sampling factors of the luminance: horizontal, vertical (R775, R776). -/
def jpegSampling (fmt : Nat) : Nat × Nat := if fmt = 0x10 then (2, 2) else if fmt = 0x11 then (2, 1) else (1, 1)

/-- SOF0: 8 bits, three components. -/
def jpegSof (fmt w h : Nat) : List Byte :=
  let s := jpegSampling fmt
  jpegSegment 0xC0 ([8] ++ beBytes h 2 ++ beBytes w 2 ++ [3, 1, BitVec.ofNat 8 (16 * s.1 + s.2), 0, 2, 0x11, 1, 3, 0x11, 1])

/-- DHT: the four tables. -/
def jpegDht : List Byte :=
  let tab := fun (id : Byte) (t : HuffTable) => [id] ++ t.1 ++ t.2
  jpegSegment 0xC4 (tab 0x00 jpegDcLuma ++ tab 0x10 jpegAcLuma ++ tab 0x01 jpegDcChroma ++ tab 0x11 jpegAcChroma)

/-- SOS of the one scan. -/
def jpegSos : List Byte := jpegSegment 0xDA [3, 1, 0x00, 2, 0x11, 3, 0x11, 0, 63, 0]

/-- SOI to SOS; `dri` is what DRI says, 0 for none. -/
def jpegHeader (fmt quality w h dri : Nat) : List Byte :=
  [0xFF, 0xD8] ++ jpegDqt quality ++ jpegSof fmt w h ++ jpegDht
    ++ (if dri = 0 then [] else jpegSegment 0xDD (beBytes dri 2)) ++ jpegSos

/-! ### Entropy coding (R775) -/

/-- Bits, the first most significant. -/
def jpegBits (n len : Nat) : List Bool := (List.range len).map (fun i => n.testBit (len - 1 - i))

/-- The codes of a table: symbol and its bits, lengths rising (T.81 C.2). -/
def huffCodes (t : HuffTable) : List (Byte × List Bool) :=
  ((t.1.zip (List.range 16)).foldl (fun (a : List (Byte × List Bool) × Nat × List Byte) p =>
    let n := p.1.toNat
    (a.1 ++ ((a.2.2.take n).zip (List.range n)).map (fun q => (q.1, jpegBits (a.2.1 + q.2) (p.2 + 1))),
     2 * (a.2.1 + n), a.2.2.drop n)) ([], 0, t.2)).1

/-- The bits of a symbol. -/
def huffBits (c : List (Byte × List Bool)) (sym : Nat) : List Bool :=
  ((c.find? (fun p => p.1.toNat == sym)).map (·.2)).getD []

/-- The size category of a value, and its extra bits. -/
def magSize (v : Int) : Nat := if v = 0 then 0 else Nat.log2 v.natAbs + 1
/-- The extra bits. -/
def magBits (v : Int) : List Bool :=
  jpegBits (if v < 0 then 2 ^ magSize v - 1 - v.natAbs else v.natAbs) (magSize v)

/-- AC coefficients in zig-zag order after a run of zeros. -/
def acBits (c : List (Byte × List Bool)) : Nat → List Int → List Bool
  | run, [] => if run = 0 then [] else huffBits c 0
  | run, v :: l =>
    if v = 0 then acBits c (run + 1) l
    else (List.replicate (run / 16) (huffBits c 0xF0)).flatten ++ huffBits c (16 * (run % 16) + magSize v) ++ magBits v
      ++ acBits c 0 l

/-- One block after a DC value of its component. -/
def blockBits (dc ac : List (Byte × List Bool)) (pred : Int) (b : List Int) : List Bool :=
  huffBits dc (magSize (b.headD 0 - pred)) ++ magBits (b.headD 0 - pred) ++ acBits ac 0 (b.drop 1)

/-- The component of block `i` of an MCU. -/
def mcuComponent (fmt i : Nat) : Nat := let s := jpegSampling fmt; if i < s.1 * s.2 then 0 else i - s.1 * s.2 + 1

/-- Blocks of an MCU. -/
def mcuBlocks (fmt : Nat) : Nat := let s := jpegSampling fmt; s.1 * s.2 + 2

/-- The bits of an interval: its blocks in MCU order, DC predictions starting from 0. -/
def intervalBits (fmt : Nat) (blocks : List (List Int)) : List Bool :=
  let dl := huffCodes jpegDcLuma
  let al := huffCodes jpegAcLuma
  let dc := huffCodes jpegDcChroma
  let ac := huffCodes jpegAcChroma
  ((blocks.zip (List.range blocks.length)).foldl (fun (a : List Bool × List Int) p =>
    let k := mcuComponent fmt (p.2 % mcuBlocks fmt)
    (a.1 ++ (if k = 0 then blockBits dl al (a.2.getD k 0) p.1 else blockBits dc ac (a.2.getD k 0) p.1), a.2.set k (p.1.headD 0)))
    ([], [0, 0, 0])).1

/-- Bits as bytes, filled with ones, a zero byte after each 0xFF. -/
def stuffBits (bits : List Bool) : List Byte :=
  (chunk 8 bits.length bits).flatMap (fun c =>
    let v := (c ++ List.replicate (8 - c.length) true).foldl (fun a b => 2 * a + b.toNat) 0
    if v = 0xFF then [0xFF, 0x00] else [BitVec.ofNat 8 v])

/-- The whole stream of a picture with the given quantised coefficients, blocks in MCU order; `ri` MCUs to a restart
interval, 0 for none. -/
def jpegStream (fmt quality w h ri dri : Nat) (coef : List (List Int)) : List Byte :=
  let per := if ri = 0 then coef.length else ri * mcuBlocks fmt
  let ints := chunk per coef.length coef
  jpegHeader fmt quality w h dri
    ++ (ints.zip (List.range ints.length)).flatMap (fun p =>
      (if p.2 = 0 then [] else [0xFF, BitVec.ofNat 8 (0xD0 + (p.2 - 1) % 8)]) ++ stuffBits (intervalBits fmt p.1))
    ++ [0xFF, 0xD9]

/-! ### MCUs -/

/-- MCUs in a row, and rows of MCUs. -/
def mcuGrid (fmt w h : Nat) : Nat × Nat :=
  let s := jpegSampling fmt
  ((w + 8 * s.1 - 1) / (8 * s.1), (h + 8 * s.2 - 1) / (8 * s.2))

/-- MCUs of a picture. -/
def mcuCount (fmt w h : Nat) : Nat := (mcuGrid fmt w h).1 * (mcuGrid fmt w h).2

/-- The bytes of an MCU in a picture: offset and length of each of its lines. -/
def mcuLines (fmt stride w h m : Nat) : List (Nat × Nat) :=
  let g := mcuGrid fmt w h
  let s := jpegSampling fmt
  let x := m % g.1 * 8 * s.1
  let y := m / g.1 * 8 * s.2
  let px := if fmt = 0x12 then 3 else 1
  let luma := (List.range (min (8 * s.2) (h - y))).map (fun r => (stride * (y + r) + px * x, px * min (8 * s.1) (w - x)))
  let ch := if fmt = 0x10 then (h + 1) / 2 else h
  let chroma := (List.range (min 8 (ch - m / g.1 * 8))).map (fun r =>
    (stride * (h + m / g.1 * 8 + r) + x, min 16 ((w + 1) / 2 * 2 - x)))
  if fmt = 0x12 then luma else luma ++ chroma

/-! ### What a job encodes (R777) -/

/-- Sample (x, y) of a component less 128, as an exact quotient; RGB888 through the full-range coefficients of BT.601. -/
def jpegSample (s : State) (src fmt stride h comp x y : Nat) : Int × Nat :=
  let at_ := fun (o : Nat) => ((s.byte (src + o)).toNat : Int)
  if fmt = 0x12 then
    let r := at_ (stride * y + 3 * x)
    let g := at_ (stride * y + 3 * x + 1)
    let b := at_ (stride * y + 3 * x + 2)
    let l := 299 * r + 587 * g + 114 * b
    if comp = 0 then (l - 128000, 1000) else if comp = 1 then (500 * (1000 * b - l), 886000) else (500 * (1000 * r - l), 701000)
  else if comp = 0 then (at_ (stride * y + x) - 128, 1)
  else (at_ (stride * (h + y) + 2 * x + (comp - 1)) - 128, 1)

/-- The samples of block `i` of MCU `m`, where the block lies whole in the picture. -/
def blockSamples (s : State) (src fmt stride w h m i : Nat) : Option (List (Int × Nat)) :=
  let g := mcuGrid fmt w h
  let f := jpegSampling fmt
  let comp := mcuComponent fmt i
  let x := if comp = 0 then m % g.1 * 8 * f.1 + 8 * (i % f.1) else m % g.1 * 8
  let y := if comp = 0 then m / g.1 * 8 * f.2 + 8 * (i / f.1) else m / g.1 * 8
  let cw := if comp = 0 then w else w / f.1
  let chh := if comp = 0 then h else h / f.2
  if cw < x + 8 ∨ chh < y + 8 then none
  else some ((List.range 64).map (fun p => jpegSample s src fmt stride h comp (x + p % 8) (y + p / 8)))

/-- A DC coefficient stands for its samples: within one step of the exact value, which is their sum over 8, and one more
for the rounding of each sample (log entry 26). -/
def dcFits (q : Nat) (dc : Int) (l : List (Int × Nat)) : Bool :=
  let den := (l.headD (0, 1)).2
  let sum := l.foldl (fun a p => a + p.1) 0
  decide ((8 * (q : Int) * dc * den - sum).natAbs ≤ (8 * q + 64) * den)

/-- The coefficients are those of a baseline stream of the job's picture. -/
def coefOk (s : State) (src fmt quality stride w h : Nat) (coef : List (List Int)) : Bool :=
  let k := mcuBlocks fmt
  coef.length == mcuCount fmt w h * k
    && coef.all (fun b => b.length == 64 && decide (-1024 ≤ b.headD 0) && decide (b.headD 0 < 1024) && (b.drop 1).all (fun v => decide (magSize v ≤ 10)))
    && (coef.zip (List.range coef.length)).all (fun p =>
      match blockSamples s src fmt stride w h (p.2 / k) (p.2 % k) with
      | none => true
      | some l => dcFits ((jpegQuants quality (mcuComponent fmt (p.2 % k) != 0)).headD 1) (p.1.headD 0) l)

end Sys2Proof.Machine
end

