-- ==== Sys2Proof/Machine/Codecs.lean ====
section
/-! DEFINITION. Video and JPEG codecs (16). What a picture decodes to and what bits an encoder produces is the
standards' and reaches the model as the command's operand; the rules around it stand here (log entry 26). -/

namespace Sys2Proof.Machine

/-! ### Rings and reads -/

/-- VDEC as an agent (R222, R240). -/
def agVdec : Agent := .codec 0
/-- VENC. -/
def agVenc : Agent := .codec 1
/-- JPEG. -/
def agJpeg : Agent := .codec 2

/-- A ring stands ready with the ends of R755: producer and consumer in hardware or not, none for either. -/
def ringReady (s : State) (q : Nat) (prod cons : Option Bool) : Bool :=
  s.rgOn q && s.rgEsize q == 32 && (prod.map (· == s.rgHwProd q)).getD true && (cons.map (· == s.rgHwCons q)).getD true

/-- The rings of R755 that the block of a page needs. -/
def codecRings (s : State) (b : Blk) : Bool :=
  match b with
  | .vdec => ringReady s 96 (some false) (some true) && (List.range 4).all (fun i => ringReady s (97 + i) (some true) none)
  | .venc => ringReady s 101 (some false) (some true) && ringReady s 102 (some true) (some false)
  | .jpeg => ringReady s 103 (some false) (some true)
  | _ => true

/-- A block's page is present and enabled. -/
def State.up (s : State) (b : Blk) : Bool := s.present b && s.enabled b

/-- A hardware consumer finds an entry in its ring. -/
def State.rgWaits (s : State) (q : Nat) : Bool := s.rgOn q && s.rgHwCons q && decide (s.rgOcc q ≠ 0)

/-- The entry at the head of a ring. -/
def State.rgFront (s : State) (q : Nat) : List Byte := s.rgEntry q (s.rgHead q)

/-- Bytes [lo, lo + n) of an entry, as a number. -/
def eNum (e : List Byte) (lo n : Nat) : Nat := leNat ((e.drop lo).take n)

/-- Byte `i` of an entry. -/
def eByte (e : List Byte) (i : Nat) : Nat := ((e.drop i).headD 0).toNat

/-- A codec skips an entry whose check byte fails (R392, R756). -/
def skipBad (q : Nat) (b : Blk) (code irqBit : Nat) (s : State) : State :=
  takeHead q (((ringBad q (s.rgHead q) s).raise b code 0 clsTransient []).irq b irqBit)

/-- A read of [a, a + n) of DRAM fails: the range is whole when both ends are. -/
def readFails (s : State) (g : Agent) (a n : Nat) : Option (Nat × Acc) :=
  if n = 0 then none
  else if accJudge s g a false ≠ .ok then some (a, accJudge s g a false)
  else if accJudge s g (a + n - 1) false ≠ .ok then some (a + n - 1, accJudge s g (a + n - 1) false)
  else none

/-- A record of a codec with its ERR interrupt. -/
def codecErr (b : Blk) (code irqBit : Nat) (s : State) : State := (s.raise b code 0 clsTransient []).irq b irqBit

/-! ### Decoder -/

/-- The offset of a stream's register. -/
def vsOff (i r : Nat) : Nat := 0x100 + 0x40 * i + r
/-- A stream's register. -/
def State.vs (s : State) (i r : Nat) : Word := s.get .vdec (vsOff i r)
/-- VS_CFG.EN. -/
def State.vsOn (s : State) (i : Nat) : Bool := bit (s.vs i 0) 0
/-- A stream outside its registers. -/
def State.vd (s : State) (i : Nat) : VdecSt := (s.vdec.get? i).getD VdecSt.init
/-- Store a stream. -/
def State.setVd (s : State) (i : Nat) (x : VdecSt) : State := { s with vdec := s.vdec.put i x }
/-- VS_POOL. -/
def State.vsPool (s : State) (i : Nat) : Nat := (s.vs i 8).toNat + (fld (s.vs i 0xC) 7 0) <<< 32
/-- VS_POOL_CNT. -/
def State.vsCount (s : State) (i : Nat) : Nat := fld (s.vs i 0x10) 5 0
/-- VS_DMG. -/
def State.vsDmg (s : State) (i : Nat) : Nat := (s.vs i 0x1C).toNat + (fld (s.vs i 0x20) 7 0) <<< 32

/-- Entries that name a buffer and are not consumed (R762). -/
def vdNamed (s : State) (i : Nat) : List (Nat × Nat) :=
  (s.vd i).named.filter (fun p => decide (ringDiff (s.rgN (97 + i)) p.1 (s.rgHead (97 + i)) < s.rgOcc (97 + i)))

/-- The free buffers of a stream (R762). -/
def vdFree (s : State) (i : Nat) : List Nat :=
  let x := s.vd i
  (List.range (s.vsCount i)).filter
    (fun k => !x.pics.any (fun p => p.buf == some k) && !(vdNamed s i).any (fun p => p.2 == k))

/-- Pictures of a stream that start in read chunks and are not decoded. -/
def VdecSt.waiting (x : VdecSt) : Nat := x.chunks.foldl (fun a c => a + c.2) 0

/-- Every held picture is put out, LAST on the final one (R763, R765, R785; log entry 27). -/
def vdFlush (x : VdecSt) : VdecSt :=
  let ns := (x.pics.filter (·.held)).map (·.no)
  let k := ns.length
  { x with
    pics := x.pics.map (fun p => { p with held := false })
    out := x.out ++ ns.zipIdx.map (fun n => (n.1, n.2 + 1 == k)) }

/-- An EOS that every chunk up to it has been decoded for (R763; log entry 27). -/
def vdEos (i : Nat) (s : State) : State :=
  let x := s.vd i
  if x.eos && x.waiting == 0 then s.setVd i { vdFlush x with eos := false } else s

/-- Pictures that are neither reference, held nor waiting for publication leave. -/
def vdTrim (x : VdecSt) : VdecSt :=
  { x with pics := x.pics.filter (fun p => p.ref || p.held || x.out.any (fun o => o.1 == p.no)) }

/-- Bytes of a decoded picture in its buffer (R765). -/
def vdBytes (s : State) (i height : Nat) : Nat := fld (s.vs i 0x18) 15 0 * (height + height / 2)

/-- Units of a picture in a row, and in all. -/
def unitsAcross (log2 width : Nat) : Nat := (width + 2 ^ log2 - 1) / 2 ^ log2

/-- The damaged runs of a picture, as R766 and R768 admit them: in raster order, none empty, within the picture, each with a
cause that a decoded picture can have, and neighbours of one cause joined. -/
def runsOk (all : Nat) : List DmgRun → Bool
  | [] => true
  | r :: rs =>
    decide (0 < r.units) && decide (r.first + r.units ≤ all) && [1, 2, 4, 5].contains r.cause
      && (match rs with
          | [] => true
          | q :: _ => decide (r.first + r.units < q.first) || (r.first + r.units == q.first && r.cause != q.cause))
      && runsOk all rs

/-- The damage of a picture is of the form of R766 and R768. -/
def pictureRunsOk (o : PictureOut) : Bool :=
  runsOk (unitsAcross o.unitLog2 o.width * unitsAcross o.unitLog2 o.height) o.runs

/-- The method of a run: what reads no damaged input itself is copied from the reference, or grey without one (R767). -/
def dmgMethod (ref : Bool) (cause : Nat) : Nat := if 4 ≤ cause then 2 else if ref then 0 else 1

/-- The pieces of a buffer that one unit of a picture covers, as offset and length: luma lines, then the chroma lines under
them; `b` bytes a sample. -/
def unitLines (log2 width height stride b u : Nat) : List (Nat × Nat) :=
  let across := max 1 (unitsAcross log2 width)
  let x0 := u % across * 2 ^ log2
  let x1 := min width ((u % across + 1) * 2 ^ log2)
  let y0 := u / across * 2 ^ log2
  let y1 := min height ((u / across + 1) * 2 ^ log2)
  (List.range (y1 - y0)).map (fun y => ((y0 + y) * stride + b * x0, b * (x1 - x0))) ++
    (List.range ((y1 + 1) / 2 - y0 / 2)).map
      (fun y => ((height + y0 / 2 + y) * stride + 2 * b * (x0 / 2), 2 * b * ((x1 + 1) / 2 - x0 / 2)))

/-- A grey line: 128 in 8-bit samples, 512 in [15:6] of 10-bit ones (R765, R767). -/
def greyLine (b n : Nat) : List Byte :=
  if b = 1 then List.replicate n 0x80 else (List.replicate (n / 2) [0x00#8, 0x80#8]).flatten

/-- One unit is concealed (R767): copied from the picture at `src`, or grey. -/
def concealUnit (p : VPic) (stride dst : Nat) (src : Option Nat) (u : Nat) (s : State) : State :=
  let b := if p.fmt = 0x13 then 2 else 1
  (unitLines p.unitLog2 p.width p.height stride b u).foldl
    (fun t l => t.storeBytes (dst + l.1) (match src with
      | some a => s.bytes (a + l.1) l.2
      | none => greyLine b l.2)) s

/-- Every unit of the runs that are not DECODED is concealed (R767). -/
def conceal (p : VPic) (stride dst : Nat) (src : Option Nat) (s : State) : State :=
  ((p.runs.filter (fun r => r.method < 2)).flatMap (fun r => (List.range r.units).map (r.first + ·))).foldl
    (fun t u => concealUnit p stride dst src u t) s

/-- A decoded picture joins the stream (R761, R762, R765-R767): `o` is what the standard makes of it. -/
def vdAdd (i : Nat) (stamp : Nat) (o : PictureOut) (s : State) : State :=
  let x := s.vd i
  let n := s.rgN (97 + i)
  let bad := o.unsup || decide (s.vsCount i < o.need + n + 1)
    || decide (fld (s.vs i 4) 12 0 < o.width) || decide (fld (s.vs i 4) 28 16 < o.height)
  let hevc10 := o.ten && bit (s.vs i 0) 1
  let no := x.count + 1
  let free := vdFree s i
  let k := (free.drop (Config.freeNat s.seq (0x1600 + i) % max 1 free.length)).headD 0
  let a := s.vsPool i + k * (s.vs i 0x14).toNat
  let units := unitsAcross o.unitLog2 o.width * unitsAcross o.unitLog2 o.height
  let meth := Config.freeNat s.seq (0x1610 + i) % 256
  let last := (x.pics.filter (fun q => q.ref && q.buf.isSome)).getLast?
  let src := (last.bind (·.buf)).map (fun j => s.vsPool i + j * (s.vs i 0x14).toNat)
  let p : VPic :=
    { no := no, buf := if bad then none else some k, stamp := stamp,
      fmt := if hevc10 && !bit (s.vs i 0) 2 then 0x13 else 0x10, width := o.width, height := o.height,
      flags := if bad then 2 else 0,
      runs := if bad then [{ first := 0, units := units, cause := 3, method := meth }]
              else o.runs.map (fun r => { first := r.first, units := r.units, cause := r.cause,
                                          method := dmgMethod last.isSome r.cause }),
      unitLog2 := o.unitLog2, poc := o.poc, ref := o.ref && !bad, held := true }
  let bytes := vdBytes s i o.height
  let werr := !bad && (camFails s agVdec a bytes).isSome
  let s1 := if bad then s else if werr then codecErr .vdec 0x4831 12 s else conceal p (fld (s.vs i 0x18) 15 0) a src ((ddrReach agVdec a bytes s).undef a bytes)
  let p1 := if werr then { p with flags := p.flags + 8 } else p
  let pics := (x.pics.map (fun q => if o.drop.contains q.no then { q with ref := false } else q)) ++ [p1]
  let outs := o.output.filter (fun n => pics.any (fun q => q.no == n && q.held))
  let y : VdecSt := { x with
    count := no
    pics := pics.map (fun q => if outs.contains q.no then { q with held := false } else q)
    out := x.out ++ outs.map (fun n => (n, false)) }
  s1.setVd i (vdTrim y)

/-- The first chunk with a picture not decoded, and the list with that picture taken. -/
def takePicture : List (Option Nat × Nat) → Option (Option Nat × List (Option Nat × Nat))
  | [] => none
  | (_, 0) :: l => takePicture l
  | (t, n + 1) :: l => some (t, (t, n) :: l)

/-- A stream has a complete picture's data and a free buffer (R758). -/
def State.vdReady (s : State) (i : Nat) : Bool :=
  s.vsOn i && (takePicture (s.vd i).chunks).isSome && !(vdFree s i).isEmpty

/-- The stream that round robin serves next (R758). -/
def State.vdTurn (s : State) : Option Nat := ((List.range 4).map (fun k => (s.vdecLast + 1 + k) % 4)).find? s.vdReady

/-- One picture of a stream is decoded, when its turn has come (R758, R761, R762, R764). A stream without a free buffer takes
no turn: it stalls, or its picture needs no buffer. -/
def pictureDecodeAt (i : Nat) (o : PictureOut) (s0 : State) : State :=
  let s := if s0.vdReady i then { s0 with vdecLast := i } else s0
  if !s0.up .vdec || !s0.vsOn i || !pictureRunsOk o || (s0.vdReady i && s0.vdTurn != some i) then s0
  else
    match takePicture (s.vd i).chunks with
    | none => s
    | some (t, rest) =>
      let s1 := s.setVd i { s.vd i with chunks := rest }
      let waiting := bit (s.vs i 0x24) 0
      if (waiting ∧ !o.irap) ∨ o.rasl then vdEos i (s1.count .vdec (vsOff i 0x30) 1)
      else
        let bad := o.unsup || decide (s.vsCount i < o.need + s.rgN (97 + i) + 1)
        if !bad ∧ (vdFree s i).isEmpty then s.setB .vdec (vsOff i 0x24) 1 true
        else
          let s2 := (s1.setB .vdec (vsOff i 0x24) 0 false).setB .vdec (vsOff i 0x24) 1 false
          vdEos i (vdAdd i (t.getD s.dt) o s2)

/-- Q96 moves past an entry: every stream's count of entries to skip goes down (R787). -/
def passChunk (s : State) : State :=
  takeHead 96 ((List.range 4).foldl (fun t i => let x := t.vd i; t.setVd i { x with skip := x.skip - 1 }) s)

/-- A DISCONT chunk (R785). -/
def discont (i : Nat) (part : Option PictureOut) (s : State) : State :=
  let x := s.vd i
  let t := ((takePicture x.chunks).map (·.1)).getD none
  let s1 := s.setVd i { vdFlush x with chunks := [], eos := false }
  let s2 : State := match part with
    | some o =>
      if (vdFree s1 i).isEmpty then s1
      else
        let s3 := vdAdd i (t.getD s.dt) o s1
        let y := s3.vd i
        s3.setVd i { y with
          pics := y.pics.map (fun p => { p with held := false })
          out := y.out ++ (y.pics.filter (·.held)).map (fun p => (p.no, false)) }
    | none => s1
  let y := s2.vd i
  (s2.setVd i (vdTrim { y with pics := y.pics.map (fun p => { p with ref := false }) })).setB .vdec (vsOff i 0x24) 0 true

/-- VDEC reads the chunk at the head of Q96 (R756, R759, R760, R785, R786, R787). -/
def bitstreamChunkAt (units : Nat) (part : Option PictureOut) (s : State) : State :=
  if !s.up .vdec || !s.rgWaits 96 then s
  else
    let e := s.rgFront 96
    if !checkOk e then (List.range 4).foldl (fun t i => let x := t.vd i; t.setVd i { x with skip := x.skip - 1 })
        (skipBad 96 .vdec 0x4832 12 (s.count .vdec 0x44 1))
    else
      let i := eByte e 2 % 4
      let x := s.vd i
      if !s.vsOn i || decide (0 < x.skip) then passChunk s
      else if bit (s.vs i 0x24) 1 then s
      else
        let flags := eByte e 1
        let dis := flags / 4 % 2 = 1
        if dis ∧ ((if part.isSome then 1 else 0) < x.waiting ∨ (part.map (fun o => o.runs.isEmpty || !pictureRunsOk o)).getD false) then s
        else
          let a := eNum e 16 5
          let len := eNum e 24 4
          let s1 := match readFails s agVdec a len with
            | some (y, c) => codecErr .vdec 0x4831 12 (accFail agVdec y false c s)
            | none => ddrReach agVdec a len s
          let s2 := if dis then discont i part s1 else s1
          let z := s2.vd i
          let pts := if flags / 2 % 2 = 1 then some (eNum e 8 8) else none
          let s3 := s2.setVd i { z with chunks := z.chunks ++ [(pts, units)], eos := z.eos || flags % 2 == 1 }
          passChunk (vdEos i s3)

/-- The bounding box of a run, clipped to the picture (R768). -/
def runBox (log2 w h : Nat) (r : DmgRec) : Nat × Nat × Nat × Nat :=
  let u := 2 ^ log2
  let across := max 1 (unitsAcross log2 w)
  let last := r.first + r.units - 1
  let one := r.first / across = last / across
  let x0 := if one then r.first % across * u else 0
  let x1 := if one then (last % across + 1) * u - 1 else across * u - 1
  (x0, r.first / across * u, min x1 (w - 1), min ((last / across + 1) * u - 1) (h - 1))

/-- The records of a damage area: at most 255 (R769). -/
def dmgRuns (p : VPic) : List DmgRec × Bool :=
  if p.runs.length ≤ 255 then (p.runs, false)
  else
    let last : DmgRec := (p.runs.drop 254).headD { first := 0, units := 0, cause := 0, method := 0 }
    let all := unitsAcross p.unitLog2 p.width * unitsAcross p.unitLog2 p.height
    (p.runs.take 254 ++ [{ last with units := all - last.first }], true)

/-- A damage record (R768). -/
def dmgRecord (p : VPic) (r : DmgRec) : List Byte :=
  let (x0, y0, x1, y1) := runBox p.unitLog2 p.width p.height r
  leBytes r.first 3 ++ leBytes r.units 3 ++ leBytes r.cause 1 ++ leBytes r.method 1 ++ leBytes x0 2 ++ leBytes y0 2 ++
    leBytes x1 2 ++ leBytes y1 2

/-- The damage area (R768). -/
def dmgArea (p : VPic) : List Byte :=
  let (rs, more) := dmgRuns p
  leBytes rs.length 1 ++ leBytes more.toNat 1 ++ leBytes p.unitLog2 1 ++ leBytes 0 1 ++ leBytes p.no 4 ++
    leBytes (unsigned 32 p.poc) 4 ++ leBytes 0 4 ++ rs.flatMap (dmgRecord p)

/-- The decoded frame entry (R765). -/
def vdEntry (s : State) (i : Nat) (p : VPic) (last : Bool) : List Byte :=
  let (rs, more) := dmgRuns p
  let k := p.buf.getD 0xFFFF
  let a := match p.buf with
    | some k => s.vsPool i + k * (s.vs i 0x14).toNat
    | none => 0
  let flags := p.flags + (!rs.isEmpty).toNat + 4 * more.toNat + 16 * last.toNat
  withCheck (leBytes 6 1 ++ leBytes flags 1 ++ leBytes i 1 ++ leBytes p.fmt 1 ++ leBytes rs.length 2 ++ leBytes k 2 ++
    leBytes p.stamp 8 ++ leBytes a 5 ++ leBytes 0 1 ++ leBytes p.width 2 ++ leBytes p.height 2 ++
    leBytes (fld (s.vs i 0x18) 15 0) 2 ++ leBytes p.no 3)

/-- Publication of the next picture put out (R763, R768, R769); a full ring holds it (R389). -/
def decodedPublishAt (i : Nat) (s : State) : State :=
  if !s.up .vdec || !s.vsOn i || !s.rgProduces (97 + i) then s
  else
    let x := s.vd i
    match x.out with
    | [] => s
    | (no, last) :: rest =>
      match x.pics.find? (fun p => p.no == no) with
      | none => s.setVd i { x with out := rest }
      | some p =>
        let q := 97 + i
        if s.rgFull q then ringFull q s
        else
          let ptr := s.rgTail q
          let a := s.vsDmg i + (ptr % s.rgN q) * 4096
          let area := dmgArea p
          let s1 := match camFails s agVdec a area.length with
            | some (y, c) => codecErr .vdec 0x4831 12 (accFail agVdec y true c s)
            | none => (ddrReach agVdec a area.length s).storeBytes a area
          let s2 := ringPut (some agVdec) q (vdEntry s1 i p last) s1
          let named := match p.buf with
            | some k => vdNamed s i ++ [(ptr, k)]
            | none => vdNamed s i
          let s3 := s2.setVd i (vdTrim { x with out := rest, named := named })
          let s4 := (s3.count .vdec (vsOff i 0x28) 1).irq .vdec (8 + i)
          if p.runs.isEmpty then s4 else codecErr .vdec 0x4830 12 (s4.count .vdec (vsOff i 0x2C) 1)

/-- The stream check (R782); `rsv`: the write of VS_CFG set a reserved bit. -/
def vdecCheck (s : State) (i : Nat) (rsv : Bool) : Option (Nat × Nat) :=
  let o := vsOff i
  let n := s.rgN (97 + i)
  let w := fld (s.vs i 4) 12 0
  let h := fld (s.vs i 4) 28 16
  let st := fld (s.vs i 0x18) 15 0
  let bs := (s.vs i 0x14).toNat
  let two := bit (s.vs i 0) 1 && !bit (s.vs i 0) 2
  let line := if two then 2 * w else w
  if !s.up .vdec then some (0x4808, o 0)
  else if rsv then some (0x4802, o 0)
  else if w < 64 ∨ 4096 < w ∨ h < 64 ∨ 2304 < h then some (0x4801, o 4)
  else if s.vsCount i < 3 ∨ 32 < s.vsCount i then some (0x4801, o 0x10)
  else if s.vsPool i % 64 ≠ 0 then some (0x4803, o 8)
  else if bs % 64 ≠ 0 then some (0x4803, o 0x14)
  else if st % 64 ≠ 0 then some (0x4803, o 0x18)
  else if s.vsDmg i % 4096 ≠ 0 then some (0x4803, o 0x1C)
  else if st < line then some (0x4820, o 0x18)
  else if 2 * bs < 3 * st * h then some (0x4820, o 0x14)
  else if s.vsCount i < n + 2 then some (0x4821, o 0x10)
  else if !inDramWindow (s.vsPool i) (s.vsCount i * bs) then some (0x4822, o 8)
  else if !inDramWindow (s.vsDmg i) (n * 4096) then some (0x4822, o 0x1C)
  else none

/-- A decoder stream stops (R787): its chunks in Q96 will be skipped. -/
def vdecStop (i : Nat) (s : State) : State :=
  if !s.vsOn i then s
  else
    let s1 := (s.setB .vdec (vsOff i 0) 0 false).setN .vdec (vsOff i 0x24) 0
    s1.setVd i { VdecSt.init with named := vdNamed s i, skip := s.rgOcc 96 }

/-- A stream check completes: stream `k % 4`, and from 4 on its write set a reserved bit (R782). -/
def vsEnable (k : Nat) (s : State) : State :=
  let i := k % 4
  match vdecCheck s i (decide (4 ≤ k)) with
  | some (code, off) => ctxRefuse .vdec code off s
  | none =>
    let s1 := ctxPass .vdec ((s.setB .vdec (vsOff i 0) 0 true).setN .vdec (vsOff i 0x24) 1)
    s1.setVd i { VdecSt.init with named := vdNamed s i, skip := (s.vd i).skip }

/-- VS_CFG: EN is set by the check alone, which makes the page BUSY (R782, R58). -/
def vsCfgStore (i : Nat) (v mask : Word) (s : State) : State :=
  let on := s.vsOn i
  let k := if v &&& 0xFFFFFFF8#32 ≠ 0 then i + 4 else i
  let s1 := plainStore .vdec (vsOff i 0) v mask s
  if !bit v 0 then vdecStop i (dropUnit .vdec (fun k => k % 4 == i) s1)
  else if on then s1
  else (startUnit .vdec k s1).getD (vsEnable k s1)

/-- A write to a register of the VDEC page that passed judgement. -/
def vdecStore (off : Nat) (v mask : Word) (s : State) : State :=
  if 0x100 ≤ off ∧ off < 0x200 ∧ off % 0x40 = 0 then vsCfgStore ((off - 0x100) / 0x40) v mask s
  else plainStore .vdec off v mask s

/-- What a read of the VDEC page shows: BLOCKED, buffers held (R781). -/
def vdecView (off : Nat) (s : State) : Word :=
  if off = 0x40 then
    let i := eByte (s.rgFront 96) 2 % 4
    wd (16 * (s.rgWaits 96 && s.vsOn i && bit (s.vs i 0x24) 1).toNat)
  else if 0x100 ≤ off ∧ off < 0x200 ∧ off % 0x40 = 0x24 then
    let i := (off - 0x100) / 0x40
    setFld (s.get .vdec off) 12 8 (((s.vd i).pics.filter (·.buf.isSome)).length)
  else s.get .vdec off

/-- The VDEC page stops: every stream stops. -/
def vdecPageStop (s : State) : State := (List.range 4).foldl (fun t i => vdecStop i t) s

/-! ### Encoder -/

/-- VE_CFG.MODE. -/
def State.veMode (s : State) : Nat := s.getF .venc 0x40 2 1
/-- VE_BS. -/
def State.veBs (s : State) : Nat := s.getN .venc 0x5C + (s.getF .venc 0x60 7 0) <<< 32
/-- VE_BS_SIZE. -/
def State.veBsSize (s : State) : Nat := s.getN .venc 0x64
/-- VE_SIZE width and height. -/
def State.veDims (s : State) : Nat × Nat := (s.getF .venc 0x44 10 0, s.getF .venc 0x44 26 16)

/-- The place of a source in its clip (R774): whether it is encoded, the record of it, and the sources still to come. -/
def clipPlace (s : State) (flags seq dt : Nat) : Bool × VencSrc × Nat :=
  let x := s.venc
  let n := s.getN .venc 0x58
  if s.veMode ≠ 3 then
    (true, { flags := flags, seq := seq, dt := dt, clipStart := false, clipEnd := false, left := 0 }, 0)
  else
    let starts := x.clip = 0 ∧ flags / 4 % 2 = 1
    let left := if starts then n else x.clip
    let ends := flags / 8 % 2 = 1 ∨ left ≤ 1
    (decide (0 < left), { flags := flags, seq := seq, dt := dt, clipStart := starts, clipEnd := ends, left := left },
      if ends then 0 else left - 1)

/-- A clip opens when its first source is the next to be encoded (R774). -/
def clipOpen (l : List VencSrc) (s : State) : State :=
  match l with
  | src :: _ => if src.clipStart then (s.setB .venc 0x70 0 true).set .venc 0x74 (s.get .venc 0x54) else s
  | [] => s

/-- VENC reads the source frame at the head of Q101 (R756, R771, R772, R774). -/
def sourceFrameAt (s : State) : State :=
  if !s.up .venc || !s.rgWaits 101 then s
  else
    let e := s.rgFront 101
    if !checkOk e then skipBad 101 .venc 0x4932 10 s
    else
      let (enc, src, left) := clipPlace s (eByte e 1) (eNum e 4 4) (eNum e 8 8)
      let len := eNum e 22 2 * (s.veDims.2 + s.veDims.2 / 2)
      let a := eNum e 16 5
      let s1 := match readFails s agVenc a len with
        | some (y, c) => codecErr .venc 0x4930 10 (accFail agVenc y false c s)
        | none => ddrReach agVenc a len s
      let s2 := if s1.venc.src.isEmpty && enc then clipOpen [src] s1 else s1
      takeHead 101 { s2 with venc := { s2.venc with src := s2.venc.src ++ (if enc then [src] else []), clip := left } }

/-- Units whose entries are not consumed. -/
def veHeld (s : State) : List (Nat × Nat × Nat) :=
  s.venc.units.filter (fun u => decide (ringDiff (s.rgN 102) u.1 (s.rgHead 102) < s.rgOcc 102))

/-- The offset at which a unit goes, when there is room (R771). -/
def vePlace (s : State) (len : Nat) : Option Nat :=
  let o := if s.venc.wp + len ≤ s.veBsSize then s.venc.wp else 0
  if len ≤ s.veBsSize && !(veHeld s).any (fun u => overlaps o len u.2.1 u.2.2) then some o else none

/-- A source is coded as an IDR (R774, R781). -/
def veIdr (s : State) (src : VencSrc) : Bool :=
  let gop := s.getF .venc 0x40 15 8
  src.flags % 2 == 1 || src.clipStart ||
    (match s.venc.sinceIdr with
     | none => true
     | some k => decide (gop ≠ 0 ∧ gop ≤ k + 1))

/-- An encoded unit is written and its entry published, or it waits for space (R771-R774). A unit that breaks
its own bound is no unit of this encoder, and nothing happens (log entry 26). -/
def encodedUnitAt (u : UnitOut) (s : State) : State :=
  if !s.up .venc || !s.rgProduces 102 then s
  else
    match s.venc.src with
    | [] => s
    | src :: rest =>
      let idr := veIdr s src
      let mode := s.veMode
      let budget := s.getN .venc 0x74
      let cap := budget - 128 * (src.left - 1)
      let big := if mode = 3 then decide (cap < u.size) else decide (mode ≠ 0) && u.excess
      let skip := big && (!idr || decide (mode ≠ 3))
      let reenc := big && idr && decide (mode = 3)
      let blocks := ((s.veDims.1 + 15) / 16) * ((s.veDims.2 + 15) / 16)
      let len := u.data.length
      let qp := fun hi lo => s.getF .venc 0x50 hi lo
      let qpOk := skip || (if reenc then u.qp == 51 else if mode = 0 then u.qp == (if idr then qp 5 0 else qp 13 8)
                           else decide (qp 21 16 ≤ u.qp ∧ u.qp ≤ qp 29 24))
      let legal := qpOk && if mode ≠ 3 then decide (skip ∨ len = u.size)
                             else if skip then decide (len ≤ 128) else if reenc then decide (len ≤ 24 * blocks)
                             else decide (len = u.size)
      if !legal then s
      else
        match vePlace s len with
        | none => s.setB .venc 0x70 1 true
        | some o =>
          if s.rgFull 102 then ringFull 102 (s.setB .venc 0x70 1 false)
          else
            let s0 := s.setB .venc 0x70 1 false
            let a := s.veBs + o
            let fail := camFails s0 agVenc a len
            let s1 := match fail with
              | some (y, c) => codecErr .venc 0x4930 10 (accFail agVenc y true c s0)
              | none => (ddrReach agVenc a len s0).storeBytes a u.data
            let left := if mode = 3 then budget - len else 0
            let s2 := if mode = 3 then s1.setN .venc 0x74 left else s1
            let flags := (idr && !skip).toNat + 2 * skip.toNat + 4 * src.clipStart.toNat + 8 * src.clipEnd.toNat + 16 * reenc.toNat
              + 32 * fail.isSome.toNat
            let e := withCheck (leBytes 8 1 ++ leBytes flags 1 ++ leBytes u.qp 1 ++ leBytes 0 1 ++ leBytes src.seq 4 ++
              leBytes src.dt 8 ++ leBytes a 5 ++ leBytes 0 3 ++ leBytes len 4 ++ leBytes (min left 0xFFFFFF) 3)
            let ptr := s2.rgTail 102
            let s3 := ringPut (some agVenc) 102 e s2
            let s4 := { s3 with venc := { s3.venc with
              src := rest, wp := o + len, units := veHeld s ++ [(ptr, o, len)],
              sinceIdr := if idr && !skip then some 0 else s.venc.sinceIdr.map (· + 1) } }
            let s5 := (s4.count .venc 0x78 1).irq .venc 8
            let s6 := if skip then s5.count .venc 0x7C 1 else s5
            let s7 := if src.clipEnd then (s6.setB .venc 0x70 0 false).irq .venc 9 else s6
            clipOpen rest s7

/-- The VENC enable check's own rules (R783), in the order of their offsets. -/
def vencCheck (s : State) : Option (Nat × Nat) :=
  let (w, h) := s.veDims
  let qp := fun hi lo => s.getF .venc 0x50 hi lo
  let rate := s.getN .venc 0x48
  let cpb := s.getN .venc 0x4C
  let clip := s.veMode = 3
  let frames := s.getN .venc 0x58
  let size := s.veBsSize
  let work := s.getN .venc 0x68 + (s.getF .venc 0x6C 7 0) <<< 32
  if w < 64 ∨ 1920 < w ∨ h < 64 ∨ 1088 < h ∨ w % 2 = 1 ∨ h % 2 = 1 then some (0x4920, 0x44)
  else if rate < 64 ∨ 20000 < rate then some (0x4920, 0x48)
  else if cpb < 64 ∨ 40000 < cpb then some (0x4920, 0x4C)
  else if 51 < qp 5 0 ∨ 51 < qp 13 8 ∨ 51 < qp 21 16 ∨ 51 < qp 29 24 ∨ qp 29 24 < qp 21 16 then some (0x4920, 0x50)
  else if clip ∧ s.getN .venc 0x54 < 24 * (((w + 15) / 16) * ((h + 15) / 16)) + 128 * (frames - 1) then some (0x4922, 0x54)
  else if clip ∧ (frames = 0 ∨ 65535 < frames) then some (0x4920, 0x58)
  else if s.veBs % 64 ≠ 0 then some (0x4903, 0x5C)
  else if !inDramWindow s.veBs size then some (0x4921, 0x5C)
  else if size % 64 ≠ 0 then some (0x4903, 0x64)
  else if size < 0x10000 ∨ 0x4000000 < size then some (0x4920, 0x64)
  else if work % 4096 ≠ 0 then some (0x4903, 0x68)
  else if !inDramWindow work 0x800000 then some (0x4921, 0x68)
  else none

/-- The VENC page stops (R787): an open clip ends without a CLIP_END unit. -/
def vencStop (s : State) : State :=
  { (s.setN .venc 0x70 0) with venc := { VencSt.init with units := veHeld s } }

/-! ### JPEG -/

/-- JPEG takes the job at the head of Q103 (R775, R776). -/
def jpegJobAt (s : State) : State :=
  if !s.up .jpeg || !s.rgWaits 103 || s.jpeg.isSome then s
  else
    let e := s.rgFront 103
    if !checkOk e then skipBad 103 .jpeg 0x4A32 9 (s.count .jpeg 0x48 1)
    else { (s.setB .jpeg 0x40 0 true) with jpeg := some e }

/-- Bytes of an image of a format (R734, R778). -/
def picBytes (fmt stride h : Nat) : Nat :=
  if fmt = 0x10 then stride * (h + (h + 1) / 2) else if fmt = 0x11 then 2 * stride * h else stride * h

/-- A job whose fields break R776. -/
def jobBad (e : List Byte) : Bool :=
  let dec := eByte e 1 % 2 == 1
  let w := eNum e 4 2
  let h := eNum e 6 2
  eByte e 0 != 9 || decide (1 < eByte e 1) || eByte e 23 != 0 || eNum e 18 5 % 64 != 0 || eNum e 28 2 % 64 != 0 ||
    (!dec && (decide (eByte e 2 < 0x10) || decide (0x12 < eByte e 2) || eByte e 3 == 0 || decide (100 < eByte e 3)
      || decide (w < 16) || decide (8192 < w) || decide (h < 16) || decide (8192 < h)))

/-- Bytes of a job's source. -/
def jobSource (e : List Byte) : Nat :=
  if eByte e 1 % 2 = 1 then eNum e 4 4 else picBytes (eByte e 2) (eNum e 28 2) (eNum e 6 2)

/-- MCUs of an encoding job's restart interval (R776). -/
def jobInterval (e : List Byte) : Nat := eByte e 30 * (mcuGrid (eByte e 2) (eNum e 4 2) (eNum e 6 2)).1

/-- The stream an encoding job writes (R777); an interval that 16 bits cannot hold gives DRI a free value (log entry 26). -/
def jobStream (s : State) (e : List Byte) (o : JpegOut) : List Byte :=
  let ri := jobInterval e
  jpegStream (eByte e 2) (eByte e 3) (eNum e 4 2) (eNum e 6 2) ri (if ri < 0x10000 then ri else 1 + Config.freeNat s.seq 0x1621 % 0xFFFF)
    o.coef

/-- An encoding job's coefficients are not those of its source: no output of this encoder. -/
def jobForeign (s : State) (e : List Byte) (o : JpegOut) : Bool :=
  !jobBad e && eByte e 1 % 2 != 1 && (readFails s agJpeg (eNum e 8 5) (jobSource e)).isNone
    && !coefOk s (eNum e 8 5) (eByte e 2) (eByte e 3) (eNum e 28 2) (eNum e 4 2) (eNum e 6 2) o.coef

/-- Bytes that a job's destination needs. -/
def jobNeed (s : State) (e : List Byte) (o : JpegOut) : Nat :=
  if eByte e 1 % 2 = 1 then picBytes o.fmt (eNum e 28 2) o.height else (jobStream s e o).length

/-- STATUS of a job and the image bytes it writes (R779). -/
def jobStatus (s : State) (e : List Byte) (o : JpegOut) : Nat × Nat :=
  let dec := eByte e 1 % 2 == 1
  let dst := eNum e 13 5
  let cap := eNum e 24 4
  let srcLen := jobSource e
  let need := jobNeed s e o
  if jobBad e then (6, 0)
  else if (readFails s agJpeg (eNum e 8 5) srcLen).isSome then (4, 0)
  else if dec ∧ o.unsup then (2, 0)
  else if cap < need then (3, Config.freeNat s.seq 0x1620 % (cap + 1))
  else if (camFails s agJpeg dst need).isSome then (5, 0)
  else (if dec && !o.bad.isEmpty then 1 else 0, need)

/-- Restart intervals of a decoded stream; without DRI it is one (R778). -/
def jpegIntervals (o : JpegOut) : Nat :=
  if o.ri = 0 then 1 else (mcuCount o.fmt o.width o.height + o.ri - 1) / o.ri

/-- The bitmap of damaged intervals (R779). -/
def badBitmap (o : JpegOut) : List Byte :=
  (List.range ((jpegIntervals o + 7) / 8)).map
    (fun j => BitVec.ofNat 8 ((List.range 8).foldl (fun a k => a + (if (o.bad.map (·.1)).contains (8 * j + k) then 2 ^ k else 0)) 0))

/-- The MCUs of a damaged interval from the one that failed to the interval's end (R778). -/
def jpegFilled (o : JpegOut) : List Nat :=
  let all := mcuCount o.fmt o.width o.height
  let per := if o.ri = 0 then all else o.ri
  o.bad.flatMap (fun b => (List.range all).filter (fun m => m / max 1 per == b.1 && decide (b.2 ≤ m % max 1 per)))

/-- Mid-grey, 128 in every byte of each format (R778). -/
def greyFill (dst stride : Nat) (o : JpegOut) (s : State) : State :=
  (jpegFilled o).foldl (fun t m => (mcuLines o.fmt stride o.width o.height m).foldl
    (fun u l => u.storeBytes (dst + l.1) (List.replicate l.2 0x80)) t) s

/-- The image bytes of a job that reached its destination: an encoder's stream; decoded samples, whose values T.81 leaves
to the decoder, with the filled MCUs (log entry 26). -/
def jobWrite (e : List Byte) (o : JpegOut) (st n : Nat) (s : State) : State :=
  let dst := eNum e 13 5
  if eByte e 1 % 2 = 1 then
    let s1 := s.undef dst n
    if st = 1 then greyFill dst (eNum e 28 2) o s1 else s1
  else s.storeBytes dst ((jobStream s e o).take n)

/-- The job ends: result record, head (R779). -/
def jpegDoneAt (o : JpegOut) (s : State) : State :=
  if !s.up .jpeg then s
  else
    match s.jpeg with
    | none => s
    | some e =>
      if jobForeign s e o then s
      else
        let (st, n) := jobStatus s e o
        let dec := eByte e 1 % 2 == 1
        let fmt := if dec then o.fmt else eByte e 2
        let w := if dec then o.width else eNum e 4 2
        let h := if dec then o.height else eNum e 6 2
        let dst := eNum e 13 5
        let res := eNum e 18 5
        let s0 := if st = 6 then s
          else
            match readFails s agJpeg (eNum e 8 5) (jobSource e) with
            | some (y, c) => accFail agJpeg y false c s
            | none => ddrReach agJpeg (eNum e 8 5) (jobSource e) s
        let s1 :=
          if st = 5 then
            match camFails s0 agJpeg dst (jobNeed s e o) with
            | some (y, c) => accFail agJpeg y true c s0
            | none => s0
          else if n = 0 then s0
          else jobWrite e o st n (ddrReach agJpeg dst n s0)
        let bad := if st = 1 then o.bad.map (·.1) else []
        let rec_ := withCheck (leBytes st 1 ++ leBytes fmt 1 ++ leBytes w 2 ++ leBytes h 2 ++ leBytes (min bad.length 0xFFFF) 2 ++
          leBytes n 4 ++ leBytes (bad.headD 0xFFFFFFFF) 4 ++ leBytes s.dt 8 ++ List.replicate 7 0#8)
        let s2 := match camFails s1 agJpeg res 32 with
          | some (y, c) => accFail agJpeg y true c s1
          | none => (ddrReach agJpeg res 32 s1).storeBytes res rec_
        let map := badBitmap o
        let s3 := if st = 1 ∧ (camFails s2 agJpeg (res + 64) map.length).isNone then s2.storeBytes (res + 64) map else s2
        let s4 := if st = 1 ∨ st = 2 ∨ st = 4 ∨ st = 5 then codecErr .jpeg 0x4A30 9 s3 else s3
        let s5 := ((s4.setN .jpeg 0x40 (st * 0x100)).count .jpeg 0x44 1).irq .jpeg 8
        { (takeHead 103 s5) with jpeg := none }

/-- The JPEG page stops: a job in progress ends without a result record (R789). -/
def jpegStop (s : State) : State := { (s.setB .jpeg 0x40 0 false) with jpeg := none }

end Sys2Proof.Machine
end

