-- ==== Sys2Proof/Machine/Crypto.lean ====
section
/-! DEFINITION. SHA-384 (FIPS 180-4) and ECDSA over P-384 (FIPS 186-4), which R887-R889 name (log entry 35). -/

namespace Sys2Proof.Machine

/-! ### SHA-384 -/

/-- A number below 410 is prime; every composite one has a factor below 21. -/
def smallPrime (n : Nat) : Bool := decide (2 ≤ n) && (List.range 19).all (fun d => n == d + 2 || n % (d + 2) != 0)

/-- The first 80 primes. -/
def shaPrimes : List Nat := (List.range 410).filter smallPrime

/-- The greatest number below 2^72 whose `k`-th power does not exceed `n`, bit by bit from the top. -/
def rootFloor (k n : Nat) : Nat :=
  (List.range 72).foldl (fun r i => if (r + 2 ^ (71 - i)) ^ k ≤ n then r + 2 ^ (71 - i) else r) 0

/-- The first 64 bits of the fraction of the `k`-th root of a number. -/
def rootFraction (k p : Nat) : BitVec 64 := BitVec.ofNat 64 (rootFloor k (p <<< (64 * k)))

/-- The 80 round constants: the fractions of the cube roots of the first 80 primes. -/
def shaK : List (BitVec 64) := shaPrimes.map (rootFraction 3)

/-- The initial hash value: the fractions of the square roots of the ninth to the sixteenth prime. -/
def shaH : List (BitVec 64) := ((shaPrimes.drop 8).take 8).map (rootFraction 2)

/-- The rotations of a word to the right by the listed amounts, added bit by bit. -/
def rotSum (ks : List Nat) (x : BitVec 64) : BitVec 64 := (ks.map x.rotateRight).foldl (· ^^^ ·) 0

/-- The message schedule, newest word first, with one more word. -/
def shaExpand (w : List (BitVec 64)) : List (BitVec 64) :=
  let back := fun n => w.getD (n - 1) 0
  let mix := fun ks k n => rotSum ks (back n) ^^^ (back n >>> k)
  (back 16 + mix [1, 8] 7 15 + back 7 + mix [19, 61] 6 2) :: w

/-- The working words: two shift registers of four words each, newest word first. -/
abbrev ShaWork := List (BitVec 64) × List (BitVec 64)

/-- One round: a word enters each register. -/
def shaRound (r : ShaWork) (kw : BitVec 64) : ShaWork :=
  match r with
  | ([x0, x1, x2, x3], [y0, y1, y2, y3]) =>
    let select := y2 ^^^ (y0 &&& (y1 ^^^ y2))
    let most := (x0 &&& (x1 ||| x2)) ||| (x1 &&& x2)
    let enter := kw + y3 + select + rotSum [14, 18, 41] y0
    ([enter + most + rotSum [28, 34, 39] x0, x0, x1, x2], [enter + x3, y0, y1, y2])
  | r => r

/-- One block of 128 bytes. -/
def shaBlock (h : List (BitVec 64)) (bs : List Byte) : List (BitVec 64) :=
  let first := ((chunk 8 17 bs).map (fun q => BitVec.ofNat 64 (beNat q))).reverse
  let words := ((List.replicate 64 ()).foldl (fun w _ => shaExpand w) first).reverse
  let r := (List.zipWith (· + ·) shaK words).foldl shaRound (h.splitAt 4)
  List.zipWith (· + ·) h (r.1 ++ r.2)

/-- The padded message: a 1 bit, zeros up to 16 bytes before a block's end, the length in bits. -/
def shaPad (bs : List Byte) : List Byte :=
  let marked := bs ++ [0x80#8]
  marked ++ List.replicate ((112 + 127 * marked.length) % 128) 0#8 ++ beBytes (8 * bs.length) 16

/-- The SHA-384 digest, 48 bytes. -/
def sha384 (bs : List Byte) : List Byte :=
  let p := shaPad bs
  let h := (chunk 128 (p.length / 128 + 1) p).foldl shaBlock shaH
  (h.take 6).flatMap (fun x => beBytes x.toNat 8)

/-! ### ECDSA over P-384 -/

/-- The field prime. -/
def p384P : Nat := 0xfffffffffffffffffffffffffffffffffffffffffffffffffffffffffffffffeffffffff0000000000000000ffffffff
/-- The order of the base point. -/
def p384N : Nat := 0xffffffffffffffffffffffffffffffffffffffffffffffffc7634d81f4372ddf581a0db248b0a77aecec196accc52973
/-- The curve's coefficient b. -/
def p384B : Nat := 0xb3312fa7e23ee7e4988e056be3f82d19181d9c6efe8141120314088f5013875ac656398d8a2ed19d2a85c8edd3ec2aef
/-- The base point. -/
def p384G : Nat × Nat :=
  (0xaa87ca22be8b05378eb1c71ef320ad746e1d3b628ba79b9859f741e082542a385502f25dbf55296c3a545e3872760ab7,
   0x3617de4a96262c6f5d9e98bf9292dc29f8f41dbd289a147ce9da3113b5f0b8c00a60b1ce1d7e819d7a431d7c90ea0e5f)

/-- `a` to the power `e` modulo `m`, by the bits of `e`, `k` of them. -/
def powMod (m a : Nat) : Nat → Nat → Nat
  | 0, _ => 1
  | k + 1, e =>
    let h := powMod m (a * a % m) k (e / 2)
    if e % 2 = 1 then a * h % m else h

/-- The inverse modulo a prime. -/
def invMod (m a : Nat) : Nat := powMod m (a % m) 384 (m - 2)

/-- A point of the curve; none is the point at infinity. -/
abbrev CurvePt := Option (Nat × Nat)

/-- The third point of a line with slope `l` through two points, mirrored. -/
def curveThird (l x1 x2 y1 : Nat) : CurvePt :=
  let x := (l * l + 2 * p384P - x1 - x2) % p384P
  some (x, (l * (x1 + p384P - x) + p384P - y1) % p384P)

/-- The sum of two points. -/
def curveAdd (a b : CurvePt) : CurvePt :=
  match a, b with
  | none, q => q
  | q, none => q
  | some (x1, y1), some (x2, y2) =>
    if x1 = x2 then
      if (y1 + y2) % p384P = 0 then none
      else curveThird ((3 * x1 * x1 + p384P - 3) * invMod p384P (2 * y1) % p384P) x1 x2 y1
    else curveThird ((y2 + p384P - y1) * invMod p384P (x2 + p384P - x1) % p384P) x1 x2 y1

/-- `e` times a point, by the bits of `e`, `k` of them. -/
def curveMul : Nat → Nat → CurvePt → CurvePt
  | 0, _, _ => none
  | k + 1, e, p =>
    let h := curveMul k (e / 2) (curveAdd p p)
    if e % 2 = 1 then curveAdd p h else h

/-- A pair of coordinates names a point of the curve. -/
def onCurve (x y : Nat) : Bool :=
  decide (x < p384P) && decide (y < p384P) && decide (y * y % p384P = (x * x * x + (p384P - 3) * x + p384B) % p384P)

/-- An ECDSA P-384 signature over the SHA-384 of a message: 96 bytes of key, 96 bytes of signature (R887). -/
def ecdsaOk (key msg sig : List Byte) : Bool :=
  let x := beNat (key.take 48)
  let y := beNat (key.drop 48)
  let r := beNat (sig.take 48)
  let t := beNat (sig.drop 48)
  let z := beNat (sha384 msg)
  let w := invMod p384N t
  onCurve x y && decide (0 < r) && decide (r < p384N) && decide (0 < t) && decide (t < p384N) &&
    (match curveAdd (curveMul 384 (z * w % p384N) (some p384G)) (curveMul 384 (r * w % p384N) (some (x, y))) with
     | some (u, _) => u % p384N == r
     | none => false)

end Sys2Proof.Machine
end

