-- ==== Sys2Proof/Machine/Gate.lean ====
section
/-! DEFINITION. The Gatehouse (18): wake sources and records, message queue, cross-domain link, AO I3C, core reset. -/

namespace Sys2Proof.Machine

/-! ### Main-domain state as the Gatehouse sees it (R834, R852) -/

/-- PWR_SLEEP_STAT.PHASE. -/
def State.phase (s : State) : Nat := s.getF .pwr 0x58 2 0

/-- MAIN of R852. A main domain that is off or held counts as OFF (log entry 29). -/
def State.mainCode (s : State) : Nat :=
  if s.power.thermOff then 5
  else
    match s.power.pstate with
    | .run => if s.power.goDt.isNone then 0 else if s.power.past then 2 else 1
    | .sleep => 3
    | .waking => 4
    | _ => 5

/-- The Gatehouse runs. -/
def State.gateUp (s : State) : Bool := s.present .gate

/-! ### Message queue (R856, R857) -/

/-- Message queue base (R835). -/
def mqBase : Nat := gtSram + 0x62000
/-- GT_MQ_HEAD. -/
def State.mqHead (s : State) : Nat := s.getF .gate 0x70 12 0
/-- GT_MQ_TAIL. -/
def State.mqTail (s : State) : Nat := s.getF .gate 0x74 12 0
/-- Entries waiting, pointers counting modulo 8,192. -/
def State.mqOcc (s : State) : Nat := ringDiff 4096 s.mqTail s.mqHead
/-- A message (R856); its SEQ is its place in the queue (log entry 30). -/
def linkMsg (typ seq arg16 dt arg24 : Nat) : List Byte :=
  withCheck (leBytes typ 1 ++ leBytes seq 1 ++ leBytes arg16 2 ++ leBytes dt 8 ++ leBytes arg24 3)

/-- A message for the queue; one that finds it full is lost and counted (R857). `true`: it was refused. -/
def mqTry (typ arg16 dt arg24 : Nat) (s : State) : State × Bool :=
  if 4096 ≤ s.mqOcc then ((s.count .gate 0x78 1).irq .gate 10, true)
  else
    let t := s.mqTail
    (((s.storeBytes (mqBase + 16 * (t % 4096)) (linkMsg typ (t % 256) arg16 dt arg24)).setF .gate 0x74 12 0 ((t + 1) % 8192)).irq
      .gate 10, false)

/-- A Gatehouse unit's record: an ERROR message (R965), counted on its page (R110). -/
def gateRec (b : Blk) (code cls : Nat) (inj : Bool) (s : State) : State :=
  let s1 := s.countF b offErrcnt 31 16 1
  if code = 0x6033 then s1
  else
    let (s2, full) := mqTry 0x13 code s.dt (cls + inj.toNat * 0x40 + b.inst * 0x100 + b.type * 0x10000) s1
    if full then s2.countF .gate offErrcnt 31 16 1 else s2

/-- A message composed by the Gatehouse hardware (R853). -/
def mqPut (typ arg16 arg24 : Nat) (s : State) : State :=
  let (s1, full) := mqTry typ arg16 s.dt arg24 s
  if full then gateRec .gate 0x6033 clsTransient false s1 else s1

/-- A write of GT_MQ_TAIL by the Gatehouse core (R857). -/
def mqTailStore (v : Word) (s : State) : State :=
  let p := fld v 12 0
  if 4096 < ringDiff 4096 p s.mqHead then
    gateRec .gate 0x6033 clsTransient false ((s.count .gate 0x78 1).irq .gate 10)
  else (s.setF .gate 0x74 12 0 p).irq .gate 10

/-- A write of GT_MQ_HEAD while the link is not UP (R862); backwards or past the tail is out of range (log entry 31). -/
def mqHeadStore (v : Word) (s : State) : State :=
  let p := fld v 12 0
  if s.mqOcc < ringDiff 4096 s.mqTail p then s.rejectD .gate 0x70 0x01 else s.setF .gate 0x70 12 0 p

/-- The synchronised level of pin `n` with IE at 1 and its bank rail good, else 0 (R991, R1003). -/
def State.pinIn (s : State) (n : Nat) : Bool :=
  s.pins.level.getLsbD n && s.getB .pmux (0x100 + 4 * n) 4 && s.rail (if n < 40 then 10 else 1)

/-! ### Wake sources (R849-R855, R873-R876) -/

/-- A source event: it joins the record of its tick, sets PEND or asserts the wake line (R849, R852, R873). -/
def sourceEvent (bitNo : Nat) (slot : Option Nat) (dt : Nat) (phrase : Option (Nat × Nat)) (s : State) : State :=
  let main := s.mainCode
  let en := s.getB .gate 0x4C bitNo
  let wakes := en && decide (1 ≤ main) && decide (main ≤ 4)
  let action := if main = 0 then 0 else if wakes then main else 5
  let s1 := if en then s else (s.setB .gate 0x54 bitNo true).irq .gate 8
  let s2 := if wakes ∧ main ≠ 4 ∧ s1.power.wakePend = none then { s1 with power := { s1.power with wakePend := some dt } } else s1
  let fresh : WakeRec :=
    { tick := s.time.a, main := main, action := action, source := 2 ^ bitNo, slot := slot.getD 0xFF,
      gpio := bitsOf 8 (fun i => s.pinIn (40 + i)), dt := dt, phrase := phrase, link := s.linkState }
  let merge := fun (r : WakeRec) =>
    { r with source := r.source ||| 2 ^ bitNo, action := if wakes then action else r.action,
             slot := slot.getD r.slot, dt := if phrase.isSome then dt else r.dt, phrase := if phrase.isSome then phrase else r.phrase }
  let recs := match s2.gate.recs.reverse with
    | r :: rest => if r.tick = s.time.a then (merge r :: rest).reverse else s2.gate.recs ++ [fresh]
    | [] => [fresh]
  { s2 with gate := { s2.gate with recs := recs } }

/-- The bytes of a wake-reason record (R852). -/
def wakeRecord (r : WakeRec) : List Byte :=
  let (fr, len) := r.phrase.getD (0, 0)
  withCheck (leBytes 12 1 ++ leBytes r.main 1 ++ leBytes r.action 1 ++ leBytes 0 1 ++ leBytes r.source 2 ++ leBytes r.slot 1 ++
    leBytes r.gpio 1 ++ leBytes r.dt 8 ++ leBytes fr 8 ++ leBytes (if r.phrase.isSome then fr % 32000 else 0xFFFF) 2 ++
    leBytes len 2 ++ leBytes r.link 1 ++ leBytes 0 2)

/-- A wake-reason record is written and its message queued (R852, R853). -/
def wakeRecordAt (s : State) : State :=
  match s.gate.recs with
  | [] => s
  | r :: rest =>
    let n := s.getF .gate 0x64 31 16
    let s1 := { (s.storeBytes (gtSram + 0x61000 + 32 * (n % 64)) (wakeRecord r)) with gate := { s.gate with recs := rest } }
    let s2 := s1.setN .gate 0x64 (n % 64 + ((n + 1) % 65536) * 0x10000)
    let kws := r.source % 2 = 1 ∧ (r.main = 0 ∨ r.main = 4)
    mqPut (if kws then 0x11 else 0x10) (n % 64) (Config.freeNat s.seq 0x1800 % 2 ^ 24) s2

/-- GT_WAKE_CTRL.WAKE (R849, R876). -/
def fwWakeStore (v : Word) (s : State) : State :=
  if !bit v 0 ∨ s.mainCode = 0 then s else sourceEvent 3 none s.dt none s

/-- An edge of GPIO40 + i that GT_WAKE_GPIO selects (R849). -/
def gpioWakeAt (i : Nat) (rising : Bool) (s : State) : State :=
  let sel := s.getF .gate 0x50 (2 * i + 1) (2 * i)
  if s.gateUp ∧ (sel = 3 ∨ (sel = 1 ∧ rising = true) ∨ (sel = 2 ∧ rising = false)) then sourceEvent (8 + i) none s.dt none s else s

/-- GT_ALARM. -/
def State.alarm (s : State) : Nat := s.get64 .gate 0x5C

/-- A write of GT_ALARM_HI arms the alarm (R850). -/
def alarmStore (v mask : Word) (s : State) : State :=
  let s1 := plainStore .gate 0x60 v mask s
  { s1 with gate := { s1.gate with alarm := true } }

/-- The alarm fires at an AO tick edge at or past GT_ALARM (R850). -/
def wakeAlarmAt (s : State) : State :=
  if s.gateUp ∧ s.gate.alarm = true ∧ s.alarm ≤ 1000 * s.time.a then
    sourceEvent 2 none s.dt none { s with gate := { s.gate with alarm := false } }
  else s

/-! ### The link (R857-R863, R878) -/

/-- Change the link outside its registers. -/
def onLink (g : LinkSt → LinkSt) (s : State) : State := { s with gate := { s.gate with link := g s.gate.link } }

/-- The link carries messages and tokens: UP, RUN, before the drain completes, no handshake pending (R859, R863). -/
def State.linkLive (s : State) : Bool :=
  s.gateUp && s.power.pstate == .run && !s.power.past && s.linkState == 0 && !s.gate.link.hs

/-- The NOCOUNT of the injection in force (R973). -/
def State.linkNoCount (s : State) : Bool := s.gate.link.inj == some true
/-- An injection is in force. -/
def State.linkInjected (s : State) : Bool := s.gate.link.inj.isSome

/-- The link fails for good (R861). -/
def linkFail (s : State) : State :=
  gateRec .gate 0x6032 clsPermanent s.linkInjected ((s.setF .gate 0x68 1 0 3).irq .gate 9)

/-- LINK_DOWN at both ends: each end raises a record (R859, R861). -/
def linkDown (s : State) : State :=
  let counts := !s.linkNoCount
  let l := within s.dt (60 * oneSecond) s.gate.link.downs ++ (if counts then [s.dt] else [])
  let s1 := ((s.setF .gate 0x68 1 0 1).setF .gate 0x68 9 8 0).setF .gate 0x68 13 12 (min 3 l.length)
  let s2 := (s1.countF .gate 0x68 31 16 1).irq .gate 9
  let s3 := onLink (fun k => { k with downs := l, next := s.dt + 32768, hs := false, missMain := 0 }) s2
  let s4 := gateRec .gate 0x6030 clsTransient s.linkInjected s3
  let s5 := if s.power.pstate = .run then s4.raiseRec .belv 0x6030 0 clsTransient s.linkInjected [] else s4
  if counts ∧ 3 ≤ l.length then linkFail s5 else s5

/-- One miss of an end (R859). -/
def linkMiss (main : Bool) (s : State) : State :=
  if main then
    let n := s.gate.link.missMain + 1
    let s1 := onLink (fun k => { k with missMain := n }) s
    if 3 ≤ n then linkDown s1 else s1
  else
    let n := s.getF .gate 0x68 5 4 + 1
    let s1 := s.setF .gate 0x68 5 4 n
    if 3 ≤ n then linkDown s1 else s1

/-- A token reaches an end (R859, R878); an injection suppresses it (R972). -/
def linkTokenAt (main : Bool) (s : State) : State :=
  if !s.linkLive then s
  else if 0 < s.gate.link.suppress then onLink (fun k => { k with suppress := k.suppress - 1 }) s
  else
    let s1 := onLink (fun k => if main then { k with missMain := 0, sinceMain := s.dt, inj := none }
                               else { k with sinceAo := s.dt, inj := none }) s
    if main then s1 else s1.setF .gate 0x68 5 4 0

/-- A token period of an end passes without a token (R859). -/
def linkPeriodAt (main : Bool) (s : State) : State :=
  let since := if main then s.gate.link.sinceMain else s.gate.link.sinceAo
  if !s.linkLive ∨ s.dt < since + 32768 then s
  else linkMiss main (onLink (fun k => if main then { k with sinceMain := s.dt } else { k with sinceAo := s.dt }) s)

/-- A transfer is abandoned: a miss of the end that asked (R858, R859). -/
def linkTimeoutAt (toMain : Bool) (s : State) : State := if s.linkLive then linkMiss (!toMain) s else s

/-- A reset attempt starts (R860). -/
def linkAttempt (s : State) : State :=
  let s1 := (s.setF .gate 0x68 1 0 2).irq .gate 9
  if s.linkNoCount then s1 else s1.countF .gate 0x68 9 8 1

/-- The link hardware's own attempt (R860). -/
def linkAttemptAt (s : State) : State :=
  if s.gateUp ∧ s.power.pstate = .run ∧ s.linkState = 1 ∧ s.gate.link.next ≤ s.dt then linkAttempt s else s

/-- GT_LINK_CTRL.RESET (R868). -/
def linkCtrlStore (v : Word) (s : State) : State :=
  if !bit v 0 then s
  else if s.linkState ≠ 1 then s.reject .gate 0x6C 0x6021
  else linkAttempt s

/-- The link is UP with fresh token periods. -/
def xlinkUp (s : State) : State :=
  let s1 := (((s.setF .gate 0x68 1 0 0).setF .gate 0x68 5 4 0).setF .gate 0x68 9 8 0).irq .gate 9
  onLink (fun k => { k with missMain := 0, sinceAo := s.dt, sinceMain := s.dt, hs := false, inj := none }) s1

/-- A reset attempt or the start handshake ends (R860, R861, R863). -/
def linkEndAt (ok : Bool) (s : State) : State :=
  if s.gate.link.hs then (if ok then xlinkUp s else linkDown (onLink (fun k => { k with hs := false }) s))
  else if s.linkState ≠ 2 then s
  else if ok then gateRec .gate 0x6031 clsTransient s.linkInjected (xlinkUp s)
  else if 3 ≤ s.getF .gate 0x68 9 8 then linkFail s
  else onLink (fun k => { k with next := s.dt + 327680 }) (s.setF .gate 0x68 1 0 1)

/-- RUN_READY: a link that is not FAILED makes its start handshake (R863). -/
def linkRunReady (s : State) : State := if s.linkState = 3 then s else onLink (fun k => { k with hs := true }) s

/-- The message at the queue's head. -/
def State.mqFront (s : State) : List Byte := s.bytes (mqBase + 16 * (s.mqHead % 4096)) 16

/-- The record that FW1 enters for an ERROR message (R965). -/
def msgRecord (e : List Byte) : ErrRec :=
  { dt := leNat ((e.drop 4).take 8), unit := leNat ((e.drop 14).take 1) * 256 + leNat ((e.drop 13).take 1),
    code := leNat ((e.drop 2).take 2), op := 0, temp := 0x8000, volt := 0, cls := leNat ((e.drop 12).take 1), rpt := 0,
    detail := pad10 [] }

/-- FW1 takes a message: an ERROR message becomes a record (R965). -/
def takeMessage (e : List Byte) (s : State) : State :=
  if (e.headD 0).toNat = 0x13 then { s with check := { s.check with raised := s.check.raised ++ [(s.seq, msgRecord e)] } } else s

/-- A link message is received, checked and acknowledged (R857, R858). Toward the Gatehouse nothing in the
state but the core's interrupt changes. -/
def linkMessageAt (toMain intact : Bool) (s : State) : State :=
  if !s.linkLive ∨ !toMain ∨ s.mqOcc = 0 then s
  else
    let e := s.mqFront
    if !intact ∨ !checkOk e then s
    else
      let seq := ((e.drop 1).headD 0).toNat
      let s1 := if s.gate.link.rxSeq = some seq then s else takeMessage e s
      (onLink (fun k => { k with rxSeq := some seq }) s1).setF .gate 0x70 12 0 ((s.mqHead + 1) % 8192)

/-! ### Core, clocks (R837, R868) -/

/-- A reset of the Gatehouse core (R82, R837). -/
def gateCoreReset (s : State) : State := abandon (fun c => c == 0x30) s

/-- GT_CORE_CTRL (R837, R867). -/
def coreCtrlStore (v mask : Word) (s : State) : State :=
  let s1 := plainStore .gate 0x44 v mask s
  if bit v 1 then gateCoreReset s1 else s1

/-- GT_CLK: a release in use is ignored for its domain (R868). -/
def gtClkStore (v : Word) (s : State) : State :=
  let busy := (s.getB .gate 0x44 0).toNat + 2 * (s.enabled .kws).toNat + 4 * (s.enabled .aoi).toNat
  let old := s.getF .gate 0x48 3 0
  let new := fld v 3 0
  let keep := old &&& busy
  let s1 := s.setN .gate 0x48 (new ||| keep)
  if keep &&& new = keep then s1 else s1.reject .gate 0x48 0x6020

/-- A write to a register of the GATE page that passed judgement. -/
def gateStore (off : Nat) (v mask : Word) (s : State) : State :=
  if off = 0x44 then coreCtrlStore v mask s
  else if off = 0x48 then gtClkStore v s
  else if off = 0x58 then fwWakeStore v s
  else if off = 0x60 then alarmStore v mask s
  else if off = 0x6C then linkCtrlStore v s
  else if off = 0x70 then mqHeadStore v s
  else if off = 0x74 then mqTailStore v s
  else plainStore .gate off v mask s

/-- What a read of the GATE page shows: GT_STAT (R834). -/
def gateView (off : Nat) (s : State) : Word :=
  if off = 0x40 then wd (s.mainCode + 16 * (s.getB .gate 0x44 0).toNat + 32 * s.power.thermOff.toNat) else s.get .gate off

/-! ### AO I3C (R864-R866, R871) -/

/-- A register of poll slot `k`. -/
def State.ai (s : State) (k r : Nat) : Word := s.get .aoi (0x100 + 0x10 * k + r)
/-- A slot polls: PERIOD is not 0. -/
def State.aiOn (s : State) (k : Nat) : Bool := decide (fld (s.ai k 0) 31 20 ≠ 0)
/-- The controller runs, its pads on VDD_AOIO (R160). -/
def State.aiUp (s : State) : Bool := s.present .aoi && s.enabled .aoi && s.getB .aoi 0x40 0 && s.rail 1

/-- A slot's sample (R865). -/
def aiSample (s : State) (bs : List Byte) : List Byte := leBytes s.dt 8 ++ (bs.take 8 ++ List.replicate 8 0#8).take 8

/-- A poll (R865, R866). -/
def aiPollAt (k : Nat) (data : Option (List Byte)) (s : State) : State :=
  let cfg := s.ai k 0
  let cmp := s.ai k 4
  let last := (s.gate.polls.get? k).getD 0
  let off := 0x100 + 0x10 * k + 8
  if !s.aiUp ∨ !s.aiOn k ∨ s.time.a < last + fld cfg 31 20 then s
  else
    let s1 := { s with gate := { s.gate with polls := s.gate.polls.put k s.time.a } }
    match data with
    | none => gateRec .aoi 0x6230 clsTransient false (s1.countF .aoi off 31 16 1)
    | some bs =>
      let n := fld (s.ai k 8) 15 0
      let bytes := bs.take (min 8 (fld cfg 19 16))
      let s2 := (s1.storeBytes (gtSram + 0x72000 + 0x400 * k + 16 * (n % 64)) (aiSample s bytes)).setF .aoi off 15 0 (n + 1)
      let f := leNat (((bytes ++ List.replicate 8 0#8).drop (fld cmp 19 18)).take 2)
      let t := fld cmp 15 0
      let mode := fld cmp 17 16
      if (mode = 1 ∧ t < f) ∨ (mode = 2 ∧ f < t) then sourceEvent 1 (some k) s2.dt none s2 else s2

/-- An IBI of a slot's target (R865). -/
def aiIbiAt (k : Nat) (s : State) : State :=
  if s.aiUp ∧ s.aiOn k = true ∧ bit (s.ai k 4) 20 = true then sourceEvent 1 (some k) s.dt none s else s

/-- Little-endian words of bytes. -/
def wordsOf (bs : List Byte) : List Word := (chunk 4 (bs.length + 1) bs).map (fun w => wd (leNat w))

/-- A write of AI_CMD: a transfer of FW4 (R864). The command's encoding is not given; the reply reaches AI_DATA (log entry 32). -/
def aiCmdAt (reply : Option (List Byte)) (s : State) : State :=
  if !s.aiUp then s
  else { s with gate := { s.gate with aiTx := [], aiRx := s.gate.aiRx ++ wordsOf (reply.getD []) } }

/-- Another slot has the same ADDR and REG (R871). -/
def aiTwin (s : State) (k : Nat) (v : Word) : Bool :=
  (List.range 8).any (fun j => j != k && s.aiOn j && fld (s.ai j 0) 6 0 == fld v 6 0 && fld (s.ai j 0) 15 8 == fld v 15 8)

/-- A write to a register of the AOI3C page that passed judgement. -/
def aoiStore (off : Nat) (v mask : Word) (s : State) : State :=
  if off = 0x44 then aiCmdAt none s
  else if off = 0x48 then { s with gate := { s.gate with aiTx := s.gate.aiTx ++ [v] } }
  else if 0x100 ≤ off ∧ off < 0x180 ∧ off % 0x10 = 0 ∧ fld v 31 20 ≠ 0 ∧ aiTwin s ((off - 0x100) / 0x10) v then
    s.reject .aoi off 0x6220
  else if 0x100 ≤ off ∧ off < 0x180 ∧ off % 0x10 = 0 ∧ fld v 31 20 ≠ 0 ∧ (fld v 19 16 = 0 ∨ 8 < fld v 19 16) then
    s.rejectD .aoi off 0x01
  else plainStore .aoi off v mask s

/-- A read of AI_DATA takes the next word (log entry 32). -/
def aiDataRead (s : State) : State × Word :=
  match s.gate.aiRx with
  | w :: rest => ({ s with gate := { s.gate with aiRx := rest } }, w)
  | [] => (s, Config.freeWord s.seq 0x1810)

end Sys2Proof.Machine
end

