-- ==== Sys2Proof/Machine/Xfe.lean ====
section
/-! DEFINITION. Transfer engine (07): the descriptor, its checks, the channel's registers, and what stops a channel. -/

namespace Sys2Proof.Machine

/-! ### The descriptor (R322) -/

/-- The eight words of 32 bytes. -/
def descWords (bs : List Byte) : List Word := (List.range 8).map (fun i => wd (leNat ((bs.drop (4 * i)).take 4)))

/-- The bytes of eight words. -/
def descBytes (ws : List Word) : List Byte := ws.flatMap (fun w => leBytes w.toNat 4)

/-- Word Wn. -/
def dW (ws : List Word) (n : Nat) : Word := ws.getD n 0
/-- A field of word Wn. -/
def dF (ws : List Word) (n hi lo : Nat) : Nat := fld (dW ws n) hi lo
/-- DIM: 0 1D, 1 2D, 2 3D, 3 GATHER. -/
def dDim (ws : List Word) : Nat := dF ws 0 1 0
/-- CLASS. -/
def dClass (ws : List Word) : Nat := dF ws 0 3 2
/-- SRC_H. -/
def dSrcH (ws : List Word) : Bool := bit (dW ws 0) 4
/-- DST_H. -/
def dDstH (ws : List Word) : Bool := bit (dW ws 0) 5
/-- SRC_REL. -/
def dRel (ws : List Word) : Bool := bit (dW ws 0) 6
/-- IRQ. -/
def dIrq (ws : List Word) : Bool := bit (dW ws 0) 7
/-- TAG. -/
def dTag (ws : List Word) : Nat := dF ws 0 15 8
/-- CNT1, 1 where the DIM does not use it. -/
def dCnt1 (ws : List Word) : Nat := if dDim ws = 0 then 1 else dF ws 3 31 16
/-- CNT2, 1 where the DIM does not use it. -/
def dCnt2 (ws : List Word) : Nat := if dDim ws = 2 then dF ws 0 31 16 else 1
/-- LEN0. -/
def dLen (ws : List Word) : Nat := dF ws 4 23 0
/-- The source address or list address (address mode). -/
def dSrc (ws : List Word) : Nat := (dW ws 1).toNat + (dF ws 3 7 0) <<< 32
/-- The destination address (address mode). -/
def dDst (ws : List Word) : Nat := (dW ws 2).toNat + (dF ws 3 15 8) <<< 32
/-- Rows moved (R324). -/
def dRows (ws : List Word) : Nat := dCnt1 ws * dCnt2 ws
/-- Elements: the bytes of the rows (R326). -/
def dTotal (ws : List Word) : Nat := dRows ws * dLen ws
/-- Distance of row `r` from the start of the source (R324). -/
def dSrcOfs (ws : List Word) (r : Nat) : Nat :=
  64 * (r / dCnt1 ws) * dF ws 5 31 16 + (r % dCnt1 ws) * dF ws 5 15 0
/-- Distance of row `r` from the start of the destination. -/
def dDstOfs (ws : List Word) (r : Nat) : Nat :=
  64 * (r / dCnt1 ws) * dF ws 6 31 16 + (r % dCnt1 ws) * dF ws 6 15 0
/-- The extent of the source side (R329). -/
def dSrcExt (ws : List Word) : Nat := dSrcOfs ws (dRows ws - 1) + dLen ws
/-- The extent of the destination side. -/
def dDstExt (ws : List Word) : Nat := dDstOfs ws (dRows ws - 1) + dLen ws

/-- The fields a DIM does not use, by byte offset, with their values (R324). -/
def dUnused (ws : List Word) : List (Nat × Nat) :=
  let cnt2 := (2, dF ws 0 31 16)
  let cnt1 := (14, dF ws 3 31 16)
  let ss1 := (20, dF ws 5 15 0)
  let ss2 := (22, dF ws 5 31 16)
  let ds1 := (24, dF ws 6 15 0)
  let ds2 := (26, dF ws 6 31 16)
  match dDim ws with
  | 0 => [cnt2, cnt1, ss1, ss2, ds1, ds2]
  | 1 => [cnt2, ss2, ds2]
  | 2 => []
  | _ => [cnt2, ss1, ss2, ds2]

/-- The least offset of the fields that break a rule, in the order of the descriptor's bytes. -/
def firstOf (l : List (Nat × Bool)) : Option Nat :=
  (l.filter (·.2)).foldl (fun o p => match o with | none => some p.1 | some m => some (min m p.1)) none

/-- Rules 2 to 5 of R327: the detail and the byte offset of the failing field. -/
def descRules (ws : List Word) : Option (Nat × Nat) :=
  let r2 := firstOf ([(0, dClass ws == 3 || (dDim ws == 3 && dSrcH ws)), (19, dF ws 4 31 24 != 0), (28, dF ws 7 23 0 != 0)]
    ++ (dUnused ws).map (fun p => (p.1, p.2 != 0)))
  let r3 := firstOf [(2, dCnt2 ws == 0), (14, dCnt1 ws == 0), (16, dLen ws == 0)]
  let r4 := firstOf
    [ (4, if dSrcH ws then dF ws 1 1 0 != 0 else if dDim ws = 3 then dSrc ws % 8 != 0 else dSrc ws % 4 != 0),
      (8, dF ws 2 1 0 != 0), (16, dLen ws % 4 != 0), (20, dF ws 5 1 0 != 0),
      (24, !dDstH ws && dF ws 6 1 0 != 0) ]
  let r5 := firstOf
    [ (24, decide (1 < dCnt1 ws) && decide (dF ws 6 15 0 < dLen ws)),
      (26, decide (1 < dCnt2 ws) && decide (64 * dF ws 6 31 16 < dF ws 6 15 0 * (dCnt1 ws - 1) + dLen ws)) ]
  match r2, r3, r4, r5 with
  | some o, _, _, _ => some (2, o)
  | none, some o, _, _ => some (4, o)
  | none, none, some o, _ => some (3, o)
  | none, none, none, some o => some (5, o)
  | none, none, none, none => none

/-- Rule 6 of R327. -/
def descWindow (ws : List Word) : Option (Nat × Nat) :=
  let src := if dDim ws = 3 then 8 * dCnt1 ws else dSrcExt ws
  if !dSrcH ws && !oneWindow (dSrc ws) src then some (1, 4)
  else if !dDstH ws && !oneWindow (dDst ws) (dDstExt ws) then some (1, 8)
  else none

/-- The checks of R327: detail and byte offset of the first failing rule. -/
def descCheck (bs : List Byte) : Option (Nat × Nat) :=
  let ws := descWords bs
  if !checkOk bs then some (0xC, 31)
  else
    match descRules ws with
    | some f => some f
    | none => descWindow ws

/-! ### Channel registers (R359) -/

/-- A register of channel `c`. -/
def State.xc (s : State) (c r : Nat) : Word := s.get (chanBlk c) (chanOff c + r)
/-- Store a register of channel `c`. -/
def State.setXc (s : State) (c r : Nat) (w : Word) : State := s.set (chanBlk c) (chanOff c + r) w
/-- A bit of XC_STAT. -/
def State.xcStat (s : State) (c i : Nat) : Bool := bit (s.xc c 0x0C) i
/-- Store a bit of XC_STAT. -/
def State.setXcStat (s : State) (c i : Nat) (v : Bool) : State := s.setXc c 0x0C (setBit (s.xc c 0x0C) i v)
/-- BIND (R334). -/
def State.xcBind (s : State) (c : Nat) : Nat := fld (s.xc c 0) 10 8
/-- MODE 1: a member of the prefetch group (R345). -/
def State.xcMember (s : State) (c : Nat) : Bool := s.xcStat c 0 && bit (s.xc c 0) 0
/-- An interrupt of channel `c`: 8 DONE, 12 HALT, 16 PAUSED, 20 RETIRED (R359). -/
def State.xcIrq (s : State) (c i : Nat) : State := s.irq (chanBlk c) (i + c % 4)
/-- The retirement latch of channel `c` (R349, R957). -/
def State.xcRetired (s : State) (c : Nat) : Bool := s.check.retCh.getLsbD c

/-- A record of channel `c` (R364): the channel in byte 0, `b1` in byte 1. -/
def xcRecord (c code cls op b1 : Nat) (s : State) : State :=
  let s1 := s.raise (chanBlk c) code op cls [BitVec.ofNat 8 c, BitVec.ofNat 8 b1]
  s1.setXc c 0x2C (setFld (s1.xc c 0x2C) 31 16 code)

/-- The standalone agent code of a channel (R272). -/
def xcAgent (c : Nat) : Nat := 0x80 + c

/-- The reads a channel has outstanding at most: 64 of up to 64 bytes, within the 4 KiB buffer (R330). From element `k` on
they reach at most this far. -/
def readsAhead (ws : List Word) : Nat → Nat → Nat
  | 0, k => k
  | n + 1, k => if dTotal ws ≤ k then k else readsAhead ws n (k + min 64 (dLen ws - k % dLen ws))

/-- The elements whose reads the active descriptor has issued at most. -/
def Active.ahead (a : Active) : Nat := readsAhead a.words 64 a.written

/-- The command ID that a descriptor's records carry (R959): CSQ_CMD for a command's descriptor. -/
def opOf (s : State) (a : Active) : Nat :=
  if 0x10 ≤ a.agent ∧ a.agent < 0x14 then s.getN (.csq (a.agent - 0x10)) 0x50 else 0

/-- The address of element `k` on the source side; none when a gather entry names none (R325). -/
def srcAddr (s : State) (ws : List Word) (k : Nat) : Option Nat :=
  let r := k / dLen ws
  let col := k % dLen ws
  if dSrcH ws then some (s.slotAddr (dF ws 1 31 20) (dF ws 1 19 0) + dSrcOfs ws r + col)
  else if dDim ws = 3 then
    let e := s.load (dSrc ws + 8 * r) 8
    if e < 2 ^ 40 then some (e + col) else none
  else some (dSrc ws + dSrcOfs ws r + col)

/-- The address of element `k` on the destination side. -/
def dstAddr (s : State) (ws : List Word) (k : Nat) : Nat :=
  let r := k / dLen ws
  (if dDstH ws then s.slotAddr (dF ws 2 31 20) (dF ws 2 19 0) else dDst ws) + dDstOfs ws r + k % dLen ws

/-- XC_CUR_SRC, XC_CUR_DST, XC_CUR_HI, XC_REMAIN and XC_POS of the active descriptor (R359). -/
def showPos (c : Nat) (s : State) : State :=
  match (s.chan c).active with
  | none => s
  | some a =>
    let ws := a.words
    let k := a.written
    let r := k / dLen ws
    let src := if dSrcH ws then dF ws 1 19 0 + dSrcOfs ws r + k % dLen ws else (srcAddr s ws k).getD (dSrc ws + 8 * r)
    let dst := if dDstH ws then dF ws 2 19 0 + dDstOfs ws r + k % dLen ws else dstAddr s ws k
    let hi := (if dSrcH ws then 0 else (src >>> 32) % 256) + (if dDstH ws then 0 else (dst >>> 32) % 256) * 256
    let s1 := ((s.setXc c 0x14 (wd src)).setXc c 0x18 (wd dst)).setXc c 0x1C (setFld (s.xc c 0x1C) 15 0 hi)
    (s1.setXc c 0x20 (wd (dTotal ws - k))).setXc c 0x24 (wd (r % dCnt1 ws + (r / dCnt1 ws) * 0x10000))

/-- XC_CUR_SRC, XC_CUR_DST, XC_POS and, at a DISABLE, XC_REMAIN hold no defined value (R353); after completion there is no
next element (R360). Free values, log entry 5. XC_CUR_HI, which R353 does not name, stays as it stands. -/
def hidePos (c : Nat) (remain : Option Word) (s : State) : State :=
  let s1 := (s.setXc c 0x14 (Config.freeWord s.seq 10)).setXc c 0x18 (Config.freeWord s.seq 11)
  (s1.setXc c 0x20 (remain.getD (Config.freeWord s.seq 13))).setXc c 0x24 (Config.freeWord s.seq 14)

/-- XFE_ACTIVE and XC_HOLD follow the channel (R357, R359). -/
def showChan (c : Nat) (s : State) : State :=
  let x := s.chan c
  let busy := x.active.isSome || !x.hold.isEmpty || !x.released.isEmpty
  ((s.setXc c 0x30 (wd x.hold.length)).setXcStat c 3 x.active.isSome).setB .xfe 0x44 c busy

/-- Replace a channel and its shown state. -/
def putChan (c : Nat) (x : Chan) (s : State) : State := showChan c (s.setChan c x)

/-! ### Ends of released descriptors (R584, R665) -/

/-- A loop. -/
def State.loop (s : State) (l : Nat) : LoopSt := (s.disp.loops.get? l).getD LoopSt.init
/-- Store a loop. -/
def State.setLoop (s : State) (l : Nat) (x : LoopSt) : State :=
  { s with disp := { s.disp with loops := s.disp.loops.put l x } }
/-- Change the started step of a loop. -/
def State.updStep (s : State) (l : Nat) (f : StepSt → StepSt) : State :=
  s.setLoop l { s.loop l with step := (s.loop l).step.map f }

/-- A released descriptor of a step of loop `l` has completed, or failed. -/
def releasedEnd (l : Option Nat) (ok : Bool) (s : State) : State :=
  match l with
  | none => s
  | some l => s.updStep l (fun t => { t with relOut := t.relOut - 1, relFail := t.relFail || !ok })

/-! ### Stops -/

/-- The claims of a descriptor are returned: all of a standalone one (R280); of a command's, the command's claims on the
handles that the descriptor names (R353; log entry 66). -/
def returnDesc (a : Active) (s : State) : State :=
  if 0x80 ≤ a.agent then returnClaims a.agent s
  else
    let hs := (if dSrcH a.words then [dF a.words 1 31 20] else []) ++ (if dDstH a.words then [dF a.words 2 31 20] else [])
    hs.foldl (fun t h => returnOne a.agent h t) s

/-- The active descriptor goes and its claims are returned; a released descriptor counts as failed. -/
def dropActive (c : Nat) (s : State) : State :=
  match (s.chan c).active with
  | none => s
  | some a =>
    let s1 := returnDesc a s
    releasedEnd a.loop false (putChan c { s.chan c with active := none } s1)

/-- A kill stops a bound channel (R339): the command's active descriptor and hold queue go, the head takes the tail. -/
def chanKill (c : Nat) (s : State) : State :=
  let x := s.chan c
  let act := match x.active with
    | some a => if a.released then some a else none
    | none => none
  let s1 := putChan c { x with active := act, hold := [] } s
  if s1.rgOn c then moveHead c (s1.rgTail c) s1 else s1.setRg c 0x1C (s1.rg c 0x20)

/-- The channels bound to a cluster, enabled or not (R334, R339). -/
def boundTo (s : State) (k : Nat) : List Nat := (List.range 32).filter (fun c => s.xcBind c == k)

/-- Held descriptors dropped before commit (R365). -/
def holdLost (c op : Nat) (s : State) : State :=
  if (s.chan c).hold.isEmpty then s
  else xcRecord c 0x1139 clsConfig op 0 (putChan c { s.chan c with hold := [] } (s.setXcStat c 11 true))

/-- Released descriptors that had not started go with a DISABLE or a retirement; their step learns that they failed. -/
def dropReleased (c : Nat) (s : State) : State :=
  let x := s.chan c
  putChan c { x with released := [] } (x.released.foldl (fun t p => releasedEnd p.2 false t) s)

end Sys2Proof.Machine
end

