-- ==== Sys2Proof/Machine/Cluster.lean ====
section
/-! DEFINITION. Cluster sequencers (12): what is bound to a cluster, kills, the end of a step, retirement of cores
and sequencers. -/

namespace Sys2Proof.Machine

/-! ### What runs where -/

/-- CSQ_STAT.PHASE: 0 idle, 1 body, 2 commit, 3 killing. -/
def State.csqPhase (s : State) (k : Nat) : Nat := s.getF (.csq k) 0x40 1 0
/-- CSQ_STAT.STEP. -/
def State.csqStep (s : State) (k : Nat) : Bool := s.getB (.csq k) 0x40 4
/-- CSQ_STAT.PREEMPTED. -/
def State.csqPreempted (s : State) (k : Nat) : Bool := s.getB (.csq k) 0x40 5
/-- The step bound to a cluster. -/
def State.stepOn (s : State) (k : Nat) : Option StepSt := if s.csqStep k then (s.loop (s.cseq k).loop).step else none
/-- A loaded image. -/
def State.image (s : State) (model : Nat) : Option Image := s.images.find? (fun i => i.model == model)
/-- Replace a loaded image. -/
def State.putImage (s : State) (i : Image) : State :=
  { s with images := s.images.map (fun j => if j.model == i.model then i else j) }
/-- The image of the step bound to a cluster. -/
def State.imageOn (s : State) (k : Nat) : Option Image := (s.stepOn k).bind (fun t => s.image t.model)
/-- The command in body, commit or kill on a cluster. -/
def State.cmdOn (s : State) (k : Nat) : Option Cmd := (s.imageOn k).bind (fun i => i.cmds[(s.cseq k).cur]?)

/-- The physical core at a logical mesh position (R555). -/
def physAt (mirx miry : Bool) (lx ly : Nat) : Nat :=
  (if mirx then 3 - lx else lx) + 4 * (if miry then 3 - ly else ly)

/-- The physical core of logical core `n` (R549, R555). -/
def Image.core (i : Image) (n : Nat) : Nat := physAt i.mirx i.miry (n % 4) (n / 4)

/-- The logical core of local core `j` of logical cluster `lc` (R550). -/
def localCore (lc j : Nat) : Nat := 2 * (lc % 2) + j % 2 + 4 * (2 * (lc / 2) + j / 2)

/-- The physical cores that take part in a command, with their local numbers. -/
def Image.cmdCores (i : Image) (c : Cmd) : List (Nat × Nat) :=
  ((List.range 4).filter (fun j => c.mask.testBit j)).map (fun j => (j, i.core (localCore c.cl j)))

/-- The cores of the command on a cluster. -/
def State.coresOn (s : State) (k : Nat) : List (Nat × Nat) :=
  match s.imageOn k, s.cmdOn k with
  | some i, some c => i.cmdCores c
  | _, _ => []

/-- NC_STAT.PHASE. -/
def State.ncPhase (s : State) (n : Nat) : Nat := s.getF (.nc n) 0x48 1 0

/-- Core `n` is in service (R490, R504). -/
def State.inService (s : State) (n : Nat) : Bool := !s.check.retCore.getLsbD n && !s.check.retCl.getLsbD (clusterOf n)

/-- NC_MESH_CAP (R490, R504). -/
def State.meshCap (s : State) : Word := wd (bitsOf 16 s.inService)

/-- The members of the collective group that runs on a cluster (R617, R625); the cluster alone otherwise. -/
def State.group (s : State) (k : Nat) : List Nat :=
  if s.getB (.csq k) 0x74 24 then
    (List.range 4).filter (fun j => s.getB (.csq j) 0x74 24 && s.csqStep j && (s.cseq j).loop == (s.cseq k).loop
      && s.getF (.csq j) 0x74 15 0 == s.getF (.csq k) 0x74 15 0)
  else [k]

/-! ### Kill (R480, R481, R573) -/

/-- Forget the tile bytes and the accumulator words a command wrote (R481). -/
def wipeCore (n : Nat) (s : State) : State :=
  let c := s.core n
  let s1 := c.tbWrote.foldl (fun t r => t.undef (tileBase n + r.1) r.2) s
  s1.setCore n { c with acc := c.acWrote.foldl (fun a r => SMap.clear a r.1 r.2) c.acc, tbWrote := [], acWrote := [] }

/-- A core stops for a kill (R480). -/
def stopCore (n : Nat) (s : State) : State :=
  let s1 := wipeCore n s
  (s1.setCore n { s1.core n with spans := [], clash := [], hlu := [], coll := false }).setF (.nc n) 0x48 1 0 3

/-- A kill reaches one sequencer (R573 step 1): cores, channels and jobs stop. -/
def killOne (k cause code : Nat) (s : State) : State :=
  let s1 := (s.coresOn k).foldl (fun t p => stopCore p.2 t) s
  let s2 := (boundTo s1 k).foldl (fun t c => chanKill c t) s1
  let s3 := killJobs (0x10 + k) s2
  let s4 := s3.setCseq k { s3.cseq k with kill := some (cause, code), overran := false }
  s4.setF (.csq k) 0x40 1 0 3

/-- A kill cause reaches one sequencer in any phase: a running kill takes a retirement or an abort, which forbid the
re-run, and remembers a preemption (R574, R589). -/
def killAny (k cause code : Nat) (s : State) : State :=
  let p := s.csqPhase k
  let q := s.cseq k
  if p = 1 ∨ p = 2 then killOne k cause code s
  else if p = 3 then
    if cause = 1 then s.setCseq k { q with preempt := true }
    else if cause = 12 ∨ cause = 13 then
      match q.kill with
      | some (12, _) => s
      | _ => s.setCseq k { q with kill := some (cause, code) }
    else s
  else s

/-- A kill of the command on a cluster, and of its whole collective group (R625). -/
def killCommand (k cause code : Nat) (s : State) : State := (s.group k).foldl (fun t j => killAny j cause code t) s

/-- The clusters bound to the step of a loop. -/
def State.clustersOf (s : State) (l : Nat) : List Nat :=
  (List.range 4).filter (fun k => s.csqStep k && (s.cseq k).loop == l)

/-- A step ends before its last command (R576, R578, R579): the first outcome stands, and what still runs is killed with
ABORT. -/
def endStep (l outcome reason : Nat) (s : State) : State :=
  let s1 := s.updStep l (fun t => { t with outcome := some (t.outcome.getD (outcome, reason)) })
  (s1.clustersOf l).foldl (fun t k => killAny k 13 0 t) s1

/-- The loops whose started step has a cluster in its placement (R656). -/
def State.loopsAt (s : State) (k : Nat) : List Nat :=
  (List.range 16).filter (fun l =>
    match (s.loop l).step with
    | some t => ((s.image t.model).map (fun i => i.clusters.contains k)).getD false
    | none => false)

/-- A unit of cluster `k` has retired: the command on it is killed, and every step whose placement holds it ends
(R578, R638, R665). -/
def retireAt (k code : Nat) (s : State) : State :=
  (s.loopsAt k).foldl (fun t l => endStep l 7 0x220A t) (killCommand k 12 code s)

/-! ### Records of cores -/

/-- A record of core `n`, with NC_ERR.LAST_CODE (R492). -/
def ncRecord (n code cls : Nat) (inj : Bool) (detail : List Byte) (s : State) : State :=
  let s1 := s.raiseRec (.nc n) code (s.getN (.nc n) 0x50) cls inj detail
  s1.setF (.nc n) 0x74 31 16 code

/-- A core retires (R490). -/
def retireCore (n code : Nat) (s : State) : State :=
  let s1 := { s with check := { s.check with retCore := s.check.retCore ||| BitVec.ofNat 16 (2 ^ n) } }
  let s2 := retireAt (clusterOf n) code s1
  ((s2.retirePage (.nc n)).setF (.nc n) 0x48 1 0 0).irq (.nc n) 11

/-- A cluster sequencer retires (R504, R593). -/
def retireCluster (k code : Nat) (s : State) : State :=
  let s1 := { s with check := { s.check with retCl := s.check.retCl ||| BitVec.ofNat 4 (2 ^ k) } }
  let s2 := retireAt k code s1
  let s3 := s2.retirePage (.csq k)
  (List.range 16).foldl (fun t n => if clusterOf n = k then t.setB (.nc n) 0x48 4 true else t) s3

/-! ### Slot orders of a command (R283) -/

/-- A SLOT_ORDER on a claim of the command on cluster `k`. -/
def slotOrderKill (k : Nat) (s : State) : State := killCommand k 3 0x1240 s

end Sys2Proof.Machine
end

