-- ==== Sys2Proof/Machine/Formats.lean ====
section
/-! DEFINITION. Number formats (09): format codes, decoding, rounding, conversion, accumulation. -/

namespace Sys2Proof.Machine

/-- The sticky flags of R432. -/
structure NFlags where
  nv : Bool
  of : Bool
deriving DecidableEq, Repr

def NFlags.none : NFlags := ⟨false, false⟩
def NFlags.or (a b : NFlags) : NFlags := ⟨a.nv || b.nv, a.of || b.of⟩

/-- A value of any format: NaN, an infinity, or (-1)^neg * m * 2^e exactly. -/
inductive Num where
  | nan
  | inf (neg : Bool)
  | fin (neg : Bool) (m : Nat) (e : Int)
deriving DecidableEq, Repr

/-- A float format: exponent and mantissa widths and bias (R421). -/
structure FloatFmt where
  ew   : Nat
  mw   : Nat
  bias : Nat
  e4m3 : Bool
deriving DecidableEq, Repr

/-- The float format of a code (R418, R421). -/
def floatFmt (code : Nat) : Option FloatFmt :=
  if code = 5 then some ⟨4, 3, 7, true⟩
  else if code = 6 then some ⟨5, 2, 15, false⟩
  else if code = 7 then some ⟨5, 10, 15, false⟩
  else if code = 8 then some ⟨8, 7, 127, false⟩
  else if code = 9 then some ⟨8, 23, 127, false⟩
  else none

def f32 : FloatFmt := ⟨8, 23, 127, false⟩

/-- Element width in bits (R418). -/
def fmtBits (code : Nat) : Nat :=
  if code = 0 then 4 else if code = 1 then 8 else if code = 2 then 8 else if code = 3 then 16
  else if code = 4 then 32 else if code = 5 then 8 else if code = 6 then 8 else if code = 7 then 16
  else if code = 8 then 16 else if code = 9 then 32 else if code = 10 then 4 else if code = 11 then 8
  else if code = 12 then 8 else 0

def isInt (code : Nat) : Bool := code ≤ 4
def isFloat (code : Nat) : Bool := 5 ≤ code && code ≤ 9
def isBlock (code : Nat) : Bool := 10 ≤ code && code ≤ 12

/-- The range of an integer format (R419). -/
def intRange (code : Nat) : Int × Int :=
  if code = 0 then (-8, 7) else if code = 1 then (-128, 127) else if code = 2 then (0, 255)
  else if code = 3 then (-32768, 32767) else (-2147483648, 2147483647)

/-- An integer as an exact value; zero is +0. -/
def Num.ofInt (i : Int) : Num := .fin (i < 0) i.natAbs 0

/-- The bits of a float as a value (R421-R423). -/
def decodeFloat (f : FloatFmt) (b : Nat) : Num :=
  let s := b / 2 ^ (f.ew + f.mw) % 2 == 1
  let e := b / 2 ^ f.mw % 2 ^ f.ew
  let m := b % 2 ^ f.mw
  let top := 2 ^ f.ew - 1
  if f.e4m3 && e == top && m == 7 then .nan
  else if !f.e4m3 && e == top then (if m == 0 then .inf s else .nan)
  else if e == 0 then .fin s m (1 - (f.bias : Int) - f.mw)
  else .fin s (m + 2 ^ f.mw) ((e : Int) - f.bias - f.mw)

/-- The value of an integer or float element (R419, R421). -/
def decodeElem (code b : Nat) : Num :=
  match floatFmt code with
  | some f => decodeFloat f b
  | none => if code = 2 then .ofInt (b % 256 : Nat) else .ofInt (signed (fmtBits code) b)

/-- m * 2^e as a multiple of 2^q: the multiple, rounded by RM (0 RNE, 1 RTZ; R428). -/
def roundTo (rm m : Nat) (e q : Int) : Nat :=
  if q ≤ e then m * 2 ^ (e - q).toNat
  else
    let k := (q - e).toNat
    let n := m / 2 ^ k
    let r := m % 2 ^ k
    if rm = 0 && (2 * r > 2 ^ k || (2 * r == 2 ^ k && n % 2 == 1)) then n + 1 else n

/-- The canonical NaN of a float format (R424). -/
def canonNan (f : FloatFmt) : Nat :=
  if f.e4m3 then 0x7F else (2 ^ f.ew - 1) * 2 ^ f.mw + 2 ^ (f.mw - 1)

/-- The largest finite value's bits, without the sign (R421). -/
def maxFinite (f : FloatFmt) : Nat :=
  if f.e4m3 then 0x7E else (2 ^ f.ew - 1) * 2 ^ f.mw - 1

def infBits (f : FloatFmt) : Nat := (2 ^ f.ew - 1) * 2 ^ f.mw

def signBits (f : FloatFmt) (neg : Bool) : Nat := neg.toNat * 2 ^ (f.ew + f.mw)

/-- A value rounded into a float format (R429, R430), with the flags it raises (R432). -/
def encodeFloat (f : FloatFmt) (rm : Nat) (sat : Bool) (x : Num) : Nat × NFlags :=
  match x with
  | .nan => (canonNan f, .none)
  | .inf s =>
    if f.e4m3 then
      if sat then (signBits f s + maxFinite f, ⟨false, true⟩) else (canonNan f, ⟨true, false⟩)
    else (signBits f s + infBits f, .none)
  | .fin s m e =>
    if m = 0 then (signBits f s, .none)
    else
      let emin : Int := 1 - (f.bias : Int)
      let top : Int := (Nat.log2 m : Int) + e
      let q : Int := (if top < emin then emin else top) - f.mw
      let n := roundTo rm m e q
      let nq := if n = 2 ^ (f.mw + 1) then (2 ^ f.mw, q + 1) else (n, q)
      if nq.1 < 2 ^ f.mw then (signBits f s + nq.1, .none)
      else
        let ef := nq.2 + f.mw + f.bias
        let bits := ef.toNat * 2 ^ f.mw + (nq.1 - 2 ^ f.mw)
        if bits ≤ maxFinite f then (signBits f s + bits, .none)
        else if sat || f.e4m3 then (signBits f s + maxFinite f, ⟨false, true⟩)
        else (signBits f s + infBits f, ⟨false, true⟩)

/-- Clamping to a range, raising OF when it acts. -/
def clampInt (lo hi i : Int) : Int × NFlags :=
  if i < lo then (lo, ⟨false, true⟩) else if hi < i then (hi, ⟨false, true⟩) else (i, .none)

/-- A value rounded by RM to an integer. -/
def roundInt (rm : Nat) (neg : Bool) (m : Nat) (e : Int) : Int :=
  if neg then -(roundTo rm m e 0 : Int) else (roundTo rm m e 0 : Int)

/-- A value converted into an integer format (R430, R432). -/
def encodeInt (code rm : Nat) (x : Num) : Int × NFlags :=
  let r := intRange code
  match x with
  | .nan => (0, ⟨true, false⟩)
  | .inf s => (if s then r.1 else r.2, ⟨false, true⟩)
  | .fin s m e => clampInt r.1 r.2 (roundInt rm s m e)

/-- A value converted into an integer or float format, as bits. -/
def encodeElem (code rm : Nat) (sat : Bool) (x : Num) : Nat × NFlags :=
  match floatFmt code with
  | some f => encodeFloat f rm sat x
  | none => let r := encodeInt code rm x; (unsigned (fmtBits code) r.1, r.2)

/-- The data format of a block-scaled format's data plane (R425). -/
def blockData (code : Nat) : Nat := if code = 10 then 0 else if code = 11 then 1 else 5

/-- An exact value times 2^k. -/
def Num.scale (x : Num) (k : Int) : Num :=
  match x with
  | .nan => .nan
  | .inf s => .inf s
  | .fin s m e => .fin s m (e + k)

/-- The exact value of a block-scaled element (R426, R427). -/
def blockElem (code s d : Nat) : Num :=
  if s = 255 then .nan else (decodeElem (blockData code) d).scale ((s : Int) - 127)

/-- A block-scaled element expanded to FP32 (R427). -/
def expandBlock (code s d : Nat) : Nat × NFlags := encodeFloat f32 0 false (blockElem code s d)

/-- floor(log2) of a positive dyadic value. -/
def Num.log2 (m : Nat) (e : Int) : Int := (Nat.log2 m : Int) + e

/-- Magnitudes compared: m1 * 2^e1 < m2 * 2^e2. -/
def magLt (m1 : Nat) (e1 : Int) (m2 : Nat) (e2 : Int) : Bool :=
  if e1 ≤ e2 then m1 < m2 * 2 ^ (e2 - e1).toNat else m1 * 2 ^ (e1 - e2).toNat < m2

/-- The largest magnitude among finite values. -/
def maxMag : List Num → Nat × Int
  | [] => (0, 0)
  | .fin _ m e :: l => let r := maxMag l; if magLt r.1 r.2 m e then (m, e) else r
  | _ :: l => maxMag l

def Num.isFin : Num → Bool
  | .fin _ _ _ => true
  | _ => false

/-- One block of FP32 values encoded (R431): scale byte, data elements, flags; a NaN block made by an infinity alone raises
NV (R432). -/
def encodeBlock (code rm : Nat) (xs : List Num) : Nat × List Nat × NFlags :=
  if xs.any (fun x => !x.isFin) then (255, xs.map (fun _ => 0), ⟨!xs.contains .nan, false⟩)
  else
    let mx := maxMag xs
    let k : Int := if code = 11 then 6 else if code = 10 then 2 else 8
    let s : Nat := if mx.1 = 0 then 127 else (max 0 (Num.log2 mx.1 mx.2 - k + 127)).toNat
    let one (x : Num) : Nat × NFlags :=
      let y := x.scale (127 - (s : Int))
      if code = 12 then
        let r := encodeFloat ⟨4, 3, 7, true⟩ rm true y
        (if r.1 % 128 = 0 then 0 else r.1, r.2)
      else
        match y with
        | .fin sg m e =>
          let lim : Int := if code = 11 then 127 else 7
          let r := clampInt (-lim) lim (roundInt rm sg m e)
          (unsigned (fmtBits code) r.1, r.2)
        | _ => (0, .none)
    let rs := xs.map one
    (s, rs.map (·.1), rs.foldl (fun f r => f.or r.2) .none)

/-- An exact product (R435, R437); NV when infinity meets zero and neither is NaN. -/
def Num.mul (a b : Num) : Num × Bool :=
  match a, b with
  | .nan, _ => (.nan, false)
  | _, .nan => (.nan, false)
  | .inf s, .inf t => (.inf (s != t), false)
  | .inf s, .fin t m _ => if m = 0 then (.nan, true) else (.inf (s != t), false)
  | .fin s m _, .inf t => if m = 0 then (.nan, true) else (.inf (s != t), false)
  | .fin s m e, .fin t n f => (.fin (s != t) (m * n) (e + f), false)

def sgn (neg : Bool) (m : Nat) : Int := if neg then -(m : Int) else m

/-- An exact sum (R435, R437); a zero sum is +0 unless both are -0. -/
def Num.add (a b : Num) : Num × Bool :=
  match a, b with
  | .nan, _ => (.nan, false)
  | _, .nan => (.nan, false)
  | .inf s, .inf t => if s = t then (.inf s, false) else (.nan, true)
  | .inf s, .fin _ _ _ => (.inf s, false)
  | .fin _ _ _, .inf t => (.inf t, false)
  | .fin s m e, .fin t n f =>
    let q := if e ≤ f then e else f
    let i := sgn s (m * 2 ^ (e - q).toNat) + sgn t (n * 2 ^ (f - q).toNat)
    if i = 0 then (.fin (s && t && m == 0 && n == 0) 0 0, false)
    else (.fin (i < 0) i.natAbs q, false)

def Num.neg : Num → Num
  | .nan => .nan
  | .inf s => .inf (!s)
  | .fin s m e => .fin (!s) m e

/-- FP32 bits as a value. -/
def ofF32 (w : Nat) : Num := decodeFloat f32 w

/-- The FP32 accumulator plus an exact addend with one RNE rounding (R435, R436). -/
def accAdd (acc : Nat) (x : Num) (xNv : Bool) : Nat × NFlags :=
  match ofF32 acc with
  | .nan => (canonNan f32, .none)
  | a =>
    let s := a.add x
    let r := encodeFloat f32 0 false s.1
    (r.1, ⟨xNv || s.2, r.2.of⟩)

/-- The INT32 accumulator plus an exact product (R434). -/
def accAddInt (acc : Int) (p : Int) : Int × NFlags := clampInt (-2147483648) 2147483647 (acc + p)

/-- Rates and granularity of R433: MACs per core per NPU cycle and K granularity of a pair, if listed. -/
def pairOf (a b : Nat) : Option (Nat × Nat) :=
  if a = 0 && b = 0 then some (2048, 64)
  else if (a = 1 || a = 2) && b = 0 then some (1024, 64)
  else if (a = 1 || a = 2) && b = 1 then some (1024, 32)
  else if a = 10 && b = 10 then some (2048, 64)
  else if a = 11 && b = 11 then some (1024, 32)
  else if (a = 5 || a = 6) && (b = 5 || b = 6) then some (512, 32)
  else if a = 12 && b = 12 then some (512, 32)
  else if a = 7 && b = 7 then some (256, 32)
  else if a = 8 && b = 8 then some (256, 32)
  else none

/-- Element `i` of packed bytes in a format (R420). -/
def elemAt (code : Nat) (rd : Nat → Nat) (base i : Nat) : Nat :=
  let w := fmtBits code
  if w = 4 then (rd (base + i / 2) / 2 ^ (4 * (i % 2))) % 16
  else (List.range (w / 8)).foldr (fun j acc => rd (base + i * (w / 8) + j) + 256 * acc) 0

end Sys2Proof.Machine
end

