-- ==== Sys2Proof/Machine/CoreWord.lean ====
section
/-! DEFINITION. The instruction word of a neural core (R453, R455), the stage word (R512), and the decode rules
(R461, R474, R476, R478, R479, R519, R532, R603). -/

namespace Sys2Proof.Machine

/-- Bits [hi:lo] of an instruction word. -/
def iF (w : BitVec 128) (hi lo : Nat) : Nat := (w.toNat >>> lo) % 2 ^ (hi + 1 - lo)
/-- Bit `i` of an instruction word. -/
def iB (w : BitVec 128) (i : Nat) : Bool := w.getLsbD i
/-- CLASS. -/
def iClass (w : BitVec 128) : Nat := iF w 3 0

/-- CHECK holds (R453). -/
def iCheckOk (w : BitVec 128) : Bool := crc8 (leBytes w.toNat 15) == BitVec.ofNat 8 (iF w 127 120)
/-- An instruction word with its CHECK computed. -/
def iWithCheck (w : Nat) : BitVec 128 :=
  BitVec.ofNat 128 (w % 2 ^ 120 + (crc8 (leBytes w 15)).toNat * 2 ^ 120)
/-- Replace bits [hi:lo] and recompute CHECK (R561). -/
def iSet (w : BitVec 128) (hi lo v : Nat) : BitVec 128 :=
  iWithCheck (w.toNat - (iF w hi lo) <<< lo + (v % 2 ^ (hi + 1 - lo)) <<< lo)

/-- Tile-buffer bytes. -/
def tbBytes : Nat := 262144

/-- The first true condition's code. -/
def firstCode : List (Bool × Nat) → Option Nat
  | [] => none
  | (c, code) :: l => if c then some code else firstCode l

/-! ### MATMUL (R456-R461) -/

/-- M. -/
def mmM (w : BitVec 128) : Nat := 32 * (iF w 19 16 + 1)
/-- N. -/
def mmN (w : BitVec 128) : Nat := 32 * (iF w 23 20 + 1)
/-- K. -/
def mmK (w : BitVec 128) : Nat := 32 * (iF w 35 24 + 1)
/-- Output blocks. -/
def mmBlocks (w : BitVec 128) : Nat := (iF w 19 16 + 1) * (iF w 23 20 + 1)
/-- Row bytes of an operand of format `f` (R458). -/
def mmRow (w : BitVec 128) (f : Nat) : Nat := mmK w * fmtBits f / 8

/-- The rules of R461. -/
def matmulRules (w : BitVec 128) : Option Nat :=
  let af := iF w 11 8
  let bf := iF w 15 12
  let g := ((pairOf af bf).map (·.2)).getD 1
  let blk := isBlock af
  firstCode
    [ ((pairOf af bf).isNone, 0x2021),
      (mmK w % g != 0, 0x2022),
      (decide (16 < mmBlocks w) || decide (16 < iF w 39 36 + mmBlocks w), 0x2023),
      (iF w 75 64 == 0 || iF w 87 76 == 0 || decide (64 * iF w 75 64 < mmRow w af) || decide (64 * iF w 87 76 < mmRow w bf), 0x2024),
      (decide (tbBytes < 64 * iF w 51 40 + 64 * (mmM w - 1) * iF w 75 64 + mmRow w af)
        || decide (tbBytes < 64 * iF w 63 52 + 64 * (mmN w - 1) * iF w 87 76 + mmRow w bf)
        || (blk && (decide (tbBytes < 64 * iF w 99 88 + mmM w * (mmK w / 32))
                    || decide (tbBytes < 64 * iF w 111 100 + mmN w * (mmK w / 32)))), 0x2025),
      ((!blk && (iF w 99 88 != 0 || iF w 111 100 != 0)) || iF w 7 5 != 0 || iF w 119 112 != 0, 0x2002) ]

/-! ### Slots, halo, sync, commit -/

/-- The rules of R474. -/
def slotLoadRules (w : BitVec 128) : Option Nat :=
  firstCode
    [ (iF w 7 5 != 0 || iF w 63 60 != 0 || iF w 119 114 != 0 || (iClass w == 4 && iB w 4), 0x2002),
      (iF w 47 28 % 64 != 0, 0x2003),
      (decide (tbBytes < 64 * (iF w 59 48 + (iF w 87 76 - 1) * iF w 99 88 + iF w 75 64)), 0x2025) ]

/-- The rules of a slot instruction at decode: R474, and a row count or length of 0, outside the ranges of R471. -/
def slotRules (w : BitVec 128) : Option Nat :=
  match slotLoadRules w with
  | some c => some c
  | none => if iF w 75 64 = 0 ∨ iF w 87 76 = 0 then some 0x2004 else none

/-- The rules of a HALO (R476, R603). -/
def haloRules (link : Nat → Bool) (w : BitVec 128) : Option Nat :=
  firstCode
    [ (iB w 7 || iF w 119 60 != 0, 0x2002), (!link (iF w 6 5), 0x2026), (iF w 35 28 == 0 || iF w 47 36 == 0, 0x2004),
      (decide (tbBytes < 64 * (iF w 27 16 + (iF w 47 36 - 1) * iF w 59 48 + iF w 35 28)), 0x2025) ]

/-! ### Stage words (R512) -/

/-- A stage. -/
structure Stage where
  kind : Nat
  rm   : Nat
  sat  : Bool
  vec  : Bool
  func : Nat
  fmt  : Nat
  sh   : Nat
  imm  : Nat
deriving DecidableEq, Repr

/-- The fields of a stage word. -/
def stageOf (w : BitVec 64) : Stage :=
  let f := fun (hi lo : Nat) => (w.toNat >>> lo) % 2 ^ (hi + 1 - lo)
  { kind := f 5 0, rm := f 7 6, sat := w.getLsbD 8, vec := w.getLsbD 9, func := f 13 10, fmt := f 17 14, sh := f 23 18,
    imm := f 55 24 }

/-- The stage word's CHECK (R512). -/
def stageCheckOk (w : BitVec 64) : Bool := crc8 (leBytes w.toNat 7) == BitVec.ofNat 8 (w.toNat / 2 ^ 56)

/-- FUNC values a kind has (R517, R521, R523). -/
def funcOk (g : Stage) : Bool :=
  match g.kind with
  | 1 => g.func == 0
  | 2 => g.func == 0
  | 3 => g.func == 0
  | 4 => decide (g.func ≤ 4)
  | 5 => decide (g.func ≤ 5)
  | 6 => decide (g.func ≤ 1)
  | 7 => decide (g.func % 4 ≤ 2)
  | 8 => decide (g.func ≤ 3)
  | 9 => decide (g.func ≤ 2)
  | _ => false

/-- The value format after the input convert (R508). -/
def inFmt (f : Nat) : Nat :=
  if f = 0 then 1 else if f = 5 ∨ f = 6 then 7 else if 10 ≤ f then 9 else f

/-- The value format after a stage (R517, R522). -/
def outFmt (vf : Nat) (g : Stage) : Nat :=
  if g.kind = 1 then g.fmt
  else if g.kind = 7 then (if vf ≤ 4 then 4 else 9)
  else if g.kind = 9 then 9
  else vf

/-- The value formats before each stage, and after the last. -/
def stageFmts (vf : Nat) : List Stage → List Nat
  | [] => [vf]
  | g :: l => vf :: stageFmts (outFmt vf g) l

/-- VEC at 1 where it has no meaning (R532 rule 2). -/
def vecBad (vf : Nat) (g : Stage) : Bool :=
  g.vec && !(if vf ≤ 4 then g.kind == 2 || g.kind == 3 || (g.kind == 5 && g.func == 1) else g.kind == 2 || g.kind == 3)

/-- Formats whose every value the value format represents exactly (R519, R430). -/
def tensorFits (vf f : Nat) : Bool :=
  match vf with
  | 1 => f ≤ 1
  | 2 => f == 2
  | 3 => f ≤ 3
  | 4 => f ≤ 4
  | 7 => f ≤ 2 || (5 ≤ f && f ≤ 7)
  | 8 => f ≤ 2 || f == 5 || f == 6 || f == 8
  | _ => f ≤ 3 || (5 ≤ f && f ≤ 9)

/-- Rule 4 of R532 for one stage. -/
def stageBad (vf : Nat) (g : Stage) : Bool :=
  (g.kind == 5 && decide (vf ≤ 4) && decide (1 < g.func))
    || (g.kind == 1 && !([1, 2, 3, 4, 7, 8, 9].contains g.fmt))
    || (g.kind == 9 && (g.rm != 0 || g.sat))
    || (g.kind == 4 && !tensorFits vf g.fmt)

/-- The stage reads the tile buffer (R532 rule 5). -/
def stageReads (g : Stage) : Bool :=
  g.kind == 4 || g.vec || (g.kind == 7 && g.func.testBit 3) || (g.kind == 9 && g.func == 1)

/-! ### VCHAIN (R510) -/

/-- ROWS. -/
def vcRows (w : BitVec 128) : Nat := iF w 83 72
/-- COLS. -/
def vcCols (w : BitVec 128) : Nat := 32 * (iF w 91 84 + 1)
/-- SFMT. -/
def vcSf (w : BitVec 128) : Nat := iF w 19 16
/-- DFMT. -/
def vcDf (w : BitVec 128) : Nat := iF w 23 20
/-- SRC_ACC. -/
def vcSrcAcc (w : BitVec 128) : Bool := iB w 13
/-- DST_ACC. -/
def vcDstAcc (w : BitVec 128) : Bool := iB w 14
/-- The stage words a VCHAIN reads (R511). -/
def vcWords (vt : Nat → BitVec 64) (w : BitVec 128) : List (BitVec 64) :=
  (List.range (iF w 12 10 + 1)).map (fun s => vt (8 * iF w 9 4 + s))
/-- Its stages. -/
def vcStages (vt : Nat → BitVec 64) (w : BitVec 128) : List Stage := (vcWords vt w).map stageOf
/-- Row bytes of a tile-buffer side. -/
def vcRowBytes (w : BitVec 128) (f : Nat) : Nat := vcCols w * fmtBits f / 8
/-- Accumulator blocks of a region. -/
def vcBlocks (w : BitVec 128) : Nat := (vcRows w / 32) * (vcCols w / 32)
/-- The extent of a tile-buffer side: start and bytes. -/
def sideExt (w : BitVec 128) (addr ld f : Nat) : Nat × Nat := (64 * addr, 64 * (vcRows w - 1) * ld + vcRowBytes w f)
/-- The scale plane's extent. -/
def scaleExt (w : BitVec 128) : Nat × Nat := (64 * iF w 107 96, vcRows w * (vcCols w / 32))

/-- Tile-buffer extents of a stage's operands: reads, then writes (R507, R520, R521, R523, R526). -/
def stageExts (w : BitVec 128) (g : Stage) : List (Nat × Nat) × List (Nat × Nat) :=
  let bm := vcRows w * (vcCols w / 8)
  let rd :=
    if g.kind = 4 then
      [(64 * (g.imm % 4096), 64 * (vcRows w - 1) * ((g.imm / 4096) % 4096) + vcCols w * fmtBits g.fmt / 8)]
    else if g.vec then [(64 * (g.imm % 4096), 4 * vcCols w)]
    else if g.kind = 7 ∧ g.func.testBit 3 = true then [(64 * (g.imm % 4096), bm)]
    else if g.kind = 9 ∧ g.func = 1 then [(64 * (g.imm % 8192), bm)]
    else []
  let wr := if g.kind = 8 then [(64 * (g.imm % 4096), 4 * vcRows w)]
            else if g.kind = 9 then [(64 * (g.imm / 2 ^ 20), vcRows w)] else []
  (rd, wr)

/-- The source's tile extents. -/
def vcSrcExts (w : BitVec 128) : List (Nat × Nat) :=
  if vcSrcAcc w then []
  else sideExt w (iF w 35 24) (iF w 59 48) (vcSf w) :: (if isBlock (vcSf w) then [scaleExt w] else [])
/-- The destination's tile extents. -/
def vcDstExts (w : BitVec 128) : List (Nat × Nat) :=
  if vcDstAcc w then []
  else sideExt w (iF w 47 36) (iF w 71 60) (vcDf w) :: (if isBlock (vcDf w) then [scaleExt w] else [])

/-- Two extents overlap. -/
def extsMeet (a b : Nat × Nat) : Bool := decide (a.1 < b.1 + b.2) && decide (b.1 < a.1 + a.2)

/-- Some two of the extents overlap. -/
def anyMeet : List (Nat × Nat) → Bool
  | [] => false
  | a :: l => l.any (extsMeet a) || anyMeet l

/-- The destination stands on the source, as R532 rule 9 allows for a one-pass chain. -/
def inPlace (w : BitVec 128) (gs : List Stage) : Bool :=
  !vcSrcAcc w && !vcDstAcc w && !gs.any (fun g => g.kind == 9) && iF w 35 24 == iF w 47 36 && iF w 59 48 == iF w 71 60
    && fmtBits (vcSf w) == fmtBits (vcDf w)

/-- Rules 2 to 9 of R532. -/
def vchainRules (vt : Nat → BitVec 64) (w : BitVec 128) : Option Nat :=
  let gs := vcStages vt w
  let vf0 := inFmt (vcSf w)
  let vfs := stageFmts vf0 gs
  let last := vfs.getLastD vf0
  let z := vfs.zip gs
  let sb := isBlock (vcSf w)
  let db := isBlock (vcDf w)
  let acc32 := fun f => f == 4 || f == 9
  let exts := gs.map (stageExts w)
  let all := vcSrcExts w ++ (vcDstExts w).drop (inPlace w gs).toNat ++ exts.flatMap (·.1) ++ exts.flatMap (·.2)
  let every := all ++ vcDstExts w
  firstCode
    [ (gs.any (fun g => !funcOk g || decide (1 < g.rm) || decide (12 < g.fmt) || decide (47 < g.sh)) || z.any (fun p => vecBad p.1 p.2)
        || decide (1 < iF w 93 92) || iB w 15 || iB w 95 || iF w 119 108 != 0
        || (vcSrcAcc w && (iF w 35 28 != 0 || iF w 59 48 != 0)) || (vcDstAcc w && (iF w 47 40 != 0 || iF w 71 60 != 0)), 0x2002),
      (decide (12 < vcSf w) || decide (12 < vcDf w) || (vcSrcAcc w && !acc32 (vcSf w)) || (vcDstAcc w && !acc32 (vcDf w))
        || (sb && db) || (!sb && !db && iF w 107 96 != 0), 0x2040),
      (z.any (fun p => stageBad p.1 p.2) || (db && last == 4), 0x2041),
      (decide (1 < (gs.filter (fun g => g.kind == 9)).length) || decide (1 < (gs.filter (fun g => g.kind == 4)).length)
        || decide (2 < (gs.filter stageReads).length), 0x2042),
      (vcRows w == 0, 0x2004),
      ((vcSrcAcc w && (vcRows w % 32 != 0 || decide (16 < iF w 27 24 + vcBlocks w)))
        || (vcDstAcc w && (vcRows w % 32 != 0 || decide (16 < iF w 39 36 + vcBlocks w))), 0x2023),
      ((!vcSrcAcc w && (iF w 59 48 == 0 || decide (64 * iF w 59 48 < vcRowBytes w (vcSf w))))
        || (!vcDstAcc w && (iF w 71 60 == 0 || decide (64 * iF w 71 60 < vcRowBytes w (vcDf w)))), 0x2024),
      (every.any (fun e => decide (tbBytes < e.1 + e.2)), 0x2025),
      (anyMeet all, 0x2043) ]

/-- The decode rules of a word that passes CHECK (R454, R489); `link` tells which sides have links. -/
def wordRules (link : Nat → Bool) (vt : Nat → BitVec 64) (w : BitVec 128) : Option Nat :=
  match iClass w with
  | 1 => matmulRules w
  | 2 => vchainRules vt w
  | 3 => slotRules w
  | 4 => slotRules w
  | 5 => haloRules link w
  | 6 => if iF w 119 32 ≠ 0 ∨ iF w 15 8 ≠ 0 then some 0x2002 else none
  | 7 => if iF w 119 4 ≠ 0 then some 0x2002 else none
  | _ => some 0x2002

/-- Check 22 of R558 on one word: the rules it names (R442, R461, R474, R476, R532) and no others, so a reserved class, the
reserved bits of HALO, SYNC and COMMIT, and R603 wait for decode. -/
def loadRules (link : Nat → Bool) (vt : Nat → BitVec 64) (w : BitVec 128) : Option Nat :=
  match iClass w with
  | 1 => matmulRules w
  | 2 => vchainRules vt w
  | 3 => slotLoadRules w
  | 4 => slotLoadRules w
  | 5 => if link (iF w 6 5) then none else some 0x2026
  | _ => none

/-- A stage word that a VCHAIN reads fails its CHECK (R532 rule 1). -/
def stagesFail (vt : Nat → BitVec 64) (w : BitVec 128) : Bool :=
  iClass w == 2 && (vcWords vt w).any (fun g => !stageCheckOk g)

end Sys2Proof.Machine
end

