-- ==== Sys2Proof/Machine/Array.lean ====
section
/-! DEFINITION. Neural cores (10): the next instruction, missing SYNCs (R452), the matrix product, residue
mismatches, fetch and decode failures. -/

namespace Sys2Proof.Machine

/-! ### The next instruction -/

/-- NC_PC. -/
def State.ncPc (s : State) (n : Nat) : Nat := s.getF (.nc n) 0x54 10 0
/-- An instruction word; never-written memory is class 0 (R454). -/
def State.imWord (s : State) (n i : Nat) : BitVec 128 := ((s.core n).imem.get? i).getD 0
/-- The word at NC_PC. -/
def State.ncWord (s : State) (n : Nat) : BitVec 128 := s.imWord n (s.ncPc n)
/-- A stage word; a word never written since the chain table was cleared is zero (R513). -/
def State.vtWord (s : State) (n i : Nat) : BitVec 64 := ((s.core n).vt.get? i).getD 0
/-- A core has a link on side `d` (R476). -/
def State.hasLink (s : State) (n d : Nat) : Bool := s.getB (.nc n) 0x90 d

/-- The core issues: a command in body, no collective's program, and a legal word of class `cls`. -/
def issues (s : State) (n cls : Nat) : Bool :=
  let w := s.ncWord n
  s.ncPhase n == 1 && !(s.core n).coll && iClass w == cls && (wordRules (s.hasLink n) (s.vtWord n) w).isNone
    && !stagesFail (s.vtWord n) w

/-- The instruction at NC_PC has issued. -/
def advance (n : Nat) (s : State) : State := s.setF (.nc n) 0x54 10 0 ((s.ncPc n + 1) % 2048)

/-! ### Accumulators -/

/-- An accumulator word; one that nothing has written is undefined (R11). -/
def State.accWord (s : State) (n a : Nat) : Word := ((s.core n).acc.get? a).getD (Config.freeWord s.seq (0x10000 + a))

/-- Store accumulator words. -/
def State.putAcc (s : State) (n : Nat) (l : List (Nat × Word)) : State :=
  let c := s.core n
  s.setCore n { c with acc := l.foldl (fun m p => m.put p.1 p.2) c.acc }

/-- The word index of element (m, n) of a region of `cols` columns from block `base` (R448, R460). -/
def accIndex (base cols m n : Nat) : Nat := (base + (m / 32) * (cols / 32) + n / 32) * 1024 + (m % 32) * 32 + n % 32

/-! ### Missing SYNCs (R452) -/

/-- What two ranges share. -/
def shared (a la b lb : Nat) : Nat × Nat := (max a b, min (a + la) (b + lb) - max a b)

/-- The bytes or words of a range become undefined. -/
def undefSpan (n : Nat) (acc : Bool) (r : Nat × Nat) (s : State) : State :=
  if acc then let c := s.core n; s.setCore n { c with acc := c.acc.clear r.1 r.2 }
  else s.undef (tileBase n + r.1) r.2

/-- Two accesses of core units meet without a SYNC between them: other units, one memory, and not both reads. -/
def Span.meets (x y : Span) : Bool :=
  y.unit != x.unit && y.acc == x.acc && (x.write || y.write) && overlaps x.start x.len y.start y.len

/-- A result stands in the range that a read takes. -/
def SpanOut.feeds (n : Nat) (y : Span) (o : SpanOut) : Bool :=
  match o with
  | .mem a l => !y.acc && overlaps a l (tileBase n + y.start) y.len
  | .acc a l => y.acc && overlaps a l y.start y.len
  | .land _ _ _ => false

/-- The results of open reads that a write of `x` spoils, and of later reads of those results. -/
def spoilt (n : Nat) (x : Span) (l : List Span) : List SpanOut :=
  l.foldl (fun d y => if !y.write && (x.meets y || d.any (·.feeds n y)) then d ++ y.outs else d) []

/-- A result becomes undefined. -/
def undefOut (n : Nat) (s : State) (o : SpanOut) : State :=
  match o with
  | .mem a l => s.undef a l
  | .acc a l => undefSpan n true (a, l) s
  | .land p d tag =>
    let c := s.core p
    s.setCore p { c with land := c.land.map (fun e =>
      if e.dir == d && e.tag == tag then { e with data := (List.range e.data.length).map (Config.freeByte s.seq) } else e) }

/-- What `x` shares with open accesses of other units becomes undefined, a read meeting only writes; the results of the
reads that a write meets become undefined (log entry 70), and so will what a waiting RECV puts into it. -/
def hazard (n : Nat) (x : Span) (s : State) : State :=
  let l := (s.core n).spans
  let hit := l.filter x.meets
  let s1 := hit.foldl (fun t y => undefSpan n x.acc (shared x.start x.len y.start y.len) t) s
  let s2 := if x.write then (spoilt n x l).foldl (undefOut n) s1 else s1
  let late := if x.write then hit.filter (fun y => y.write && y.unit == 3) else []
  if late.isEmpty then s2
  else
    let c := s2.core n
    s2.setCore n { c with clash := c.clash ++ late.map (fun y => shared x.start x.len y.start y.len) }

/-- Accesses of one unit; `outs` are the results of the reads. -/
def spansOf (unit : Nat) (write acc : Bool) (outs : List SpanOut) (l : List (Nat × Nat)) : List Span :=
  l.map (fun r => { unit := unit, write := write, acc := acc, start := r.1, len := r.2, outs := if write then [] else outs })

/-- Unsynchronised accesses before an instruction reads. -/
def hazards (n : Nat) (l : List Span) (s : State) : State := l.foldl (fun t x => hazard n x t) s

/-- The accesses of an instruction are open from its issue (R452). -/
def openSpans (n : Nat) (l : List Span) (s : State) : State :=
  let s1 := hazards n l s
  s1.setCore n { s1.core n with spans := (s1.core n).spans ++ l }

/-- An instruction runs between its reads and its writes: unsynchronised bytes are undefined before and after, its
accesses stay open, and the command has written what it wrote (R452, R481). -/
def withSpans (n : Nat) (rd wr : List Span) (f : State → State) (s : State) : State :=
  let s2 := hazards n wr (f (hazards n rd s))
  let c := s2.core n
  s2.setCore n { c with
    spans := c.spans ++ rd ++ wr,
    tbWrote := c.tbWrote ++ (wr.filter (fun x => !x.acc)).map (fun x => (x.start, x.len)),
    acWrote := c.acWrote ++ (wr.filter (·.acc)).map (fun x => (x.start, x.len)) }

/-- A unit has completed everything (R478). -/
def closeSpans (n : Nat) (p : Nat → Bool) (s : State) : State :=
  let c := s.core n
  s.setCore n { c with spans := c.spans.filter (fun x => !p x.unit), clash := if p 3 then [] else c.clash }

/-- Set arithmetic flags: ARR at bit 0, VEC at bit 2 (R492, R493). -/
def ncFlags (n base : Nat) (f : NFlags) (s : State) : State :=
  s.orReg (.nc n) 0x4C (wd (f.nv.toNat * 2 ^ base + f.of.toNat * 2 ^ (base + 1)))

/-! ### Residue mismatches (R487, R488, R494, R531) -/

/-- A residue mismatch as NC_RES_LAST and NC_RES_LAST2 record it (R487, R492). -/
structure Residue where
  pass     : Nat
  chunk    : Nat
  row      : Nat
  col      : Nat
  expected : Nat
  observed : Nat
  kind     : Nat
deriving DecidableEq, Repr

/-- Counted mismatches of the last 10 s. -/
def resWindow (s : State) (n : Nat) : List Nat := within s.dt (10 * oneSecond) (s.core n).resTimes

/-- A residue mismatch at instruction `index`; `inj` says that it was injected, `nocount` that it is not counted. -/
def residue (n index : Nat) (r : Residue) (inj nocount : Bool) (s : State) : State :=
  let c := s.core n
  let first := !c.recorded
  let s1 := if first then
      ((s.setN (.nc n) 0x68 (index + r.pass * 0x1000 + r.chunk % 4096 * 0x10000)).setN (.nc n) 0x6C
        (r.row + r.col * 0x100 + r.expected * 0x10000 + r.observed * 0x100000 + r.kind * 0x1000000))
    else s
  let s2 := (s1.count (.nc n) 0x64 1).irq (.nc n) 8
  let win := resWindow s n
  let perm := !nocount && !win.isEmpty
  let win' := if nocount then win else win ++ [s.dt]
  let s3 := s2.setCore n { s2.core n with recorded := true, resTimes := win' }
  let s4 := if nocount then s3 else (s3.setN (.nc n) 0x70 s.dt).setF (.nc n) 0x74 3 0 (min win'.length 15)
  let s5 := if first ∨ perm then
      ncRecord n (if perm then 0x2031 else 0x2030) (if perm then clsPermanent else clsTransient) inj [] s4
    else s4
  if perm then retireCore n 0x2031 s5 else killCommand (clusterOf n) 2 0x2030 s5

/-- NC_INJ.ARMED (R494). -/
def State.ncArmed (s : State) (n : Nat) : Bool := s.getB (.nc n) 0x78 1

/-- The mismatches of one instruction in order: what is recorded, whether it was injected, whether it is not counted. A
core that has retired checks no more. -/
def residues (n index : Nat) (l : List (Residue × Bool × Bool)) (s : State) : State :=
  l.foldl (fun t x => if t.inService n then residue n index x.1 x.2.1 x.2.2 t else t) s

/-- An instruction that a mismatch ended has raised some of its flags: free values, log entry 103. -/
def someFlags (s : State) (f : NFlags) : NFlags :=
  { nv := f.nv && Config.freeBool s.seq 24, of := f.of && Config.freeBool s.seq 25 }

/-! ### Residues modulo 7 (R484) -/

/-- r(v) of an integer. -/
def res7 (v : Int) : Nat := (v % 7).toNat

/-- The residue of a significand, sign ignored; an infinity or a NaN has none (log entry 103). -/
def Num.sig7 (x : Num) : Option Nat :=
  match x with
  | .fin _ m _ => some (m % 7)
  | _ => none

/-- The predicted residue of a significand product. -/
def sigProduct (x y : Num) : Option Nat :=
  match x.sig7, y.sig7 with
  | some a, some b => some (a * b % 7)
  | _, _ => none

/-! ### MATMUL (R456-R466) -/

/-- Elements of a row of an operand. -/
def rowElems (s : State) (n f base k : Nat) : List Nat :=
  let rd := fun a => (s.byte (tileBase n + a)).toNat
  (List.range k).map (elemAt f rd base)

/-- The integer an element of an integer format holds (R419). -/
def intElem (f b : Nat) : Int := if f = 2 then ((b % 256 : Nat) : Int) else signed (fmtBits f) b

/-- An integer pair (R434): the accumulator after all products, and its flags. -/
def dotInt (af bf : Nat) (acc : Int) (ps : List (Nat × Nat)) : Int × NFlags :=
  ps.foldl (fun a p => let r := accAddInt a.1 (intElem af p.1 * intElem bf p.2); (r.1, a.2.or r.2)) (acc, NFlags.none)

/-- A float pair (R435): one product, one rounding. -/
def dotFloat (af bf acc : Nat) (ps : List (Nat × Nat)) : Nat × NFlags :=
  ps.foldl (fun a p =>
    let x := (decodeElem af p.1).mul (decodeElem bf p.2)
    let r := accAdd a.1 x.1 x.2
    (r.1, a.2.or r.2)) (acc, NFlags.none)

/-- A block-scaled pair (R436): one exact block sum, one rounding. -/
def dotBlock (f acc : Nat) : List Nat → List Nat → List (Nat × Nat) → Nat × NFlags
  | sa :: sas, sb :: sbs, ps =>
    let d := blockData f
    let sum := (ps.take 32).foldl (fun (a : Num × Bool) p =>
      let x := (decodeElem d p.1).mul (decodeElem d p.2)
      let y := a.1.add x.1
      (y.1, a.2 || x.2 || y.2)) ((.fin false 0 0 : Num), false)
    let x := if sa = 255 ∨ sb = 255 then Num.nan else sum.1.scale ((sa : Int) + sb - 254)
    let r := accAdd acc x (sum.2 && !(sa == 255 || sb == 255))
    let t := dotBlock f r.1 sas sbs (ps.drop 32)
    (t.1, r.2.or t.2)
  | _, _, _ => (acc, NFlags.none)

/-- The operand pairs of output element (m, j), k rising (R457, R458). -/
def mmPairs (s : State) (n : Nat) (w : BitVec 128) (m j : Nat) : List (Nat × Nat) :=
  (rowElems s n (iF w 11 8) (64 * (iF w 51 40 + m * iF w 75 64)) (mmK w)).zip
    (rowElems s n (iF w 15 12) (64 * (iF w 63 52 + j * iF w 87 76)) (mmK w))

/-- The accumulator word a MATMUL starts output element (m, j) from (R464). -/
def mmStart (s : State) (n : Nat) (w : BitVec 128) (m j : Nat) : Nat :=
  if iB w 4 then (s.accWord n (accIndex (iF w 39 36) (mmN w) m j)).toNat else 0

/-- Output element (m, j) of a MATMUL: accumulator bits and flags (R464, R466). -/
def mmElem (s : State) (n : Nat) (w : BitVec 128) (m j : Nat) : Nat × NFlags :=
  let af := iF w 11 8
  let bf := iF w 15 12
  let ps := mmPairs s n w m j
  let old := mmStart s n w m j
  if isBlock af then
    let q := mmK w / 32
    let sc := fun base i => (s.bytes (tileBase n + 64 * base + i * q) q).map (·.toNat)
    dotBlock af old (sc (iF w 99 88) m) (sc (iF w 111 100) j) ps
  else if isFloat af then dotFloat af bf old ps
  else let r := dotInt af bf (signed 32 old) ps; (unsigned 32 r.1, r.2)

/-- The chunk of a MATMUL's pair: its K granularity (R433, R463). -/
def mmChunk (w : BitVec 128) : Nat := ((pairOf (iF w 11 8) (iF w 15 12)).map (·.2)).getD 1

/-- The predicted residue of a checked quantity and its KIND, by the operands that the array reads (R484, R492); none
where R486 checks nothing or the position is outside the instruction. -/
def arrayCheck (s : State) (n : Nat) (w : BitVec 128) (x : ArrayFault) : Option (Nat × Nat) :=
  let af := iF w 11 8
  let bf := iF w 15 12
  let g := mmChunk w
  let nb := mmN w / 32
  let m := 32 * (x.pass / nb) + x.row
  let j := 32 * (x.pass % nb) + x.col
  let inside := decide (x.pass < mmBlocks w) && decide (x.chunk < mmK w / g) && decide (x.row < 32) && decide (x.col < 32)
    && decide (x.elem < g)
  let ps := mmPairs s n w m j
  let chunkPs := (ps.drop (x.chunk * g)).take g
  let sum := fun (fa fb : Nat) (l : List (Nat × Nat)) =>
    (l.foldl (fun a p => a + res7 (intElem fa p.1) * res7 (intElem fb p.2)) 0) % 7
  if !inside then none
  else if x.acc then
    if isBlock af || isFloat af then none
    else
      let before := dotInt af bf (signed 32 (mmStart s n w m j)) (ps.take (x.chunk * g))
      let after := dotInt af bf before.1 chunkPs
      if after.2.of then none else some (res7 after.1, 1)
  else if af = 10 ∨ af = 11 then
    some (sum (blockData af) (blockData af) ((chunkPs.drop (x.elem / 32 * 32)).take 32), 0)
  else if isBlock af || isFloat af then
    let fa := if af = 12 then 5 else af
    let fb := if af = 12 then 5 else bf
    let p := chunkPs.getD x.elem (0, 0)
    (sigProduct (decodeElem fa p.1) (decodeElem fb p.2)).map (fun e => (e, 2))
  else some (sum af bf chunkPs, 0)

/-- The mismatch that a residue of the datapath makes. -/
def arrayResidue (s : State) (n : Nat) (w : BitVec 128) (x : ArrayFault) : Option Residue :=
  match arrayCheck s n w x with
  | none => none
  | some (e, k) =>
    if x.observed.val = e then none
    else some { pass := x.pass, chunk := x.chunk, row := x.row, col := x.col, expected := e, observed := x.observed.val, kind := k }

/-- The mismatch that an armed injection forces on the next checked chunk, the instruction's first (R492). The position in
the chunk and the observed residue are not stated: free values, log entry 5. -/
def forced (s : State) (n : Nat) (w : BitVec 128) : Residue :=
  let row := Config.freeNat s.seq 20 % 32
  let col := Config.freeNat s.seq 21 % 32
  let x : ArrayFault := { pass := 0, chunk := 0, row := row, col := col, elem := Config.freeNat s.seq 22 % mmChunk w,
                          acc := false, observed := 0 }
  let e := (arrayCheck s n w x).getD (Config.freeNat s.seq 23 % 7, 2)
  { pass := 0, chunk := 0, row := row, col := col, expected := e.1, observed := (e.1 + 1 + Config.freeNat s.seq 26 % 6) % 7,
    kind := e.2 }

/-- The mismatches of a MATMUL: an armed injection first, which takes the place of a real mismatch of the same chunk
(R987), then the others in the order the environment names them. -/
def mmMismatches (s : State) (n : Nat) (w : BitVec 128) (faults : List ArrayFault) : List (Residue × Bool × Bool) :=
  let real := faults.filterMap (arrayResidue s n w)
  if s.ncArmed n then
    (forced s n w, true, s.getB (.nc n) 0x78 2) ::
      (real.filter (fun r => r.pass != 0 || r.chunk != 0)).map (fun r => (r, false, false))
  else real.map (fun r => (r, false, false))

/-- The output elements of a MATMUL in the order of its passes (R463), with their word indices. -/
def mmOut (s : State) (n : Nat) (w : BitVec 128) : List (Nat × Nat × NFlags) :=
  (List.range (mmM w)).flatMap (fun m => (List.range (mmN w)).map (fun j =>
    (accIndex (iF w 39 36) (mmN w) m j, mmElem s n w m j)))

/-- The tile bytes a MATMUL reads, and the words it writes. -/
def mmReads (w : BitVec 128) : List (Nat × Nat) :=
  let rows := fun (k addr ld len : Nat) => (List.range k).map (fun i => (64 * (addr + i * ld), len))
  rows (mmM w) (iF w 51 40) (iF w 75 64) (mmRow w (iF w 11 8)) ++ rows (mmN w) (iF w 63 52) (iF w 87 76) (mmRow w (iF w 15 12))
    ++ (if isBlock (iF w 11 8) then
          [(64 * iF w 99 88, mmM w * (mmK w / 32)), (64 * iF w 111 100, mmN w * (mmK w / 32))] else [])

/-- The accumulator words a MATMUL writes. -/
def mmWrites (w : BitVec 128) : Nat × Nat := (iF w 39 36 * 1024, mmBlocks w * 1024)

/-- Array busy cycles (R462). -/
def mmCycles (w : BitVec 128) : Nat :=
  mmM w * mmN w * mmK w / ((pairOf (iF w 11 8) (iF w 15 12)).map (·.1)).getD 1

/-- The output of a MATMUL and its flags; one that a mismatch ended has raised some of them. -/
def mmEffect (n : Nat) (w : BitVec 128) (ended : Bool) (s : State) : State :=
  let out := mmOut s n w
  let fl := out.foldl (fun f p => f.or p.2.2) NFlags.none
  ncFlags n 0 (if ended then someFlags s fl else fl) (s.putAcc n (out.map (fun p => (p.1, wd p.2.1))))

/-- The accesses of a MATMUL (R452): reads, then the accumulator words it writes. -/
def mmSpans (w : BitVec 128) : List Span × List Span :=
  let o := [SpanOut.acc (mmWrites w).1 (mmWrites w).2]
  (spansOf 0 false false o (mmReads w) ++ (if iB w 4 then spansOf 0 false true o [mmWrites w] else []),
   spansOf 0 true true [] [mmWrites w])

/-- MATMUL on core `n`: the product, or the mismatches that end it (R464, R487). -/
def matmulAt (n : Nat) (faults : List ArrayFault) (s : State) : State :=
  if !issues s n 1 then s
  else
    let w := s.ncWord n
    let sp := mmSpans w
    let mis := mmMismatches (hazards n sp.1 s) n w faults
    let s1 := withSpans n sp.1 sp.2 (mmEffect n w (!mis.isEmpty)) s
    let cyc := if mis.isEmpty then mmCycles w else Config.freeNat s.seq 27 % (mmCycles w + 1)
    let s2 := s1.count (.nc n) 0x7C cyc
    let s3 := if s.ncArmed n then s2.setB (.nc n) 0x78 1 false else s2
    advance n (residues n (s.ncPc n) mis s3)

/-! ### Fetch and decode failures (R489) -/

/-- An instruction word fails its CHECK at fetch. -/
def imemFail (n : Nat) (s : State) : State :=
  if s.ncPhase n ≠ 1 then s
  else
    let win := within s.dt (10 * oneSecond) (s.core n).imTimes
    let perm := !win.isEmpty
    let s1 := s.setCore n { s.core n with imTimes := win ++ [s.dt] }
    let s2 := (s1.setF (.nc n) 0x74 7 4 (min (win.length + 1) 15)).irq (.nc n) 10
    if perm then retireCore n 0x2033 (ncRecord n 0x2033 clsPermanent false [] s2)
    else killCommand (clusterOf n) 5 0x2032 (ncRecord n 0x2032 clsTransient false [] s2)

/-- A word that passes CHECK breaks a decode rule. -/
def illegalAt (n : Nat) (s : State) : State :=
  let w := s.ncWord n
  if s.ncPhase n ≠ 1 ∨ (s.core n).coll ∨ (wordRules (s.hasLink n) (s.vtWord n) w).isNone ∨ stagesFail (s.vtWord n) w then s
  else killCommand (clusterOf n) 6 0x2034 (ncRecord n 0x2034 clsConfig false [] (s.irq (.nc n) 9))

end Sys2Proof.Machine
end

