-- ==== Sys2Proof/Machine/Exp.lean ====
section
/-! DEFINITION. Division, reciprocal and exponential to many more bits than any format holds, so that the one
rounding that follows is the correct rounding (R514, R518, R524). -/

namespace Sys2Proof.Machine

/-- A quotient a / b of magnitudes to 256 bits beyond the numerator's, with a sticky last bit. -/
def quotient (m : Nat) (e : Int) (n : Nat) (f : Int) : Nat × Int :=
  let sh := 256 + Nat.log2 n
  let q := (m * 2 ^ sh) / n
  let r := (m * 2 ^ sh) % n
  (2 * q + (if r = 0 then 0 else 1), e - f - sh - 1)

/-- An exact-up-to-sticky quotient; NV for 0/0 and for infinity over infinity. -/
def Num.div (a b : Num) : Num × Bool :=
  match a, b with
  | .nan, _ => (.nan, false)
  | _, .nan => (.nan, false)
  | .inf _, .inf _ => (.nan, true)
  | .inf s, .fin t _ _ => (.inf (s != t), false)
  | .fin s _ _, .inf t => (.fin (s != t) 0 0, false)
  | .fin s m e, .fin t n f =>
    if n = 0 then (if m = 0 then (.nan, true) else (.inf (s != t), false))
    else let q := quotient m e n f; (.fin (s != t) q.1 q.2, false)

/-- One. -/
def Num.one : Num := .fin false 1 0

/-- Fraction bits of the exponential's fixed point. -/
def expBits : Nat := 480

/-- The sum of x^i / i! from term `i` on, for x in fixed point; `t` is the term. -/
def taylor (x : Nat) : Nat → Nat → Nat → Nat
  | 0, _, _ => 0
  | fuel + 1, i, t => t + taylor x fuel (i + 1) (t * x / 2 ^ expBits / (i + 1))

/-- Repeated squaring in fixed point. -/
def squares : Nat → Nat → Nat
  | 0, y => y
  | k + 1, y => squares k (y * y / 2 ^ expBits)

/-- e^x for x = m * 2^e with 0 < x < 128 and x a multiple of 2^-200, in fixed point: reduce by 2^20, sum, square back. -/
def expFix (m : Nat) (e : Int) : Nat :=
  let x := m * 2 ^ ((expBits : Int) + e - 20).toNat
  squares 20 (taylor x 48 0 (2 ^ expBits))

/-- e^x (R518). A value that no format can tell from overflow or from zero stands for one far out. -/
def Num.exp (x : Num) : Num :=
  match x with
  | .nan => .nan
  | .inf s => if s then .fin false 0 0 else .inf false
  | .fin s m e =>
    if m = 0 then Num.one
    else if magLt m e 128 0 then
      if s then
        let y := expFix m e
        .fin false (2 * (2 ^ (2 * expBits) / y) + 1) (-(expBits : Int) - 1)
      else .fin false (2 * expFix m e + 1) (-(expBits : Int) - 1)
    else if s then .fin false 1 (-400) else .fin false 1 400

end Sys2Proof.Machine
end

