-- ==== Sys2Proof/Machine/Vector.lean ====
section
/-! DEFINITION. Vector engine (11): stages, scans, reductions, softmax, and VCHAIN. -/

namespace Sys2Proof.Machine

/-- A value rounded into a value format: decoded again, with its flags (R514, R515). -/
def intoFmt (f rm : Nat) (sat : Bool) (x : Num) : Num × NFlags :=
  let r := encodeElem f rm sat x
  (decodeElem f r.1, r.2)

/-- A result with the NV of its operation. -/
def intoNv (f rm : Nat) (sat : Bool) (x : Num × Bool) : Num × NFlags :=
  let r := intoFmt f rm sat x.1
  (r.1, { r.2 with nv := r.2.nv || x.2 })

/-- FP32 bits as a value. -/
def fp (bits : Nat) : Num := decodeFloat f32 bits
/-- INT32 bits as a value. -/
def i32 (bits : Nat) : Num := Num.ofInt (signed 32 bits)

/-- Order of values; −0 lies below +0 (R516). NaN is handled before. -/
def Num.lt (a b : Num) : Bool :=
  match a, b with
  | .inf s, .inf t => s && !t
  | .inf s, .fin _ _ _ => s
  | .fin _ _ _, .inf t => !t
  | .fin s m e, .fin t k f =>
    if m = 0 ∧ k = 0 then s && !t
    else if s ≠ t then s
    else if s then magLt k f m e else magLt m e k f
  | _, _ => false

/-- A value is NaN. -/
def Num.isNan (a : Num) : Bool :=
  match a with
  | .nan => true
  | _ => false

/-- MAX (R516). -/
def Num.max2 (a b : Num) : Num := if a.isNan || b.isNan then .nan else if a.lt b then b else a
/-- MIN (R516). -/
def Num.min2 (a b : Num) : Num := if a.isNan || b.isNan then .nan else if b.lt a then b else a

/-- A value is below zero. -/
def Num.neg? (a : Num) : Bool :=
  match a with
  | .inf s => s
  | .fin s m _ => s && m != 0
  | .nan => false

/-- x × M / 2^SH (R517), rounded and clamped (R515). -/
def scaleInt (vf rm m sh : Nat) (x : Num) : Num × NFlags :=
  intoFmt vf rm false ((x.mul (Num.ofInt (signed 16 m))).1.scale (-(sh : Int)))

/-- Where a stage's operand stands: tile-buffer reader of the core, row and column. -/
structure Place where
  rd  : Nat → Nat
  row : Nat
  col : Nat

/-- The 32-bit parameter of a stage: word `col` of its vector, or IMM. -/
def param (p : Place) (g : Stage) : Nat :=
  if g.vec then
    let a := 64 * (g.imm % 4096) + 4 * p.col
    p.rd a + 256 * p.rd (a + 1) + 65536 * p.rd (a + 2) + 16777216 * p.rd (a + 3)
  else g.imm

/-- SCALE, and LEAKY below zero (R517). -/
def scaleStage (vf : Nat) (p : Place) (g : Stage) (x : Num) : Num × NFlags :=
  let w := param p g
  if vf ≤ 4 then scaleInt vf g.rm (w % 65536) (if g.vec then (w / 65536) % 64 else g.sh) x
  else intoNv vf g.rm g.sat (x.mul (fp w))

/-- The sigmoid's 1/d before its last rounding (R518). -/
def sigmoidDiv (x : Num) : (Num × Bool) × NFlags :=
  let e := intoFmt 9 0 false (Num.exp x.neg)
  let d := intoNv 9 0 false (Num.one.add e.1)
  (Num.div Num.one d.1, e.2.or d.2)

/-- ACT (R518). -/
def actStage (vf : Nat) (p : Place) (g : Stage) (x : Num) : Num × NFlags :=
  match g.func with
  | 0 =>
    if x.isNan then (.nan, .none)
    else if x.neg? then (.fin false 0 0, .none)
    else (match x with
          | .fin _ 0 _ => .fin false 0 0
          | y => y, .none)
  | 1 => if x.neg? then scaleStage vf p { g with vec := g.vec && decide (vf ≤ 4) } x else (x, .none)
  | 2 => intoFmt vf g.rm g.sat (Num.exp x)
  | 3 => let q := sigmoidDiv x; let r := intoNv vf g.rm g.sat q.1; (r.1, q.2.or r.2)
  | 4 =>
    let q := sigmoidDiv x
    let y := intoNv 9 0 false q.1
    let r := intoNv vf g.rm g.sat (y.1.mul x)
    (r.1, (q.2.or y.2).or r.2)
  | _ => intoNv vf g.rm g.sat (Num.div Num.one x)

/-- TENSOR (R517, R519). -/
def tensorStage (vf : Nat) (p : Place) (g : Stage) (x : Num) : Num × NFlags :=
  let base := 64 * (g.imm % 4096 + p.row * ((g.imm / 4096) % 4096))
  let t := decodeElem g.fmt (elemAt g.fmt p.rd base p.col)
  match g.func with
  | 0 => intoNv vf g.rm g.sat (x.add t)
  | 1 => intoNv vf g.rm g.sat (x.add t.neg)
  | 2 => intoNv vf g.rm g.sat (x.mul t)
  | 3 => intoFmt vf g.rm g.sat (x.max2 t)
  | _ => intoFmt vf g.rm g.sat (x.min2 t)

/-- A stage that works element by element (kinds 1 to 6, R517, R544). -/
def elemStage (vf : Nat) (p : Place) (g : Stage) (x : Num) : Num × NFlags :=
  let k := if vf ≤ 4 then i32 g.imm else fp g.imm
  match g.kind with
  | 1 => intoFmt g.fmt g.rm g.sat x
  | 2 => scaleStage vf p g x
  | 3 => intoNv vf g.rm g.sat (x.add (if vf ≤ 4 then i32 (param p g) else fp (param p g)))
  | 4 => tensorStage vf p g x
  | 5 => actStage vf p g x
  | _ => intoFmt vf g.rm g.sat (if g.func = 0 then x.max2 k else x.min2 k)

/-- One combination in INT32 or FP32 (R520, R522); `f` is 4 or 9, `op` 0 SUM, 1 MAX, 2 MIN. -/
def combine (f op : Nat) (a x : Num) : Num × NFlags :=
  match op with
  | 0 => intoNv f 0 false (a.add x)
  | 1 => (a.max2 x, .none)
  | _ => (a.min2 x, .none)

/-- The identities of R522. -/
def scanId (f op : Nat) : Num :=
  match op with
  | 0 => .fin false 0 0
  | 1 => if f = 4 then Num.ofInt (-2147483648) else .inf true
  | _ => if f = 4 then Num.ofInt 2147483647 else .inf false

/-- SCAN over a row (R521): values with their segment flags, from accumulator `a`. -/
def scanRow (f op : Nat) (excl : Bool) : Bool → Num → List (Num × Bool) → List Num × NFlags
  | _, _, [] => ([], .none)
  | first, a, (x, flag) :: l =>
    let a0 := if first || flag then scanId f op else a
    let r := combine f op a0 x
    let t := scanRow f op excl false r.1 l
    ((if excl then a0 else r.1) :: t.1, r.2.or t.2)

/-- REDUCE over a row (R520): the first element, then each in ascending order. -/
def reduceRow (f op : Nat) (xs : List Num) : Num × NFlags :=
  let sq := fun (x : Num) => if f = 4 then x.mul x |> fun p => (p.1, NFlags.none) else intoNv f 0 false (x.mul x)
  let ys := if op = 3 then xs.map sq else xs.map (fun x => (x, NFlags.none))
  match ys with
  | [] => (.fin false 0 0, .none)
  | y :: l =>
    let y0 := intoFmt f 0 false y.1
    l.foldl (fun a x => let r := combine f (if op = 3 then 0 else op) a.1 x.1; (r.1, (a.2.or x.2).or r.2)) (y0.1, y.2.or y0.2)

/-- SOFTMAX over a row of FP32 values with their validity (R524): outputs and status. -/
def softmaxRow (vs : List (Num × Bool)) : List Num × Nat :=
  let u := (vs.filter (·.2)).map (·.1)
  let zero := Num.fin false 0 0
  let r32 := fun (x : Num) => (intoFmt 9 0 false x).1
  let isInf := fun (x : Num) => x == .inf false
  let k := (u.filter isInf).length
  if u.any Num.isNan then (vs.map (fun p => if p.2 then .nan else zero), 3)
  else if 0 < k then
    let q := r32 (Num.div Num.one (Num.ofInt k)).1
    (vs.map (fun p => if p.2 && isInf p.1 then q else zero), 2)
  else if u.all (fun x => x == .inf true) then (vs.map (fun _ => zero), 1)
  else
    let mx := u.foldl Num.max2 (.inf true)
    let y := fun (x : Num) => r32 (Num.exp (r32 (x.add mx.neg).1))
    let s := u.foldl (fun a x => r32 (a.add (y x)).1) zero
    (vs.map (fun p => if p.2 then r32 (Num.div (y p.1) s).1 else zero), 0)

/-- A row as it passes the stages: format, values, flags, words and bytes written, statuses. -/
structure RowSt where
  vf    : Nat
  vals  : List Num
  flags : NFlags
  outs  : List (Nat × List Byte)
  stats : List Nat

/-- Bit `col` of row `row` of a bitmap at 64-byte unit `addr` (R507). -/
def bitmapBit (rd : Nat → Nat) (addr cols row col : Nat) : Bool :=
  (rd (64 * addr + row * (cols / 8) + col / 8)).testBit (col % 8)

/-- One stage over one row. -/
def rowStage (rd : Nat → Nat) (cols row : Nat) (r : RowSt) (g : Stage) : RowSt :=
  let idx := r.vals.zip (List.range cols)
  let f := if r.vf ≤ 4 then 4 else 9
  match g.kind with
  | 7 =>
    let flag := fun j => g.func.testBit 3 && bitmapBit rd (g.imm % 4096) cols row j
    let t := scanRow f (g.func % 4) (g.func.testBit 2) true (scanId f (g.func % 4)) (idx.map (fun p => (p.1, flag p.2)))
    { r with vf := f, vals := t.1, flags := r.flags.or t.2 }
  | 8 =>
    let t := reduceRow f (g.func % 4) r.vals
    let w := (encodeElem f 0 false t.1).1
    { r with flags := r.flags.or t.2, outs := r.outs ++ [(64 * (g.imm % 4096) + 4 * row, leBytes w 4)] }
  | 9 =>
    let ok := fun j => match g.func with
      | 0 => true
      | 1 => bitmapBit rd (g.imm % 8192) cols row j
      | _ => decide (j < g.imm % 8192)
    let t := softmaxRow (idx.map (fun p => ((intoFmt 9 0 false p.1).1, ok p.2)))
    { r with vf := 9, vals := t.1, outs := r.outs ++ [(64 * (g.imm / 2 ^ 20) + row, [BitVec.ofNat 8 t.2])],
             stats := r.stats ++ [t.2] }
  | _ =>
    let ys := idx.map (fun p => elemStage r.vf { rd := rd, row := row, col := p.2 } g p.1)
    { r with vf := outFmt r.vf g, vals := ys.map (·.1), flags := ys.foldl (fun a y => a.or y.2) r.flags }

/-- The source values of a row, with the flags of their expansion (R508). -/
def srcRow (s : State) (n : Nat) (w : BitVec 128) (row : Nat) : List Num × NFlags :=
  let rd := fun a => (s.byte (tileBase n + a)).toNat
  let base := 64 * (iF w 35 24 + row * iF w 59 48)
  let sf := vcSf w
  if vcSrcAcc w then
    ((List.range (vcCols w)).map (fun j =>
      let b := (s.accWord n (accIndex (iF w 27 24) (vcCols w) row j)).toNat
      if sf = 4 then i32 b else fp b), .none)
  else if isBlock sf then
    let ys := (List.range (vcCols w)).map (fun j =>
      let sc := rd (64 * iF w 107 96 + row * (vcCols w / 32) + j / 32)
      expandBlock sf sc (elemAt (blockData sf) rd base j))
    (ys.map (fun y => fp y.1), ys.foldl (fun a y => a.or y.2) .none)
  else ((List.range (vcCols w)).map (fun j => decodeElem sf (elemAt sf rd base j)), .none)

/-- Pack elements of a format into bytes (R420). -/
def packElems (code : Nat) (es : List Nat) : List Byte :=
  if fmtBits code = 4 then
    (chunk 2 es.length es).map (fun p => BitVec.ofNat 8 (p.getD 0 0 % 16 + 16 * (p.getD 1 0 % 16)))
  else es.flatMap (fun e => leBytes e (fmtBits code / 8))

/-- A finished row leaves (R509): tile bytes or accumulator words, and flags. -/
def dstRow (w : BitVec 128) (row : Nat) (r : RowSt) : List (Nat × List Byte) × List (Nat × Word) × NFlags :=
  let df := vcDf w
  let base := 64 * (iF w 47 36 + row * iF w 71 60)
  if isBlock df then
    let xs := r.vals.map (fun x => (intoFmt 9 0 false x).1)
    let bs := (chunk 32 xs.length xs).map (encodeBlock df (iF w 93 92))
    ([(base, packElems (blockData df) (bs.flatMap (·.2.1))),
      (64 * iF w 107 96 + row * (vcCols w / 32), bs.map (fun b => BitVec.ofNat 8 b.1))], [],
     bs.foldl (fun a b => a.or b.2.2) .none)
  else
    let es := r.vals.map (encodeElem df (iF w 93 92) (iB w 94))
    let fl := es.foldl (fun a e => a.or e.2) NFlags.none
    if vcDstAcc w then
      ([], (es.zip (List.range (vcCols w))).map (fun p => (accIndex (iF w 39 36) (vcCols w) row p.2, wd p.1.1)), fl)
    else ([(base, packElems df (es.map (·.1)))], [], fl)

/-- A row of a VCHAIN after its stages `gs`. -/
def rowAfter (s : State) (n : Nat) (w : BitVec 128) (row : Nat) (gs : List Stage) : RowSt :=
  let src := srcRow s n w row
  let rd := fun a => (s.byte (tileBase n + a)).toNat
  gs.foldl (rowStage rd (vcCols w) row) { vf := inFmt (vcSf w), vals := src.1, flags := src.2, outs := [], stats := [] }

/-- What a VCHAIN does to one row of the state it starts from. -/
def vcRow (s : State) (n : Nat) (w : BitVec 128) (row : Nat) : RowSt × (List (Nat × List Byte) × List (Nat × Word) × NFlags) :=
  let r := rowAfter s n w row (vcStages (s.vtWord n) w)
  (r, dstRow w row r)

/-- The flags of all rows of a chain. -/
def vcFlags (rows : List (RowSt × (List (Nat × List Byte) × List (Nat × Word) × NFlags))) : NFlags :=
  rows.foldl (fun a r => (a.or r.1.flags).or r.2.2.2) NFlags.none

/-- The whole chain (R527): rows in order, then flags and the softmax counts (R537). -/
def vcEffect (n : Nat) (w : BitVec 128) (s : State) : State :=
  let rows := (List.range (vcRows w)).map (vcRow s n w)
  let put := fun (t : State) (p : Nat × List Byte) => t.storeBytes (tileBase n + p.1) p.2
  let s1 := rows.foldl (fun t r => r.2.1.foldl put (r.1.outs.foldl put t)) s
  let s2 := s1.putAcc n (rows.flatMap (fun r => r.2.2.1))
  let s3 := ncFlags n 2 (vcFlags rows) s2
  let st := (rows.flatMap (fun r => r.1.stats)).filter (· != 0)
  let m := (if st.contains 1 then 1 else 0) + (if st.contains 2 then 2 else 0) + (if st.contains 3 then 4 else 0)
  (s3.orReg (.nc n) 0x88 (wd m)).count (.nc n) 0x8C st.length

/-- Rows of a tile side as ranges. -/
def sideRows (w : BitVec 128) (addr ld f : Nat) : List (Nat × Nat) :=
  (List.range (vcRows w)).map (fun i => (64 * (addr + i * ld), vcRowBytes w f))

/-- The accesses of a VCHAIN (R452). -/
def vcSpans (n : Nat) (vt : Nat → BitVec 64) (w : BitVec 128) : List Span × List Span :=
  let gs := (vcStages vt w).map (stageExts w)
  let sc := fun f => if isBlock f then [scaleExt w] else []
  let dst := if vcDstAcc w then [] else sideRows w (iF w 47 36) (iF w 71 60) (vcDf w) ++ sc (vcDf w)
  let dstAcc := if vcDstAcc w then [(iF w 39 36 * 1024, vcBlocks w * 1024)] else []
  let outs := (dst ++ gs.flatMap (·.2)).map (fun r => SpanOut.mem (tileBase n + r.1) r.2)
    ++ dstAcc.map (fun r => SpanOut.acc r.1 r.2)
  let rd := if vcSrcAcc w then spansOf 1 false true outs [(iF w 27 24 * 1024, vcBlocks w * 1024)]
    else spansOf 1 false false outs (sideRows w (iF w 35 24) (iF w 59 48) (vcSf w) ++ sc (vcSf w))
  (rd ++ spansOf 1 false false outs (gs.flatMap (·.1)),
   spansOf 1 true true [] dstAcc ++ spansOf 1 true false [] (dst ++ gs.flatMap (·.2)))

/-! ### Residues in the lanes (R529-R531) -/

/-- The integer of a value of an integer format. -/
def Num.toInt (x : Num) : Int :=
  match x with
  | .fin s m e => sgn s (m * 2 ^ e.toNat)
  | _ => 0

/-- The predicted residue of a product in a value format. -/
def productCheck (vf : Nat) (x y : Num) : Option Nat :=
  if vf ≤ 4 then some (res7 x.toInt * res7 y.toInt % 7) else sigProduct x y

/-- The predicted residue of an integer sum in format `f`, unless it clamps. -/
def sumCheck (f : Nat) (x y : Num) : Option Nat :=
  let v := x.toInt + y.toInt
  if 4 < f ∨ v < (intRange f).1 ∨ (intRange f).2 < v then none else some ((res7 x.toInt + res7 y.toInt) % 7)

/-- The factor of SCALE, and of LEAKY below zero (R517). -/
def scaleFactor (vf : Nat) (p : Place) (g : Stage) : Num :=
  if vf ≤ 4 then Num.ofInt (signed 16 (param p g % 65536)) else fp (param p g)

/-- The predicted residue of what stage `g` does to the element at `p` of a row, where the lanes check it (R529, R530). -/
def stageCheck (cols : Nat) (p : Place) (r : RowSt) (g : Stage) : Option Nat :=
  let x := r.vals.getD p.col (.fin false 0 0)
  let vf := r.vf
  let t := decodeElem g.fmt (elemAt g.fmt p.rd (64 * (g.imm % 4096 + p.row * ((g.imm / 4096) % 4096))) p.col)
  match g.kind with
  | 2 => productCheck vf x (scaleFactor vf p g)
  | 3 => sumCheck vf x (i32 (param p g))
  | 4 => if g.func = 2 then productCheck vf x t else if g.func = 0 then sumCheck vf x t
         else if g.func = 1 then sumCheck vf x t.neg else none
  | 5 => if g.func = 1 ∧ x.neg? = true then productCheck vf x (scaleFactor vf p { g with vec := g.vec && decide (vf ≤ 4) })
         else if g.func = 4 then productCheck vf (intoNv 9 0 false (sigmoidDiv x).1).1 x else none
  | 7 =>
    let flag := fun j => g.func.testBit 3 && bitmapBit p.rd (g.imm % 4096) cols p.row j
    let acc := (scanRow 4 0 true true (scanId 4 0) ((r.vals.zip (List.range cols)).map (fun q => (q.1, flag q.2)))).1
    if g.func % 4 = 0 ∧ vf ≤ 4 then sumCheck 4 (acc.getD p.col (.fin false 0 0)) x else none
  | 8 => if g.func = 3 then productCheck vf x x
         else if g.func = 0 ∧ vf ≤ 4 ∧ p.col ≠ 0 then sumCheck 4 (reduceRow 4 0 (r.vals.take p.col)).1 x else none
  | _ => none

/-- The predicted residue of what a lane does at a step of a chain; none where the lanes check nothing there. A chain with
SOFTMAX runs three passes, and the stages after it only in the third (R527, R528). -/
def laneCheck (s : State) (n : Nat) (w : BitVec 128) (x : LaneFault) : Option Nat :=
  let gs := vcStages (s.vtWord n) w
  let soft := gs.findIdx (fun g => g.kind == 9)
  let wide := (vcCols w + 63) / 64
  let one := vcRows w * wide
  let passes := if soft < gs.length then 3 else 1
  let row := x.step % one / wide
  let col := 64 * (x.step % wide) + x.lane
  if passes * one ≤ x.step ∨ 64 ≤ x.lane ∨ vcCols w ≤ col ∨ (soft < x.stage ∧ x.step < (passes - 1) * one) then none
  else
    match gs[x.stage]? with
    | none => none
    | some g =>
      stageCheck (vcCols w) { rd := fun a => (s.byte (tileBase n + a)).toNat, row := row, col := col }
        (rowAfter s n w row (gs.take x.stage)) g

/-- A lane mismatch as it is recorded (R531). -/
def laneRecord (x : LaneFault) (expected observed : Nat) : Residue :=
  { pass := x.stage, chunk := x.step, row := x.lane % 32, col := x.lane / 32, expected := expected, observed := observed,
    kind := 3 }

/-- The mismatch that a residue of a lane makes. -/
def laneResidue (s : State) (n : Nat) (w : BitVec 128) (x : LaneFault) : Option Residue :=
  match laneCheck s n w x with
  | none => none
  | some e => if x.observed.val = e then none else some (laneRecord x e x.observed.val)

/-- A mismatch in a VCHAIN of a collective's program, whose words and operands are not published (R634): the predicted
residue is a free value (log entry 7). -/
def collResidue (s : State) (x : LaneFault) : Residue :=
  laneRecord x ((x.observed.val + 1 + Config.freeNat s.seq 28 % 6) % 7) x.observed.val

/-- VCHAIN on core `n`: the chain, or the mismatches that end it before its row counts (R527, R531, R537). -/
def vchainAt (n : Nat) (faults : List LaneFault) (s : State) : State :=
  if (s.core n).coll ∧ s.ncPhase n = 1 then residues n (s.ncPc n) (faults.map (fun x => (collResidue s x, false, false))) s
  else if !issues s n 2 then s
  else
    let w := s.ncWord n
    let sp := vcSpans n (s.vtWord n) w
    let t := hazards n sp.1 s
    let mis := faults.filterMap (laneResidue t n w)
    let body := fun u => if mis.isEmpty then vcEffect n w u
      else ncFlags n 2 (someFlags s (vcFlags ((List.range (vcRows w)).map (vcRow u n w)))) u
    advance n (residues n (s.ncPc n) (mis.map (fun r => (r, false, false))) (withSpans n sp.1 sp.2 body s))

end Sys2Proof.Machine
end

