-- ==== Sys2Proof/Machine/XfeRun.lean ====
section
/-! DEFINITION. Transfer engine (07): fetching, moving, completing, errors, retirement, and the channel controls. -/

namespace Sys2Proof.Machine

/-! ### Halts and retirement -/

/-- A channel halts with a cause bit (R354): claims of a standalone descriptor are returned, a released one waits for
RESUME or SKIP. -/
def haltChan (c bit : Nat) (s : State) : State :=
  let again := match (s.chan c).active with
    | some a => if a.released then [(a.words, none)] else []
    | none => []
  let s1 := dropActive c s
  let s2 := putChan c { s1.chan c with released := again ++ (s1.chan c).released, pausing := false } s1
  ((s2.setXcStat c 5 true).setXcStat c bit true).xcIrq c 12

/-- What a halt that is not a retirement does to the command of a bound channel (R355). -/
def killBound (c code : Nat) (a : Active) (s : State) : State :=
  if a.released ∨ 3 < s.xcBind c then s else killCommand (s.xcBind c) 7 code s

/-- An address fault (R342): of the active descriptor, or of the fetch of one (R321, R223). -/
def addressFault (c a : Nat) (s : State) : State :=
  let k := s.xcBind c
  let s1 := (s.setXc c 0x38 (wd a)).setXc c 0x1C (setFld (s.xc c 0x1C) 23 16 (a >>> 32))
  match (s.chan c).active with
  | some x => killBound c 0x1136 x (haltChan c 9 (xcRecord c 0x1136 clsConfig (opOf s x) 0 s1))
  | none =>
    let op := if k < 4 then s.getN (.csq k) 0x50 else 0
    let s2 := haltChan c 9 (xcRecord c 0x1136 clsConfig op 0 s1)
    if k < 4 then killCommand k 7 0x1136 s2 else s2

/-- A channel retires (R348, R349). -/
def retireChan (c code b1 : Nat) (s : State) : State :=
  if s.xcRetired c then s
  else
    let op := ((s.chan c).active.map (opOf s)).getD 0
    let k := s.xcBind c
    let s1 := { s with check := { s.check with retCh := s.check.retCh ||| BitVec.ofNat 32 (2 ^ c) } }
    let s2 := dropReleased c (dropActive c s1)
    let s3 := putChan c { s2.chan c with pausing := false } s2
    let s4 := xcRecord c code clsPermanent op b1 ((s3.setXcStat c 5 true).setXcStat c 6 true)
    let s5 := ((s4.xcIrq c 20).irq .xfe 9).setB .xfe 0x40 c false
    let four := (List.range 4).all (fun j => s5.xcRetired (4 * (c / 4) + j))
    let s6 := if four then abandon (fun m => decide (0x80 + 4 * (c / 4) ≤ m ∧ m < 0x84 + 4 * (c / 4)))
                (s5.retirePage (chanBlk c)) else s5
    if k < 4 then retireAt k code s6 else s6

/-! ### Access errors (R340, R343, R344) -/

/-- A channel that issues: enabled, not paused, halted, stopped or retired. -/
def State.xcRuns (s : State) (c : Nat) : Bool :=
  s.xcStat c 0 && !s.xcStat c 4 && !s.xcStat c 5 && !s.xcStat c 6 && !s.xcStat c 7

/-- An access error in DEMAND mode after `fails` failing attempts (R343, R344); `b1` is 1 for a timer expiry (R364). -/
def accessErr (c fails b1 : Nat) (s : State) : State :=
  match (s.chan c).active with
  | none => s
  | some a =>
    if !s.xcRuns c then s
    else
      let retry := fld (s.xc c 0) 6 4
      if retry < fails then retireChan c 0x1131 b1 (s.setXc c 0x2C (setFld (s.xc c 0x2C) 3 0 retry))
      else
        let x := s.chan c
        let win := within s.dt oneSecond x.faults ++ [s.dt]
        let s1 := s.setChan c { x with faults := win }
        let s2 := s1.setXc c 0x2C (setFld (setFld (s1.xc c 0x2C) 3 0 fails) 11 8 (min win.length 15))
        if 4 ≤ win.length then retireChan c 0x113A b1 s2 else xcRecord c 0x1130 clsTransient (opOf s a) b1 s2

/-- An access of a channel fails for good: an error response that no rule makes an address fault has used every reissue,
each turned away like the first (R312, R340, R836, R343; log entry 99); any other is an address fault (R342). -/
def accFault (c a : Nat) (write : Bool) (o : Acc) (s : State) : State :=
  let g : Agent := .cpu (.channel (Fin.ofNat 32 c))
  if o.retried then
    let n := fld (s.xc c 0) 6 4 + 1
    accessErr c n 0 ((List.range n).foldl (fun t _ => accFail g a write o t) s)
  else addressFault c a (accFail g a write o s)

/-! ### Moving elements (R324-R326, R330) -/

/-- The master of a channel. -/
def chanAgent (c : Nat) : Agent := .cpu (.channel (Fin.ofNat 32 c))

/-- The index of the first byte of a range that fails, and its outcome; a handle side never fails. -/
def sideFail (s : State) (g : Agent) (handle : Bool) (a n : Nat) (write : Bool) : Option (Nat × Acc) :=
  if handle then none else (firstFail s g a n write).map (fun p => (p.1 - a, p.2))

/-- A descriptor that works for a command writes tile bytes of a core: they are the command's (R481, R568). -/
def noteTile (a : Active) (dst n : Nat) (s : State) : State :=
  match windowOf dst with
  | some (.tile m, lo, _) =>
    if a.agent = 0x10 + clusterOf m then s.setCore m { s.core m with tbWrote := (dst - lo, n) :: (s.core m).tbWrote } else s
  | _ => s

/-- Write `n` bytes of a row; source and destination that overlap leave the bytes undefined (log entry 14). -/
def moveRow (c : Nat) (a : Active) (src dst n : Nat) (s : State) : State :=
  let g := chanAgent c
  let s0 := if dSrcH a.words then s else ddrReach g src n s
  let bs := s0.bytes src n
  let s1 := noteTile a dst n s0
  let s2 := if dDstH a.words then s1.storeBytes dst bs else putByAddr g dst bs (ddrReach g dst n s1)
  let s3 := if src ≠ dst ∧ overlaps src n dst n = true then s2.undef dst n else s2
  let x := s3.chan c
  showPos c (s3.setChan c { x with active := some { a with written := a.written + n }, progress := s.dt })

/-- Move at most `m` bytes of the row that holds the next element; false after a fault. -/
def movePiece (c m : Nat) (s : State) : State × Bool :=
  match (s.chan c).active with
  | none => (s, false)
  | some a =>
    let ws := a.words
    let k := a.written
    let n := min m (dLen ws - k % dLen ws)
    let g := chanAgent c
    let list := dSrc ws + 8 * (k / dLen ws)
    let lf := if dDim ws = 3 then firstFail s g list 8 false else none
    match lf with
    | some (x, o) => (accFault c x false o s, false)
    | none =>
      match srcAddr s ws k with
      | none => (addressFault c (s.load list 8 % 2 ^ 40) s, false)
      | some src =>
        let dst := dstAddr s ws k
        let fs := sideFail s g (dSrcH ws) src n false
        let fd := sideFail s g (dDstH ws) dst n true
        let p := min ((fs.map (·.1)).getD n) ((fd.map (·.1)).getD n)
        let s1 := if p = 0 then s else moveRow c a src dst p s
        match fs, fd with
        | none, none => (s1, true)
        | some (i, o), none => (accFault c (src + i) false o s1, false)
        | none, some (j, o) => (accFault c (dst + j) true o s1, false)
        | some (i, o), some (j, q) =>
          if i ≤ j then (accFault c (src + i) false o s1, false) else (accFault c (dst + j) true q s1, false)

/-- Move up to `m` further elements, row by row. -/
def moveElems (c : Nat) : Nat → Nat → State → State
  | 0, _, s => s
  | fuel + 1, m, s =>
    match (s.chan c).active with
    | none => s
    | some a =>
      let left := min m (dTotal a.words - a.written)
      if left = 0 then s
      else
        let k := min left (dLen a.words - a.written % dLen a.words)
        let r := movePiece c left s
        if r.2 then moveElems c fuel (left - k) r.1 else r.1

/-- `count` further elements land (R330); while a PAUSE drains, none whose read it did not find issued (R350). -/
def chanMove (c count : Nat) (s : State) : State :=
  let x := s.chan c
  match x.active with
  | some a =>
    let n := if x.pausing then min count (x.upTo - a.written) else count
    if s.xcRuns c then moveElems c (dRows a.words + 1) n s else s
  | none => s

/-- The last write of the active descriptor has landed (R331). -/
def completeDue (c : Nat) (s : State) : State :=
  match (s.chan c).active with
  | none => s
  | some b =>
    if !s.xcRuns c ∨ b.written ≠ dTotal b.words then s
    else
      let s2 := if b.agent = xcAgent c then publishClaims (xcAgent c) none s else s
      let s3 := (s2.setXc c 0x34 (wd (dTag b.words))).setXc c 0x28 (s2.xc c 0x28 + 1)
      let s4 := if dIrq b.words then s3.xcIrq c 8 else s3
      let s5 := putChan c { s4.chan c with active := none } s4
      let s6 := hidePos c (some 0) (if b.released then s5 else takeHead c s5)
      releasedEnd b.loop true s6

/-- DESCRIPTOR_COMPLETE: what is left of the descriptor lands and it completes (R331). -/
def chanComplete (c : Nat) (s : State) : State :=
  match (s.chan c).active with
  | none => s
  | some a => if s.xcRuns c then completeDue c (chanMove c (dTotal a.words - a.written) s) else s

/-! ### Fetching (R327-R329, R334-R338, R356) -/

/-- A descriptor refused (R328, R392). -/
def descBad (c : Nat) (detail ofs : Nat) (s : State) : State :=
  let k := s.xcBind c
  let op := if k < 4 then s.getN (.csq k) 0x50 else 0
  let s1 := s.setXc c 0x10 (wd (0x1100 + detail + ofs * 0x10000))
  let s2 := if detail = 0xC then ringBad c (s.rgHead c) s1 else s1
  let s3 := xcRecord c 0x1135 (if detail = 0xC then clsTransient else clsConfig) op 0 s2
  let s4 := haltChan c 8 s3
  if k < 4 then killCommand k 7 0x1135 s4 else s4

/-- The handle uses of a descriptor, the source first (R329). -/
def descUses (c agent : Nat) (ws : List Word) (op : Nat) (s : State) : State × Bool :=
  let r := if dSrcH ws then
      handleUse agent (0x80 + c) (dF ws 1 31 20) (dF ws 3 7 0) (dRel ws).toNat (dF ws 1 19 0) (dSrcExt ws) op s
    else (s, true)
  if r.2 && dDstH ws then
    handleUse agent (0x80 + c) (dF ws 2 31 20) (dF ws 3 15 8) 2 (dF ws 2 19 0) (dDstExt ws) op r.1
  else r

/-- A checked descriptor starts: its uses, then it is active; a trap halts the channel or kills the command. -/
def startDesc (c : Nat) (a : Active) (s : State) : State :=
  let r := descUses c a.agent a.words (opOf s a) s
  let s1 := showPos c (putChan c { r.1.chan c with active := some a, progress := s.dt } r.1)
  if r.2 then s1
  else if a.agent = xcAgent c then haltChan c 10 s1
  else slotOrderKill (a.agent - 0x10) s1

/-- An outbound descriptor of a bound channel (R335). -/
def outbound (ws : List Word) (k : Nat) : Bool :=
  !dDstH ws &&
    (match windowOf (dDst ws) with
     | some (.tile n, lo, _) => !(decide (n < 16) && clusterOf n == k && decide (dDst ws < lo + tileSize))
     | _ => true)

/-- An outbound descriptor enters the hold queue, or overflows it (R335, R336). -/
def holdDesc (c k : Nat) (ws : List Word) (s : State) : State :=
  let x := s.chan c
  if x.hold.length < 16 then putChan c { x with hold := x.hold ++ [ws] } (takeHead c s)
  else killCommand k 8 0x1137 (xcRecord c 0x1137 clsConfig (s.getN (.csq k) 0x50) 0 s)

/-- A descriptor that was read is checked, and starts or is held (R327, R334, R335). -/
def takeDesc (c : Nat) (bs : List Byte) (s : State) : State :=
  let k := s.xcBind c
  match descCheck bs with
  | some (d, o) => descBad c d o s
  | none =>
    let ws := descWords bs
    if k < 4 ∧ outbound ws k = true then holdDesc c k ws s
    else
      startDesc c { words := ws, written := 0, agent := if k < 4 then 0x10 + k else xcAgent c,
                    released := false, loop := none } s

/-- The descriptor at the head of the ring (R318, R334): its fetch is an access of the channel like any other (R222, R223,
R321). -/
def fetchRing (c : Nat) (s : State) : State :=
  let k := s.xcBind c
  if !s.rgOn c ∨ s.rgOcc c = 0 ∨ (k < 4 ∧ s.csqPhase k ≠ 1) then s
  else
    let g := chanAgent c
    let a := s.rgSlot c (s.rgHead c)
    match firstFail s g a (s.rgEsize c) false with
    | some (x, o) => accFault c x false o s
    | none => let r := ddrReach g a (s.rgEsize c) s; takeDesc c (r.bytes a (s.rgEsize c)) r

/-- A channel takes its next descriptor: released ones first (R337); none once a sleep entry is accepted (R187). -/
def descFetch (c : Nat) (s : State) : State :=
  let x := s.chan c
  if !s.xcRuns c ∨ x.pausing ∨ x.active.isSome ∨ s.power.goDt.isSome ∨ s.power.pstate ≠ .run then s
  else
    match x.released with
    | (ws, l) :: rest =>
      startDesc c { words := ws, written := 0, agent := xcAgent c, released := true, loop := l }
        (putChan c { x with released := rest } s)
    | [] => fetchRing c s

/-- The publish of a command releases the held descriptors of its channels (R337) for the step of loop `l`. -/
def holdRelease (k l : Nat) (s : State) : State :=
  (boundTo s k).foldl (fun t c =>
    let x := t.chan c
    let n := x.hold.length
    (putChan c { x with hold := [], released := x.released ++ x.hold.map (fun w => (w, some l)) } t).updStep l
      (fun p => { p with relOut := p.relOut + n })) s

/-- Descriptors of the command are still active when its commit starts (R338): each raises its record; true when they
killed the command. -/
def activeAtCommit (k : Nat) (s : State) : State × Bool :=
  let l := (boundTo s k).filter (fun c => ((s.chan c).active.map (fun a => a.agent == 0x10 + k)).getD false)
  if l.isEmpty then (s, false)
  else (killCommand k 9 0x1138 (l.foldl (fun t c => xcRecord c 0x1138 clsConfig (s.getN (.csq k) 0x50) 0 t) s), true)

/-! ### Errors (R340-R347) -/

/-- The prefetch unit is retired (R347). -/
def State.pfgRetired (s : State) : Bool := s.check.retPfu

/-- A member writes the elements whose data it holds when its group stops, within what it can hold (R330, R346). -/
def landHeld (c n : Nat) (s : State) : State :=
  match (s.chan c).active with
  | some a => if s.xcMember c then completeDue c (chanMove c (min n (a.ahead - a.written)) s) else s
  | none => s

/-- A group stop (R346), and the retirement of the prefetch unit at the third within 1 s (R347). -/
def groupStop (addr b1 : Nat) (held : List (Fin 32 × Nat)) (s0 : State) : State :=
  let s := held.foldl (fun t p => landHeld p.1.val p.2 t) s0
  let s1 := (List.range 32).foldl (fun t c => if t.xcMember c then t.setXcStat c 7 true else t) s
  let win := within s.dt oneSecond s.pfg ++ [s.dt]
  let cnt := (s.getF .xfe 0x4C 31 16 + 1) % 0x10000
  let s2 := { s1 with pfg := win }
  let s3 := (((s2.setB .xfe 0x4C 0 true).setF .xfe 0x4C 11 8 (min win.length 15)).setF .xfe 0x4C 31 16 cnt).irq .xfe 8
  let s4 := (s3.setN .xfe 0x54 addr).setN .xfe 0x58 ((addr >>> 32) % 256)
  let s5 := s4.raise .xfe 0x1133 0 clsTransient (if b1 = 0 then [] else [0, 1])
  if 3 ≤ win.length then
    let s6 := { s5 with check := { s5.check with retPfu := true } }
    ((s6.setB .xfe 0x4C 1 true).irq .xfe 10).raise .xfe 0x1134 0 clsPermanent []
  else s5

/-- The active descriptor's source is one the prefetch unit reads (R345, R347). -/
def prefetched (s : State) (c : Nat) : Bool :=
  s.xcMember c &&
    (match (s.chan c).active with
     | some a => !dSrcH a.words && dDim a.words != 3 && inDramWindow (dSrc a.words) 1
     | none => false)

/-- An access error on a prefetched line (R346). -/
def prefetchErr (addr b1 : Nat) (held : List (Fin 32 × Nat)) (s : State) : State :=
  if (List.range 32).any s.xcMember && !s.pfgRetired && !s.getB .xfe 0x4C 0 then groupStop addr b1 held s else s

/-- An access error of a channel's active descriptor: a read of the prefetch unit stops the group (R346), any other access
follows the rules of DEMAND mode (R347); `b1` is 1 for a timer expiry (R364). -/
def channelErr (c b1 : Nat) (e : AccErr) (s : State) : State :=
  if prefetched s c ∧ e.write = false then
    prefetchErr (((s.chan c).active.bind (fun a => srcAddr s a.words a.written)).getD 0) b1 e.held s
  else accessErr c e.fails b1 s

/-- The progress timer expires (R341, R145): the oldest outstanding access has an access error. -/
def progressExpire (c : Nat) (e : AccErr) (s : State) : State :=
  let x := s.chan c
  if !x.active.isSome ∨ !s.xcRuns c ∨ s.dt < x.progress + (fld (s.xc c 4) 15 0) then s
  else channelErr c 1 e (s.setChan c { x with progress := s.dt })

/-- A write of XFE_PFG_CTRL (R347, R358, R368). -/
def pfgCtrl (v : Word) (s : State) : State :=
  if !bit v 0 then s
  else if !s.getB .xfe 0x4C 0 ∨ s.pfgRetired then s.reject .xfe 0x50 0x1123
  else (List.range 32).foldl (fun t c => t.setXcStat c 7 false) (s.setB .xfe 0x4C 0 false)

/-! ### Controls (R350-R356, R361-R363) -/

/-- The channel check (R361): the first failing rule, as code and page offset. -/
def chanCheck (s : State) (c : Nat) : Option (Nat × Nat) :=
  let o := chanOff c
  let bind := s.xcBind c
  let mode := bit (s.xc c 0) 0
  if s.xcRetired c then some (0x110A, o + 8)
  else if !s.enabled (chanBlk c) then some (0x1108, o + 8)
  else if !s.rgOn c then some (0x1108, o + 8)
  else if 4 ≤ bind ∧ bind ≤ 6 then some (0x1102, o)
  else if bind < 4 ∧ s.owner (chanBlk c) ≠ domSched then some (0x1120, o)
  else if fld (s.xc c 4) 15 0 < 32 then some (0x1101, o + 4)
  else if mode ∧ s.pfgRetired then some (0x1122, o)
  else if mode ∧ 8 ≤ ((List.range 32).filter s.xcMember).length then some (0x1121, o)
  else none

/-- EN written at 1: the channel check starts (R361, R58). -/
def chanEnable (c : Nat) (s : State) : State :=
  if s.xcStat c 0 ∨ s.xcStat c 2 then s else (s.setXcStat c 2 true).setXc c 8 1

/-- The channel check completes (R361, R59, R60). -/
def chanCheckDone (c : Nat) (s : State) : State :=
  if !s.xcStat c 2 then s
  else
    let s0 := s.setXcStat c 2 false
    match chanCheck s c with
    | none => (((s0.setXcStat c 0 true).setXcStat c 1 false).setXc c 0x10 0).setXc c 8 1
    | some (code, off) =>
      refuse (chanBlk c) code off (((s0.setXcStat c 1 true).setXc c 0x10 (wd (code + off * 0x10000))).setXc c 8 0)

/-- The bytes a descriptor writes become undefined (R353). -/
def undefDest (s : State) (ws : List Word) : State :=
  (List.range (dRows ws)).foldl (fun t r => t.undef (dstAddr s ws (r * dLen ws)) (dLen ws)) s

/-- DISABLE (R353, R365). -/
def chanDisable (c : Nat) (s : State) : State :=
  let act := (s.chan c).active
  let op := (act.map (opOf s)).getD 0
  let s1 := match act with
    | some a => hidePos c none (undefDest s a.words)
    | none => s
  let s2 := holdLost c op (dropReleased c (dropActive c s1))
  let s3 := putChan c { s2.chan c with pausing := false } s2
  let s4 := (((s3.setXcStat c 0 false).setXcStat c 2 false).setXcStat c 4 false).setXcStat c 7 false
  let s5 := if s.xcRetired c then s4 else s4.setXcStat c 5 false
  s5.setXc c 8 0

/-- PAUSED is set (R350). -/
def setPaused (c : Nat) (s : State) : State :=
  ((s.setChan c { s.chan c with pausing := false }).setXcStat c 4 true).xcIrq c 16

/-- PAUSE (R350, R351): without an active descriptor, as on a halted channel, PAUSED is set at once. -/
def chanPause (c : Nat) (s : State) : State :=
  let x := s.chan c
  if s.xcStat c 4 ∨ x.pausing then s
  else
    match x.active with
    | some a => s.setChan c { x with pausing := true, upTo := a.ahead }
    | none => setPaused c s

/-- The reads issued before a PAUSE have landed (R350, R352); a descriptor whose last write was among them completes. -/
def pauseDrain (c count : Nat) (s : State) : State :=
  if !(s.chan c).pausing then s
  else
    let s1 := completeDue c (chanMove c count s)
    if (s1.chan c).pausing then setPaused c s1 else s1

/-- RESUME (R350, R354). -/
def chanResume (c : Nat) (s : State) : State := (s.setXcStat c 4 false).setXcStat c 5 false

/-- SKIP (R354): past the halted descriptor; on a paused channel past the active one, which stays paused. -/
def chanSkip (c : Nat) (s : State) : State :=
  let x := s.chan c
  if s.xcStat c 5 then
    let s1 := s.setXcStat c 5 false
    match x.released with
    | (_, none) :: rest => putChan c { x with released := rest } s1
    | _ => if s1.rgOn c ∧ s1.rgOcc c ≠ 0 then takeHead c s1 else s1
  else
    match x.active with
    | some a => let s1 := dropActive c s; if a.released then s1 else takeHead c s1
    | none => if s.rgOn c ∧ s.rgOcc c ≠ 0 then takeHead c s else s

/-- A write of XC_CTRL (R362, R363). -/
def chanCtrl (c : Nat) (v : Word) (s : State) : State :=
  let b := chanBlk c
  let off := chanOff c + 8
  let n := (bit v 1).toNat + (bit v 2).toNat + (bit v 3).toNat + (bit v 4).toNat
  if 1 < n then s.rejectD b off 0x02
  else if (bit v 2 ∨ bit v 4) ∧ s.xcRetired c then s.rejectD b off 0x0A
  else if (bit v 2 ∨ bit v 4) ∧ !s.xcStat c 4 ∧ !s.xcStat c 5 then s.reject b off 0x1123
  else if !bit v 0 ∨ bit v 3 then chanDisable c s
  else
    let s1 := chanEnable c s
    if bit v 1 then chanPause c s1
    else if bit v 2 then chanResume c s1
    else if bit v 4 then chanSkip c s1
    else s1

/-- A write to a register of a channel page that passed judgement. -/
def xchStore (k off : Nat) (v mask : Word) (s : State) : State :=
  if 0x40 ≤ off ∧ off < 0x140 ∧ (off - 0x40) % 0x40 = 8 then chanCtrl (4 * k + (off - 0x40) / 0x40) v s
  else plainStore (.xch k) off v mask s

/-- A channel page stops (R64, R369): its four channels are disabled. -/
def xchPageStop (k : Nat) (s : State) : State := (List.range 4).foldl (fun t j => chanDisable (4 * k + j) t) s

/-- What a read of the XFE page shows (R357, R358). -/
def xfeView (off : Nat) (s : State) : Word :=
  if off = 0x40 then ~~~ s.check.retCh
  else if off = 0x48 then wd (bitsOf 32 s.xcMember)
  else if off = 0x4C then
    setFld (setBit (s.get .xfe off) 1 s.pfgRetired) 11 8 (min (within s.dt oneSecond s.pfg).length 15)
  else s.get .xfe off

/-- What a read of a channel page shows: WIN_FAULTS counts the window that ends now (R360). -/
def xchView (k off : Nat) (s : State) : Word :=
  if 0x40 ≤ off ∧ off < 0x140 ∧ (off - 0x40) % 0x40 = 0x2C then
    let c := 4 * k + (off - 0x40) / 0x40
    setFld (s.xc c 0x2C) 11 8 (min (within s.dt oneSecond (s.chan c).faults).length 15)
  else s.get (.xch k) off

end Sys2Proof.Machine
end

