-- ==== Sys2Proof/Machine/CoreRun.lean ====
section
/-! DEFINITION. Neural cores (10, 13): slot loads and stores, halo exchange, SYNC, COMMIT, the memory windows. -/

namespace Sys2Proof.Machine

/-! ### SLOT_LD and SLOT_ST (R471-R473) -/

/-- The tile rows of a slot instruction. -/
def slotRows (w : BitVec 128) : List (Nat × Nat) :=
  (List.range (iF w 87 76)).map (fun r => (64 * (iF w 59 48 + r * iF w 99 88), 64 * iF w 75 64))

/-- The use length (R472). -/
def slotLen (w : BitVec 128) : Nat := 64 * ((iF w 87 76 - 1) * iF w 113 100 + iF w 75 64)

/-- The handle use of a slot instruction of core `n` (R472). -/
def slotUse (n : Nat) (w : BitVec 128) (s : State) : State × Bool :=
  let kind := if iClass w = 4 then 2 else if iB w 4 then 1 else 0
  handleUse (0x10 + clusterOf n) n (iF w 27 16) (iF w 15 8) kind (iF w 47 28) (slotLen w) (s.getN (.nc n) 0x50) s

/-- The address of row `r` in the slot. -/
def slotRowAddr (s : State) (w : BitVec 128) (r : Nat) : Nat :=
  s.slotAddr (iF w 27 16) (iF w 47 28) + 64 * r * iF w 113 100

/-- Rows move in ascending order (R473). -/
def slotMove (n : Nat) (w : BitVec 128) (s : State) : State :=
  ((slotRows w).zip (List.range (iF w 87 76))).foldl (fun t p =>
    let tile := tileBase n + p.1.1
    let slot := slotRowAddr t w p.2
    if iClass w = 4 then t.storeBytes slot (t.bytes tile p.1.2) else t.storeBytes tile (t.bytes slot p.1.2)) s

/-- SLOT_LD (class 3) or SLOT_ST (class 4) on core `n`; a trap kills the command (R283). -/
def slotAt (n cls : Nat) (s : State) : State :=
  if !issues s n cls then s
  else
    let w := s.ncWord n
    let r := slotUse n w s
    if r.2 then
      let rows := slotRows w
      let out := (List.range rows.length).map (fun i => SpanOut.mem (slotRowAddr r.1 w i) (64 * iF w 75 64))
      let rd := if cls = 4 then spansOf 2 false false out rows else []
      let wr := if cls = 3 then spansOf 2 true false [] rows else []
      withSpans n rd wr (slotMove n w) r.1 |> advance n
    else slotOrderKill (clusterOf n) (advance n r.1)

/-! ### HALO (R475, R600-R616) -/

/-- SIZE in 64-byte units (R601). -/
def haloSize (w : BitVec 128) : Nat := iF w 35 28 * iF w 47 36
/-- The tile rows of a HALO. -/
def haloRows (w : BitVec 128) : List (Nat × Nat) :=
  (List.range (iF w 47 36)).map (fun r => (64 * (iF w 27 16 + r * iF w 59 48), 64 * iF w 35 28))
/-- DIR. -/
def haloDir (w : BitVec 128) : Nat := iF w 6 5
/-- OP is RECV. -/
def haloRecvs (w : BitVec 128) : Bool := iB w 4
/-- TAG. -/
def haloTag (w : BitVec 128) : Nat := iF w 15 8
/-- The opposite side. -/
def opposite (d : Nat) : Nat := (d + 2) % 4

/-- NC_LINK.DIRECT of a side (R600). -/
def State.direct (s : State) (n d : Nat) : Bool := s.getB (.nc n) 0x90 (8 + d)

/-- The bytes a SEND reads (R601). -/
def haloData (s : State) (n : Nat) (w : BitVec 128) : List Byte :=
  (haloRows w).flatMap (fun r => s.bytes (tileBase n + r.1) r.2)

/-- Bytes written into a RECV's rows in order (R601). -/
def haloPut (n : Nat) (w : BitVec 128) (data : List Byte) (s : State) : State :=
  ((haloRows w).zip (List.range (iF w 47 36))).foldl (fun t p =>
    t.storeBytes (tileBase n + p.1.1) ((data.drop (p.2 * p.1.2)).take p.1.2)) s

/-- A RECV's rows land; what another unit wrote there without a SYNC is undefined (R452). -/
def haloLand (n : Nat) (w : BitVec 128) (data : List Byte) (s : State) : State :=
  let s1 := haloPut n w data s
  (haloRows w).foldl (fun t r =>
    ((s.core n).clash.filter (fun c => overlaps c.1 c.2 r.1 r.2)).foldl (fun u c => undefSpan n false (shared c.1 c.2 r.1 r.2) u) t) s1

/-- HALO_ORDER (R614): 1 MISSING, 2 FULL, 3 DUP, 4 SIZE, 5 MISMATCH. -/
def haloOrder (n idx cause : Nat) (s : State) : State :=
  let w := s.imWord n idx
  let last := idx + haloDir w * 0x1000 + (haloRecvs w).toNat * 0x4000 + cause * 0x10000 + haloTag w * 0x1000000
  let s1 := ((s.setN (.nc n) 0xA4 last).countF (.nc n) 0xA8 15 0 1).irq (.nc n) 12
  killCommand (clusterOf n) 3 0x2050 (ncRecord n 0x2050 clsTransient false (leBytes last 4) s1)

/-- The head of the link unit leaves. -/
def popHlu (n : Nat) (s : State) : State := s.setCore n { s.core n with hlu := (s.core n).hlu.drop 1 }

/-- The landing entries of core `n` from side `d` (R607). -/
def State.landing (s : State) (n d : Nat) : List Landing := (s.core n).land.filter (fun e => e.dir == d)

/-- A STAGED SEND (R608, R609). -/
def stagedSend (n idx p : Nat) (w : BitVec 128) (s : State) : State :=
  let d := opposite (haloDir w)
  let es := s.landing p d
  let used := es.foldl (fun a e => a + e.size) 0
  if es.any (fun e => e.tag == haloTag w) then haloOrder n idx 3 s
  else if 4 ≤ es.length ∨ 128 - used < haloSize w then haloOrder n idx 2 s
  else
    let s1 := withSpans n (spansOf 3 false false [.land p d (haloTag w)] (haloRows w)) [] (fun t =>
      let e : Landing := { dir := d, tag := haloTag w, size := haloSize w, cl := clusterOf n, state := .tentative,
                           data := haloData t n w }
      t.setCore p { t.core p with land := (t.core p).land ++ [e] }) s
    popHlu n (s1.count (.nc n) 0xAC (haloSize w))

/-- A STAGED RECV (R610). -/
def stagedRecv (n idx : Nat) (w : BitVec 128) (s : State) : State :=
  let d := haloDir w
  match (s.landing n d).find? (fun e => e.state == .published && e.tag == haloTag w) with
  | none => haloOrder n idx 1 s
  | some e =>
    if e.size ≠ haloSize w then haloOrder n idx 4 s
    else
      let s1 := withSpans n [] (spansOf 3 true false [] (haloRows w)) (haloLand n w e.data) s
      let c := s1.core n
      popHlu n (s1.setCore n { c with
        land := c.land.map (fun f => if f == e then { f with state := .held, cl := clusterOf n } else f) })

/-- The HALO at the head of core `p`'s link unit, if it points back at `n` and is DIRECT. -/
def headToward (s : State) (p n : Nat) : Option (BitVec 128) :=
  match (s.core p).hlu with
  | [] => none
  | i :: _ =>
    let w := s.imWord p i
    if neighbour p (haloDir w) = some n ∧ s.direct p (haloDir w) = true then some w else none

/-- Two DIRECT HALOs form a pair (R604). -/
def isPair (a b : BitVec 128) : Bool :=
  haloRecvs a != haloRecvs b && haloTag a == haloTag b && haloSize a == haloSize b

/-- What the head of core `n`'s link unit does when it gets there (R604-R610, R616); a DIRECT HALO waits. -/
def hluHead (n : Nat) (s : State) : State × Bool :=
  match (s.core n).hlu with
  | [] => (s, false)
  | idx :: _ =>
    let w := s.imWord n idx
    match neighbour n (haloDir w) with
    | none => (s, false)
    | some p =>
      if !s.inService p ∨ !s.present (.nc p) then (killCommand (clusterOf n) 12 0 s, false)
      else if s.direct n (haloDir w) then
        match headToward s p n with
        | some v => if isPair w v then (s, false) else (haloOrder n idx 5 s, false)
        | none => (s, false)
      else if haloRecvs w then (stagedRecv n idx w s, true)
      else (stagedSend n idx p w s, true)

/-- The link unit runs until its head waits or it is empty. -/
def hluRun (n : Nat) : Nat → State → State
  | 0, s => s
  | fuel + 1, s => let r := hluHead n s; if r.2 then hluRun n fuel r.1 else r.1

/-- A HALO issues to the link unit, whose queue holds eight behind the head (R450); its accesses are open from then on
(R452, R602). -/
def haloAt (n : Nat) (recv : Bool) (s : State) : State :=
  if !issues s n 5 ∨ haloRecvs (s.ncWord n) ≠ recv ∨ 9 ≤ (s.core n).hlu.length then s
  else
    let first := (s.core n).hlu.isEmpty
    let s0 := openSpans n (spansOf 3 recv false [] (haloRows (s.ncWord n))) s
    let s1 := advance n (s0.setCore n { s0.core n with hlu := (s0.core n).hlu ++ [s.ncPc n] })
    if first then hluRun n 1 s1 else s1

/-- The SEND at the head of core `n` meets the RECV at its partner's head (R604). -/
def rendezvous (n : Nat) (s : State) : State :=
  match (s.core n).hlu with
  | [] => s
  | idx :: _ =>
    let w := s.imWord n idx
    match neighbour n (haloDir w) with
    | none => s
    | some p =>
      match headToward s p n with
      | none => s
      | some v =>
        if haloRecvs w ∨ !s.direct n (haloDir w) ∨ !isPair w v ∨ s.ncPhase n ≠ 1 ∨ s.ncPhase p ≠ 1 then s
        else
          let out := (haloRows v).map (fun r => SpanOut.mem (tileBase p + r.1) r.2)
          let s1 := withSpans n (spansOf 3 false false out (haloRows w)) [] (fun t => t) s
          let s2 := withSpans p [] (spansOf 3 true false [] (haloRows v)) (haloLand p v (haloData s1 n w)) s1
          let s3 := popHlu p (popHlu n (s2.count (.nc n) 0xAC (haloSize w)))
          hluRun p 10 (hluRun n 10 s3)

/-! ### SYNC and COMMIT (R478, R479, R569) -/

/-- SYNC on core `n`: it holds until the named units are empty. -/
def syncAt (n : Nat) (s : State) : State :=
  let w := s.ncWord n
  if !issues s n 6 ∨ (iB w 7 ∧ !(s.core n).hlu.isEmpty) then s
  else advance n (closeSpans n (fun u => iB w (4 + u)) s)

/-- The results a collective leaves in core `n`'s tile buffer (R619). -/
def collWrite (n : Nat) (s : State) : State :=
  (s.coll.filter (fun o => o.core == n)).foldl (fun t o =>
    let t1 := t.storeBytes (tileBase n + o.ofs) o.data
    t1.setCore n { t1.core n with tbWrote := (t1.core n).tbWrote ++ [(o.ofs, o.data.length)] }) s

/-- COMMIT on core `n` (R479): the core reports; the first report starts the commit (R569, R338). -/
def commitAt (n : Nat) (s : State) : State :=
  let k := clusterOf n
  let c := s.core n
  if s.ncPhase n ≠ 1 ∨ !(if c.coll then s.coll.any (fun o => o.core == n) else issues s n 7) ∨ !c.hlu.isEmpty then s
  else
    match (s.coresOn k).find? (fun p => p.2 == n) with
    | none => s
    | some (j, _) =>
      let s1 := if c.coll then collWrite n s else s
      let s2 := (closeSpans n (fun _ => true) (advance n s1)).setF (.nc n) 0x48 1 0 2
      let s3 := s2.setB (.csq k) 0x40 (8 + j) true
      if s.csqPhase k = 1 then
        let s4 := (s3.setCseq k { s3.cseq k with commitDt := s.dt }).setF (.csq k) 0x40 1 0 2
        (activeAtCommit k s4).1
      else s3

/-! ### Instruction memory and chain table windows (R495, R535) -/

/-- The 32-bit words of an instruction, word 0 first. -/
def imWords (w : BitVec 128) : List Word := (List.range 4).map (fun i => (w >>> (32 * i)).setWidth 32)

/-- An instruction word from four 32-bit words. -/
def imJoin (l : List Word) : BitVec 128 :=
  BitVec.ofNat 128 ((l.zip (List.range 4)).foldl (fun a p => a + p.1.toNat * 2 ^ (32 * p.2)) 0)

/-- A write of NC_IM_ADDR (R495, R496). -/
def imAddrWrite (n : Nat) (v : Word) (s : State) : State :=
  if s.ncPhase n ≠ 0 then s.reject (.nc n) 0x5C 0x2027
  else (s.setN (.nc n) 0x5C (fld v 10 0)).setCore n { s.core n with imStage := [] }

/-- A write of NC_IM_DATA. -/
def imDataWrite (n : Nat) (v : Word) (s : State) : State :=
  if s.ncPhase n ≠ 0 then s.reject (.nc n) 0x60 0x2027
  else
    let i := s.getF (.nc n) 0x5C 10 0
    let part := s.getF (.nc n) 0x5C 13 12
    let c := s.core n
    let st := (c.imStage ++ List.replicate 4 0).take part ++ [v]
    if part < 3 then (s.setCore n { c with imStage := st }).setF (.nc n) 0x5C 13 12 (part + 1)
    else
      let w := imJoin st
      if iCheckOk w then
        let s1 := s.setCore n { c with imStage := [], imem := c.imem.put i w }
        (s1.setN (.nc n) 0x5C ((i + 1) % 2048)).setB (.nc n) 0x48 5 true
      else
        ((s.setCore n { c with imStage := [] }).setF (.nc n) 0x5C 13 12 0).rejectD (.nc n) 0x60 0x0C

/-- The word a read of NC_IM_DATA shows; memory never written is undefined. -/
def imDataShow (s : State) (n : Nat) : Word :=
  match (s.core n).imem.get? (s.getF (.nc n) 0x5C 10 0) with
  | some w => (imWords w).getD (s.getF (.nc n) 0x5C 13 12) 0
  | none => Config.freeWord s.seq 30

/-- A read of NC_IM_DATA moves on. -/
def imDataRead (n : Nat) (s : State) : State :=
  let part := s.getF (.nc n) 0x5C 13 12
  if part < 3 then s.setF (.nc n) 0x5C 13 12 (part + 1)
  else s.setN (.nc n) 0x5C ((s.getF (.nc n) 0x5C 10 0 + 1) % 2048)

/-- A write of NC_VT_ADDR (R535, R536). -/
def vtAddrWrite (n : Nat) (v : Word) (s : State) : State :=
  if s.ncPhase n ≠ 0 then s.reject (.nc n) 0x80 0x2048 else s.setN (.nc n) 0x80 (fld v 8 0)

/-- A write of NC_VT_DATA. -/
def vtDataWrite (n : Nat) (v : Word) (s : State) : State :=
  if s.ncPhase n ≠ 0 then s.reject (.nc n) 0x84 0x2048
  else
    let i := s.getF (.nc n) 0x80 8 0
    let c := s.core n
    if !s.getB (.nc n) 0x80 12 then (s.setCore n { c with vtStage := v }).setB (.nc n) 0x80 12 true
    else
      let w := BitVec.ofNat 64 (c.vtStage.toNat + v.toNat * 2 ^ 32)
      if stageCheckOk w then (s.setCore n { c with vt := c.vt.put i w }).setN (.nc n) 0x80 ((i + 1) % 512)
      else (s.setB (.nc n) 0x80 12 false).rejectD (.nc n) 0x84 0x0C

/-- The half word a read of NC_VT_DATA shows. -/
def vtDataShow (s : State) (n : Nat) : Word :=
  let w := s.vtWord n (s.getF (.nc n) 0x80 8 0)
  if s.getB (.nc n) 0x80 12 then (w >>> 32).setWidth 32 else w.setWidth 32

/-- A read of NC_VT_DATA moves on. -/
def vtDataRead (n : Nat) (s : State) : State :=
  if s.getB (.nc n) 0x80 12 then s.setN (.nc n) 0x80 ((s.getF (.nc n) 0x80 8 0 + 1) % 512) else s.setB (.nc n) 0x80 12 true

/-- A write of NC_INJ (R492, R494). -/
def ncInjWrite (n : Nat) (v : Word) (s : State) : State :=
  let s1 := s.setB (.nc n) 0x78 2 (bit v 2)
  if bit v 0 then s1.setB (.nc n) 0x78 1 true else s1

/-- A write to a register of an NC page that passed judgement. -/
def ncStore (n off : Nat) (v mask : Word) (s : State) : State :=
  if off = 0x5C then imAddrWrite n v s
  else if off = 0x60 then imDataWrite n v s
  else if off = 0x78 then ncInjWrite n v s
  else if off = 0x80 then vtAddrWrite n v s
  else if off = 0x84 then vtDataWrite n v s
  else plainStore (.nc n) off v mask s

/-- NC_LINK.UP (R637, R641). -/
def linkUp (s : State) (n : Nat) : Nat :=
  bitsOf 4 (fun d => match neighbour n d with
    | some p => s.inService p && s.present (.nc p)
    | none => false)

/-- NC_LAND_d (R641). -/
def landView (s : State) (n d : Nat) : Word :=
  let es := s.landing n d
  let used := es.foldl (fun a e => a + e.size) 0
  wd (128 - used + es.length * 0x100 + (es.any (fun e => e.state == .published)).toNat * 0x800)

/-- NC_QDEPTH: the link unit's queue; MXU, VEC and LSU hold between none and all of their open instructions, at most 9, a
free value (R450, R492, log entry 70). -/
def qDepth (s : State) (n : Nat) : Word :=
  let open' := fun (u : Nat) => ((s.core n).spans.filter (fun x => x.unit == u)).length
  let d := fun (u : Nat) => Config.freeNat s.seq (40 + u) % (min (open' u) 9 + 1)
  wd (d 0 + d 1 * 0x10 + d 2 * 0x100 + (s.core n).hlu.length * 0x1000)

/-- What a read of an NC page shows. -/
def ncView (n off : Nat) (s : State) : Word :=
  if off = 0x44 then s.meshCap
  else if off = 0x48 then setBit (s.get (.nc n) off) 4 (s.check.retCl.getLsbD (clusterOf n))
  else if off = 0x58 then qDepth s n
  else if off = 0x60 then imDataShow s n
  else if off = 0x74 then
    setFld (setFld (s.get (.nc n) off) 3 0 (min (resWindow s n).length 15)) 7 4
      (min (within s.dt (10 * oneSecond) (s.core n).imTimes).length 15)
  else if off = 0x84 then vtDataShow s n
  else if off = 0x90 then setFld (s.get (.nc n) off) 7 4 (linkUp s n)
  else if 0x94 ≤ off ∧ off < 0xA4 then landView s n ((off - 0x94) / 4)
  else s.get (.nc n) off

end Sys2Proof.Machine
end

