-- ==== Sys2Proof/Machine/Collective.lean ====
section
/-! DEFINITION. Collectives (13): the block, its checks, the algorithms and their selection, the results. -/

namespace Sys2Proof.Machine

/-! ### The collective block (R618) -/

/-- KIND: 0 ALL_REDUCE, 1 REDUCE_SCATTER, 2 ALL_GATHER, 3 BROADCAST. -/
def cbKind (b : List Byte) : Nat := leNat (b.take 1) % 4
/-- OP: 0 SUM, 1 MAX, 2 MIN. -/
def cbOp (b : List Byte) : Nat := leNat (b.take 1) / 4 % 4
/-- FMT. -/
def cbFmt (b : List Byte) : Nat := leNat ((b.drop 1).take 1) % 16
/-- ROOT. -/
def cbRoot (b : List Byte) : Nat := leNat ((b.drop 2).take 1)
/-- COLL_ID. -/
def cbId (b : List Byte) : Nat := leNat ((b.drop 4).take 2)
/-- PART. -/
def cbPart (b : List Byte) : Nat := leNat ((b.drop 6).take 2)
/-- BYTES. -/
def cbBytes (b : List Byte) : Nat := leNat ((b.drop 8).take 4)
/-- IN_OFS in bytes. -/
def cbIn (b : List Byte) : Nat := 64 * (leNat ((b.drop 12).take 2) % 4096)
/-- OUT_OFS in bytes. -/
def cbOut (b : List Byte) : Nat := 64 * (leNat ((b.drop 14).take 2) % 4096)
/-- WORK_OFS in bytes. -/
def cbWork (b : List Byte) : Nat := 64 * (leNat ((b.drop 16).take 2) % 4096)

/-- The participants, in rising logical number: the core of rank r is the r-th. -/
def cbRanks (b : List Byte) : List Nat := (List.range 16).filter (fun n => (cbPart b).testBit n)

/-- The logical clusters whose four cores all take part. -/
def cbClusters (b : List Byte) : List Nat :=
  (List.range 4).filter (fun c => (List.range 4).all (fun j => (cbPart b).testBit (localCore c j)))

/-- Input bytes of a participant (R619). -/
def cbInLen (b : List Byte) : Nat := if cbKind b = 2 then cbBytes b / (cbRanks b).length else cbBytes b
/-- Output bytes of a participant (R619). -/
def cbOutLen (b : List Byte) : Nat := if cbKind b = 1 then cbBytes b / (cbRanks b).length else cbBytes b

/-- A set of logical clusters is edge-connected. -/
def edgeConnected (cs : List Nat) : Bool := !(cs == [0, 3] || cs == [1, 2]) && !cs.isEmpty

/-! ### Algorithms (R627-R632) -/

/-- The cycle of a shape that holds logical cluster 0. -/
def ringCycle0 (cs : List Nat) : Option (List Nat) :=
  if cs = [0] then some [0, 1, 5, 4]
  else if cs = [0, 1] then some [0, 1, 2, 3, 7, 6, 5, 4]
  else if cs = [0, 2] then some [0, 1, 5, 9, 13, 12, 8, 4]
  else if cs = [0, 1, 2] then some [0, 1, 2, 3, 7, 6, 5, 9, 13, 12, 8, 4]
  else if cs = [0, 1, 2, 3] then some [0, 1, 2, 3, 7, 6, 5, 9, 10, 11, 15, 14, 13, 12, 8, 4]
  else none

/-- The clusters of a shape, mirrored. -/
def mirrorClusters (mx my : Bool) (cs : List Nat) : List Nat :=
  (List.range 4).filter (fun c => cs.contains ((if mx then 1 - c % 2 else c % 2) + 2 * (if my then 1 - c / 2 else c / 2)))

/-- The RING cycle of a shape (R627). -/
def ringCycle (cs : List Nat) : List Nat :=
  ([(false, false), (true, false), (false, true), (true, true)].findSome? (fun m =>
    (ringCycle0 (mirrorClusters m.1 m.2 cs)).map (fun l => l.map (fun n => physAt m.1 m.2 (n % 4) (n / 4))))).getD []

/-- The largest distance of a coordinate over the participants. -/
def spread (f : Nat → Nat) (root : Nat) (ps : List Nat) : Nat :=
  ps.foldl (fun a p => max a (max (f p) (f root) - min (f p) (f root))) 0

/-- Dx of a root. -/
def treeDx (root : Nat) (ps : List Nat) : Nat := spread (· % 4) root ps
/-- Dy of a root. -/
def treeDy (root : Nat) (ps : List Nat) : Nat := spread (· / 4) root ps

/-- The TREE root (R630). -/
def treeRoot (b : List Byte) : Nat :=
  let ps := cbRanks b
  if cbKind b = 3 then cbRoot b
  else ps.foldl (fun r p => if treeDx p ps + treeDy p ps < treeDx r ps + treeDy r ps then p else r) (ps.headD 0)

/-- TREE is eligible (R630). -/
def treeOk (b : List Byte) : Bool :=
  let x := treeRoot b % 4
  (cbRanks b).all (fun p => (cbRanks b).contains (x + 4 * (p / 4)))

/-- Width and height of a rectangle. -/
def rectOf (cs : List Nat) : Option (Nat × Nat) :=
  if cs.length = 1 then some (2, 2)
  else if cs.length = 4 then some (4, 4)
  else if cs = [0, 1] ∨ cs = [2, 3] then some (4, 2)
  else if cs = [0, 2] ∨ cs = [1, 3] then some (2, 4)
  else none

/-- Distances H/2, …, 1. -/
def halvings (h : Nat) : List Nat := if h = 4 then [2, 1] else if h = 2 then [1] else []

/-- The distances of the MESH steps (R629). -/
def meshSteps (wh : Nat × Nat) : List Nat := halvings wh.2 ++ halvings wh.1

/-- c(d, b). -/
def hopCost (d b : Nat) : Nat := d * (64 + b / 32)

/-- R of R632. -/
def meshCost (wh : Nat × Nat) (n : Nat) : Nat :=
  let ds := meshSteps wh
  ((ds.zip (List.range ds.length)).map (fun p => hopCost p.1 (n / 2 ^ (p.2 + 1)))).foldl (· + ·) 0

/-- T of R632. -/
def treeCost (b : List Byte) : Nat :=
  let r := treeRoot b
  let ps := cbRanks b
  (64 * treeDx r ps + cbBytes b / 32) + (64 * treeDy r ps + cbBytes b / 32)

/-- The estimate of RING. -/
def estRing (b : List Byte) : Nat :=
  let p := (cbRanks b).length
  if cbKind b = 3 then 64 * (p - 1) + cbBytes b / 32
  else (if cbKind b = 0 then 2 else 1) * (p - 1) * hopCost 1 (cbBytes b / p)

/-- The estimate of MESH; none where it is not eligible. -/
def estMesh (b : List Byte) : Option Nat :=
  if cbKind b = 3 then none
  else (rectOf (cbClusters b)).map (fun wh => (if cbKind b = 0 then 2 else 1) * meshCost wh (cbBytes b))

/-- The estimate of TREE; none where it is not eligible. -/
def estTree (b : List Byte) : Option Nat :=
  if !treeOk b then none else some ((if cbKind b = 3 then 1 else 2) * treeCost b)

/-- ALG and its estimate (R632): 1 RING, 2 MESH, 3 TREE; a tie prefers TREE, then MESH. -/
def collSelect (b : List Byte) : Nat × Nat :=
  let r := (1, estRing b)
  let m := match estMesh b with
    | some e => if e ≤ r.2 then (2, e) else r
    | none => r
  match estTree b with
  | some e => if e ≤ m.2 then (3, e) else m
  | none => m

/-- The step count S (R635). -/
def collSteps (b : List Byte) : Nat :=
  let p := (cbRanks b).length
  let r := treeRoot b
  let d := treeDx r (cbRanks b) + treeDy r (cbRanks b)
  let m := ((rectOf (cbClusters b)).map (fun wh => (meshSteps wh).length)).getD 0
  match (collSelect b).1, cbKind b with
  | 1, 0 => 2 * (p - 1)
  | 1, _ => p - 1
  | 2, 0 => 2 * m
  | 2, _ => m
  | _, 3 => d
  | _, _ => 2 * d

/-- The words of a collective's program (R635). -/
def collWords (b : List Byte) : Nat := 1 + 6 * collSteps b

/-- Two collectives share one program (R636). -/
def sameProgram (a b : List Byte) : Bool := a.take 4 == b.take 4 && (a.drop 6).take 12 == (b.drop 6).take 12

/-! ### Checks (R621) -/

/-- The formats a reduction accepts (R620): INT16, INT32, FP16, BF16 and FP32; INT8 and UINT8 for MAX and MIN. -/
def redFmt (op f : Nat) : Bool :=
  f == 3 || f == 4 || f == 7 || f == 8 || f == 9 || (op != 0 && (f == 1 || f == 2))

/-- Rule 2 of R621 on the block alone: reserved fields, OP and FMT. -/
def cbFields (b : List Byte) : Bool :=
  let z := fun (i n : Nat) => leNat ((b.drop i).take n) == 0
  decide (leNat (b.take 1) < 16) && decide (leNat ((b.drop 1).take 1) < 16) && z 3 1 && z 18 13
    && decide (leNat ((b.drop 12).take 2) < 4096) && decide (leNat ((b.drop 14).take 2) < 4096)
    && decide (leNat ((b.drop 16).take 2) < 4096) && (cbKind b == 3 || cbRoot b == 0)
    && (if cbKind b < 2 then decide (cbOp b < 3) && redFmt (cbOp b) (cbFmt b)
        else cbOp b == 0 && decide (cbFmt b ≤ 12))

/-- Rule 3 of R621 on the block alone; `cls` are the logical clusters of the variant. -/
def cbPlace (cls : List Nat) (b : List Byte) : Bool :=
  let cs := cbClusters b
  let p := (cbRanks b).length
  let n := cbBytes b
  let apart := fun (x k y m : Nat) => !overlaps x k y m
  edgeConnected cs && cs.all cls.contains && 4 * cs.length == p
    && decide (64 * p ≤ n) && decide (n ≤ 65536) && n % (64 * p) == 0
    && (cbKind b != 3 || (cbRanks b).contains (cbRoot b))
    && decide (cbIn b + cbInLen b ≤ tileSize) && decide (cbOut b + cbOutLen b ≤ tileSize)
    && decide (cbWork b + n ≤ tileSize)
    && (apart (cbIn b) (cbInLen b) (cbOut b) (cbOutLen b) || ((cbKind b == 0 || cbKind b == 3) && cbIn b == cbOut b))
    && apart (cbIn b) (cbInLen b) (cbWork b) n && apart (cbOut b) (cbOutLen b) (cbWork b) n

/-! ### Results (R619, R620, R628-R631) -/

/-- One combination of two values (R620). -/
def combine1 (op f : Nat) (a b : Num) : Num × NFlags :=
  match op with
  | 0 => intoNv f 0 false (a.add b)
  | 1 => intoFmt f 0 false (a.max2 b)
  | _ => intoFmt f 0 false (a.min2 b)

/-- A partial reduction of one element, with the flags that each logical core's combinations raised (R432). -/
abbrev Partial := Num × List (Nat × NFlags)

/-- One element of every participant's input, by logical core. -/
abbrev Inputs := Nat → Num

/-- Core `at` combines two values, the left one first. -/
def combineAt (op f at_ : Nat) (a b : Partial) : Partial :=
  let r := combine1 op f a.1 b.1
  (r.1, a.2 ++ b.2 ++ [(at_, r.2)])

/-- A chain from the left: each core after the first joins its own value to what reaches it (R628, R631). -/
def chainAt (op f : Nat) (v : Nat → Partial) : List Nat → Option Partial
  | [] => none
  | n :: ns => some (ns.foldl (fun a m => combineAt op f m a (v m)) (v n))

/-- (L + v) + R on core `at_`, with missing terms left out (R631). -/
def meetAt (op f at_ : Nat) (l : Option Partial) (v : Partial) (r : Option Partial) : Partial :=
  let a := match l with
    | some x => combineAt op f at_ x v
    | none => v
  match r with
  | some y => combineAt op f at_ a y
  | none => a

/-- The piece that element `e` of `n` belongs to, cut in `p`. -/
def pieceOf (p n e : Nat) : Nat := e / (n / p)

/-- RING: an element of the piece that the core at cycle position `i` owns (R628). -/
def ringElem (op f : Nat) (cyc : List Nat) (i : Nat) (v : Inputs) : Partial :=
  (chainAt op f (fun n => (v n, [])) ((List.range cyc.length).map (fun j => cyc.getD ((i + 1 + j) % cyc.length) 0))).getD
    (.fin false 0 0, [])

/-- Halving at distances `ds` (R629): entry j joins entry j + d, the lower first, on the one that keeps the element's half;
`keep` tells, by halving, whether the element lies in the upper half, `core` the core of a place on the line. -/
def halve (op f : Nat) (core : Nat → Nat) : List Nat → List Bool → Nat → List Partial → List Partial
  | d :: ds, up :: ups, base, l =>
    let off := if up then d else 0
    halve op f core ds ups (base + off)
      (((l.take d).zip (l.drop d)).zip (List.range d) |>.map (fun p => combineAt op f (core (base + p.2 + off)) p.1.1 p.1.2))
  | _, _, _, l => l

/-- Whether element `e` of `n` lies in the upper half at the halvings from number `i` on. -/
def upperHalves (n e i k : Nat) : List Bool := (List.range k).map (fun j => decide (e * 2 ^ (i + j + 1) / n % 2 = 1))

/-- The place on a line that a core has after its halvings. -/
def keptPlace (ds : List Nat) (ups : List Bool) : Nat := (ds.zip ups).foldl (fun a p => a + (if p.2 then p.1 else 0)) 0

/-- MESH: element `e` of `n` of the reduction of all inputs: along y in every column, then along x (R629). -/
def meshElem (op f : Nat) (ps : List Nat) (wh : Nat × Nat) (n e : Nat) (v : Inputs) : Partial :=
  let x0 := ps.headD 0 % 4
  let y0 := ps.headD 0 / 4
  let dy := halvings wh.2
  let dx := halvings wh.1
  let uy := upperHalves n e 0 dy.length
  let ux := upperHalves n e dy.length dx.length
  let y1 := keptPlace dy uy
  let zero : Partial := (.fin false 0 0, [])
  let cols := (List.range wh.1).map (fun x =>
    (halve op f (fun y => x0 + x + 4 * (y0 + y)) dy uy 0
      ((List.range wh.2).map (fun y => (v (x0 + x + 4 * (y0 + y)), [])))).headD zero)
  (halve op f (fun x => x0 + x + 4 * (y0 + y1)) dx ux 0 cols).headD zero

/-- TREE: the row result of row `y` (R631). -/
def treeRow (op f : Nat) (ps : List Nat) (root y : Nat) (v : Inputs) : Partial :=
  let row := ps.filter (fun p => p / 4 == y)
  let w := fun n => (v n, ([] : List (Nat × NFlags)))
  let at_ := root % 4 + 4 * y
  meetAt op f at_ (chainAt op f w (row.filter (fun p => decide (p % 4 < root % 4)))) (w at_)
    (chainAt op f w ((row.filter (fun p => decide (root % 4 < p % 4))).reverse))

/-- TREE: the reduction of all inputs (R631). -/
def treeElem (op f : Nat) (ps : List Nat) (root : Nat) (v : Inputs) : Partial :=
  let rows := (List.range 4).filter (fun y => ps.any (fun p => p / 4 == y))
  let col := fun y => root % 4 + 4 * y
  let row := fun n => treeRow op f ps root (n / 4) v
  let up := (rows.filter (fun y => decide (y < root / 4))).map col
  let down := ((rows.filter (fun y => decide (root / 4 < y))).reverse).map col
  meetAt op f root (chainAt op f row up) (row root) (chainAt op f row down)

/-- Element `e` of `n` of the reduction, by the selected algorithm. -/
def reduceElem (b : List Byte) (n e : Nat) (v : Inputs) : Partial :=
  let ps := cbRanks b
  let op := cbOp b
  let f := cbFmt b
  match (collSelect b).1 with
  | 1 =>
    let cyc := ringCycle (cbClusters b)
    ringElem op f cyc (cyc.idxOf (ps.getD (pieceOf ps.length n e) 0)) v
  | 2 => meshElem op f ps ((rectOf (cbClusters b)).getD (2, 2)) n e v
  | _ => treeElem op f ps (treeRoot b) v

/-- The elements of a byte vector. -/
def elemsOf (f : Nat) (bs : List Byte) : List Num := (chunk (fmtBits f / 8) bs.length bs).map (fun e => decodeElem f (leNat e))

/-- Element by element, the values of all participants in rank order. -/
def columns : Nat → List (List Num) → List (List Num)
  | 0, _ => []
  | n + 1, l => l.map (·.headD (.fin false 0 0)) :: columns n (l.map (·.drop 1))

/-- The outputs in rank order, and the flags each combination raises on its logical core; `rd` gives each logical core's
input. -/
def collResult (b : List Byte) (rd : Nat → List Byte) : List (List Byte) × List (Nat × NFlags) :=
  let ps := cbRanks b
  let p := ps.length
  if cbKind b = 3 then (ps.map (fun _ => rd (cbRoot b)), [])
  else if cbKind b = 2 then (ps.map (fun _ => ps.flatMap rd), [])
  else
    let f := cbFmt b
    let n := cbBytes b / (fmtBits f / 8)
    let r := ((columns n (ps.map (fun q => elemsOf f (rd q)))).zip (List.range n)).map (fun c =>
      reduceElem b n c.2 (fun q => c.1.getD (ps.idxOf q) (.fin false 0 0)))
    let bytes := r.flatMap (fun x => leBytes (encodeElem f 0 false x.1).1 (fmtBits f / 8))
    let k := bytes.length / p
    (if cbKind b = 0 then ps.map (fun _ => bytes) else (List.range p).map (fun i => (bytes.drop (i * k)).take k),
     r.flatMap (·.2))

/-! ### Running (R623, R634) -/

/-- A core of a collective starts FW3's program, whose words are not published: its place in the program area and the
link units it sends are free values (log entry 7). Its flags are those of the combinations it makes. -/
def collCore (b : List Byte) (n : Nat) (out : List Byte) (fl : NFlags) (s : State) : State :=
  let s1 := s.undef (tileBase n + cbOut b) (cbOutLen b)
  let s2 := s1.undef (tileBase n + cbWork b) (cbBytes b)
  let c := s2.core n
  let s3 := s2.setCore n { c with coll := true,
                                  tbWrote := c.tbWrote ++ [(cbOut b, cbOutLen b), (cbWork b, cbBytes b)] }
  let s4 := s3.setN (.nc n) 0x54 (1792 + Config.freeNat s.seq (100 + n) % 256)
  let s5 := ncFlags n 2 fl (s4.count (.nc n) 0xAC (Config.freeNat s.seq (120 + n)))
  { s5 with coll := s5.coll.filter (fun o => o.core != n) ++ [{ core := n, ofs := cbOut b, data := out }] }

/-- The flags of logical core `n` among those of all combinations. -/
def flagsOf (l : List (Nat × NFlags)) (n : Nat) : NFlags :=
  (l.filter (fun p => p.1 == n)).foldl (fun a p => a.or p.2) NFlags.none

/-- All cores of a group start; inputs are read first. Where a core did not start (R497), no program ends: the others wait
for it until their body timers expire. -/
def collRun (i : Image) (b : List Byte) (s : State) : State :=
  let ps := cbRanks b
  let on := ps.filter (fun n => s.ncPhase (i.core n) == 1)
  if on.length < ps.length then
    on.foldl (fun t n => t.setCore (i.core n) { t.core (i.core n) with coll := true })
      { s with coll := s.coll.filter (fun o => !(on.map i.core).contains o.core) }
  else
    let r := collResult b (fun n => s.bytes (tileBase (i.core n) + cbIn b) (cbInLen b))
    (ps.zip r.1).foldl (fun t q => collCore b (i.core q.1) q.2 (flagsOf r.2 q.1) t) s

end Sys2Proof.Machine
end

