-- ==== Sys2Proof/Machine/Loader.lean ====
section
/-! DEFINITION. Timetable images (12, 14): the checks of a load, placement, relocation, allocation, unloading. -/

namespace Sys2Proof.Machine

/-! ### Reading an image -/

/-- The little-endian number of `n` bytes at an offset of a byte list. -/
def at' (b : List Byte) (ofs n : Nat) : Nat := leNat ((b.drop ofs).take n)

/-- A piece of a byte list. -/
def slice (b : List Byte) (ofs n : Nat) : List Byte := (b.drop ofs).take n

/-- A load ends with a reason and the image byte offset of the failing field (R558). -/
abbrev Check := Except (Nat × Nat) Unit

/-- A condition of a check. -/
def need (ok : Bool) (code ofs : Nat) : Check := if ok then .ok () else .error (code, ofs)

/-- Every element passes, in order. -/
def forAll' (l : List α) (f : α → Check) : Check :=
  match l with
  | [] => .ok ()
  | x :: xs =>
    match f x with
    | .error e => .error e
    | .ok _ => forAll' xs f

/-- Every byte of a range is zero; the first that is not is reported. -/
def zeros (b : List Byte) (base ofs n code : Nat) : Check :=
  forAll' (List.range n) (fun i => need (at' b (ofs + i) 1 == 0) code (base + ofs + i))

/-- Both checks, the first one first. -/
def Check.both (a b : Check) : Check :=
  match a with
  | .ok _ => b
  | .error e => .error e

/-- Checks in order. -/
def allOf : List Check → Check
  | [] => .ok ()
  | c :: cs => Check.both c (allOf cs)

/-! ### Placement (R555, R556, R655) -/

/-- A row of R555: cores, placement number, mirrors, physical clusters. -/
structure Place' where
  cores    : Nat
  num      : Nat
  mirx     : Bool
  miry     : Bool
  clusters : List Nat
deriving DecidableEq, Repr

/-- The table of R555. -/
def placements : List Place' :=
  [ { cores := 16, num := 0, mirx := false, miry := false, clusters := [0, 1, 2, 3] },
    { cores := 12, num := 0, mirx := false, miry := false, clusters := [0, 1, 2] },
    { cores := 12, num := 1, mirx := true, miry := false, clusters := [1, 0, 3] },
    { cores := 12, num := 2, mirx := false, miry := true, clusters := [2, 3, 0] },
    { cores := 12, num := 3, mirx := true, miry := true, clusters := [3, 2, 1] },
    { cores := 8, num := 0, mirx := false, miry := false, clusters := [0, 1] },
    { cores := 8, num := 2, mirx := false, miry := true, clusters := [2, 3] } ]

/-- The four cores of a cluster. -/
def clusterCores (k : Nat) : List Nat := (List.range 16).filter (fun n => clusterOf n == k)

/-- A cluster is available to a new image (R503, R555, R655). -/
def State.available (s : State) (k : Nat) : Bool :=
  !s.check.retCl.getLsbD k && (clusterCores k).all (fun n => s.inService n && s.present (.nc n))
    && !s.images.any (fun i => i.excl && i.clusters.contains k)

/-- The placement taken for a variant (R556). -/
def choosePlace (s : State) (cores want : Nat) : Option Place' :=
  let ok := placements.filter (fun p => p.cores == cores && p.clusters.all s.available)
  match ok.find? (fun p => p.num == want) with
  | some p => some p
  | none => ok.head?

/-! ### The header (R547, R548; checks 1 to 12) -/

/-- The variant directory: cores, entry offset, body offset, length, CRC. -/
def varDir (h : List Byte) : List (Nat × Nat × Nat × Nat × Nat) :=
  (List.range (at' h 6 1)).map (fun i =>
    let o := 32 + 16 * i
    (at' h o 1, o, at' h (o + 4) 4, at' h (o + 8) 4, at' h (o + 12) 4))

/-- The loader interface of FW2 (R906). -/
def State.loaderIface (s : State) : Nat := ((s.fw.comps.get? 2).map (·.iface)).getD 0

/-- Checks 1 to 7 of R558 on the 128 header bytes; `len` is the buffer length. -/
def headerChecks (s : State) (h : List Byte) (len : Nat) : Check :=
  let il := at' h 8 4
  allOf
    [ need (at' h 0 4 == 0x31545848) 0x2220 0, need (decide (128 ≤ il)) 0x2220 8,
      need ((crc32 (h.take 124)).toNat == at' h 124 4) 0x220C 124,
      need (at' h 4 1 == 1) 0x2221 4,
      need (decide (at' h 7 1 < 2)) 0x2202 7, zeros h 0 19 1 0x2202, zeros h 0 22 2 0x2202, zeros h 0 28 4 0x2202,
      zeros h 0 88 36 0x2202,
      need (il == len) 0x2201 8, need (decide (at' h 80 4 + at' h 84 4 ≤ il)) 0x2201 80,
      need (decide (at' h 16 1 ≤ s.part.code / 0x1000000)) 0x220D 16,
      need (decide (s.part.code / 0x1000000 ≤ at' h 17 1)) 0x220D 17,
      need (at' h 18 1 == 1) 0x220D 18, need (at' h 20 1 == s.loaderIface / 256) 0x220D 20,
      need (decide (at' h 21 1 ≤ s.loaderIface % 256)) 0x2222 21 ]

/-- Checks 8 to 11. -/
def dirChecks (s : State) (h : List Byte) : Check :=
  let nv := at' h 6 1
  let vs := varDir h
  allOf
    [ need ((s.image (at' h 12 4)).isNone) 0x2226 12,
      need (decide (1 ≤ nv) && decide (nv ≤ 3)) 0x2202 6,
      forAll' vs (fun v => allOf
        [ need ((v.1 == 16 || v.1 == 12 || v.1 == 8) && (vs.filter (fun u => decide (u.2.1 < v.2.1) && u.1 == v.1)).isEmpty) 0x2202 v.2.1,
          zeros h 0 (v.2.1 + 1) 3 0x2202 ]),
      zeros h 0 (32 + 16 * nv) (16 * (3 - nv)) 0x2202,
      forAll' vs (fun v => need (v.2.2.1 % 64 == 0) 0x2203 (v.2.1 + 4)),
      forAll' vs (fun v => need (decide (v.2.2.1 + v.2.2.2.1 ≤ at' h 8 4) && decide (64 ≤ v.2.2.2.1)) 0x2201 (v.2.1 + 8)) ]

/-- The variant and placement of check 12: the most cores that fit (R556). -/
def chooseVariant (s : State) (h : List Byte) (want : Nat) : Option ((Nat × Nat × Nat × Nat × Nat) × Place') :=
  [16, 12, 8].findSome? (fun c =>
    match (varDir h).find? (fun v => v.1 == c) with
    | some v => (choosePlace s c want).map (fun p => (v, p))
    | none => none)

/-! ### The body (R549-R552) -/

/-- A variant body with what its resource-claim table says. -/
structure Body where
  bytes : List Byte
  /-- Offset of the body in the image. -/
  base  : Nat
  place : Place'

/-- CHAINS. -/
def Body.chains (b : Body) : Nat := at' b.bytes 2 1
/-- XFE_CH. -/
def Body.xfeCh (b : Body) : Nat := at' b.bytes 3 1
/-- IMEM. -/
def Body.imem (b : Body) : Nat := at' b.bytes 4 2
/-- SLOTS. -/
def Body.slots (b : Body) : Nat := at' b.bytes 6 2
/-- ORA_BYTES. -/
def Body.oraBytes (b : Body) : Nat := at' b.bytes 8 4
/-- MC_BYTES. -/
def Body.mcBytes (b : Body) : Nat := at' b.bytes 12 4
/-- NCMD. -/
def Body.ncmd (b : Body) : Nat := at' b.bytes 24 2
/-- NDESC. -/
def Body.ndesc (b : Body) : Nat := at' b.bytes 26 2
/-- CMD_OFS. -/
def Body.cmdOfs (b : Body) : Nat := at' b.bytes 28 4
/-- STREAM_OFS. -/
def Body.streamOfs (b : Body) : Nat := at' b.bytes 32 4
/-- CHAIN_OFS. -/
def Body.chainOfs (b : Body) : Nat := at' b.bytes 36 4
/-- DESC_OFS. -/
def Body.descOfs (b : Body) : Nat := at' b.bytes 40 4
/-- SLOT_OFS. -/
def Body.slotOfs (b : Body) : Nat := at' b.bytes 44 4
/-- Logical clusters of the variant. -/
def Body.lcls (b : Body) : List Nat := List.range b.place.clusters.length
/-- Logical cores of the variant, rising. -/
def Body.lcores (b : Body) : List Nat := (List.range 16).filter (fun n => decide (clusterOf n < b.place.clusters.length))
/-- The physical core of a logical core. -/
def Body.core (b : Body) (n : Nat) : Nat := physAt b.place.mirx b.place.miry (n % 4) (n / 4)
/-- The physical cores. -/
def Body.pcores (b : Body) : List Nat := b.lcores.map b.core
/-- Place of a logical core's stream and chains among the variant's cores. -/
def Body.rank (b : Body) (n : Nat) : Nat := b.lcores.idxOf n
/-- Offset in the body of word `k` of logical core `n`. -/
def Body.wordOfs (b : Body) (n k : Nat) : Nat := b.streamOfs + 16 * (b.rank n * b.imem + k)
/-- Instruction word `k` of logical core `n`. -/
def Body.word (b : Body) (n k : Nat) : BitVec 128 := BitVec.ofNat 128 (at' b.bytes (b.wordOfs n k) 16)
/-- Offset in the body of stage word `k` of logical core `n`. -/
def Body.stageOfs (b : Body) (n k : Nat) : Nat := b.chainOfs + 64 * b.chains * b.rank n + 8 * k
/-- Stage word `k` of logical core `n`; zero past the claim. -/
def Body.stage (b : Body) (n k : Nat) : BitVec 64 :=
  if k < 8 * b.chains then BitVec.ofNat 64 (at' b.bytes (b.stageOfs n k) 8) else 0
/-- Offset of command `i` in the body. -/
def Body.cmdAt (b : Body) (i : Nat) : Nat := b.cmdOfs + 32 * i
/-- A field of command `i`. -/
def Body.cmdF (b : Body) (i ofs n : Nat) : Nat := at' b.bytes (b.cmdAt i + ofs) n
/-- Command `i` is a collective. -/
def Body.coll (b : Body) (i : Nat) : Bool := (b.cmdF i 6 1).testBit 0
/-- Offset of descriptor-list entry `i`. -/
def Body.descAt (b : Body) (i : Nat) : Nat := b.descOfs + 64 * i
/-- Descriptor-list entry `i`. -/
def Body.desc (b : Body) (i : Nat) : List Byte := slice b.bytes (b.descAt i) 64
/-- Offset of slot map entry `i`. -/
def Body.slotAt (b : Body) (i : Nat) : Nat := b.slotOfs + 16 * i
/-- A field of slot map entry `i`. -/
def Body.slotF (b : Body) (i ofs n : Nat) : Nat := at' b.bytes (b.slotAt i + ofs) n
/-- Slot `i` has MODEL. -/
def Body.model (b : Body) (i : Nat) : Bool := (b.slotF i 2 1).testBit 0
/-- 4 KiB units of slot `i`. -/
def Body.units (b : Body) (i : Nat) : Nat := b.slotF i 0 1 + 1
/-- The commands that own a descriptor-list entry. -/
def Body.collDesc (b : Body) (d : Nat) : Option Nat :=
  (List.range b.ncmd).find? (fun i => b.coll i && decide (b.cmdF i 24 2 ≤ d) && decide (d < b.cmdF i 24 2 + b.cmdF i 7 1))

/-- Checks 14 and 15. -/
def rctChecks (b : Body) : Check :=
  let h := b.bytes
  let o := b.base
  let sec := fun (f ofs n : Nat) => allOf
    [need (ofs % 64 == 0) 0x2203 (o + f), need (decide (ofs + n ≤ h.length)) 0x2201 (o + f)]
  let c := b.place.cores
  allOf
    [ need (at' h 0 1 == c) 0x2202 o, need (at' h 1 1 == 2 ^ b.place.clusters.length - 1) 0x2202 (o + 1),
      need (decide (b.chains ≤ 64)) 0x2201 (o + 2), need (decide (b.xfeCh ≤ 8)) 0x2201 (o + 3),
      need (decide (1 ≤ b.imem) && decide (b.imem ≤ 2048)) 0x2201 (o + 4),
      need (decide (1 ≤ b.slots) && decide (b.slots ≤ 4096)) 0x2201 (o + 6),
      need (decide (1 ≤ at' h 16 1) && decide (at' h 16 1 ≤ 16)) 0x2201 (o + 16),
      zeros h o 17 3 0x2202, need (decide (1 ≤ b.ncmd)) 0x2201 (o + 24), zeros h o 48 16 0x2202,
      sec 28 b.cmdOfs (32 * b.ncmd), sec 32 b.streamOfs (16 * b.imem * c), sec 36 b.chainOfs (64 * b.chains * c),
      sec 40 b.descOfs (64 * b.ndesc), sec 44 b.slotOfs (16 * b.slots) ]

/-! ### Allocation (R560, R597, R683; check 16) -/

/-- The lowest start of `n` free places below `cap`. -/
def firstFit (cap n : Nat) (taken : List (Nat × Nat)) : Option Nat :=
  if n = 0 then some 0
  else
    let starts := 0 :: taken.map (fun r => r.1 + r.2)
    let ok := starts.filter (fun x => decide (x + n ≤ cap) && !taken.any (fun r => overlaps x n r.1 r.2))
    ok.foldl (fun o x => match o with | none => some x | some y => some (min x y)) none

/-- Handles in use: those of loaded images and every valid entry. -/
def handlesTaken (s : State) : List (Nat × Nat) :=
  s.images.map (fun i => (i.handle0, i.slots.length)) ++ s.validHandles.map (fun h => (h, 1))

/-- Orangery units in use outside model slots: the model-cache region, valid entries, slots of loaded images. -/
def oraTaken (s : State) : List (Nat × Nat) :=
  (s.getN .ora 0x4C, s.getN .ora 0x50) ::
    (s.validHandles.map (fun h => (fld (s.slot h).w0 12 0, fld (s.slot h).w0 23 16 + 1))
     ++ s.images.flatMap (fun i => (i.slots.filter (fun m => !m.model)).map (fun m => (m.base, m.sizem1 + 1))))

/-- Free units of the Orangery outside the model-cache region. -/
def oraFree (s : State) : Nat :=
  ((List.range (s.part.oraSize / 4096)).filter (fun u => !(oraTaken s).any (fun r => overlaps u 1 r.1 r.2))).length

/-- Starts for slots of the given sizes, one after the other, first fit (log entry 15). -/
def fitSlots (cap : Nat) : List (Nat × Nat) → List Nat → Option (List Nat)
  | _, [] => some []
  | taken, n :: ns =>
    match firstFit cap n taken with
    | none => none
    | some x => (fitSlots cap ((x, n) :: taken) ns).map (x :: ·)

/-- Images with a core of the placement. -/
def sharing (s : State) (p : Place') : List Image := s.images.filter (fun i => i.clusters.any p.clusters.contains)

/-- Unbound channels in service (R560, R361): page owner SCHED, BIND 7, idle, not the fill channel. -/
def freeChans (s : State) : List Nat :=
  (List.range 32).filter (fun c => !s.xcRetired c && s.owner (chanBlk c) == domSched && s.xcBind c == 7
    && (s.chan c).active.isNone && c != s.getF .disp 0x44 4 0
    && !s.images.any (fun i => i.chans.any (fun l => l.contains c)))

/-- What a load allocates: handle, Orangery slots, instruction words, chain entries, channels. -/
structure Alloc where
  handle : Nat
  bases  : List Nat
  imem   : Nat
  chain  : Nat
  chans  : List Nat

/-- The sizes of the slots without MODEL, in slot-map order. -/
def Body.oraSizes (b : Body) : List Nat := ((List.range b.slots).filter (fun i => !b.model i)).map b.units

/-- Model-cache units that pinned images hold (R683). -/
def pinnedUnits (s : State) : Nat :=
  (s.images.filter (·.pin)).foldl (fun a i => a + (i.slots.filter (·.model)).foldl (fun x m => x + m.sizem1 + 1) 0) 0

/-- Check 16: the allocation of what the claim asks for, or the offset of the claim that falls short. The slots of the slot
map are placed after the last check. -/
def allocate (s : State) (b : Body) : Except (Nat × Nat) Alloc :=
  let e := fun f => Except.error (0x220E, b.base + f)
  let cs := freeChans s
  let n := b.xfeCh * b.place.clusters.length
  match firstFit 4096 b.slots (handlesTaken s) with
  | none => e 6
  | some h =>
    if oraFree s * 4096 < b.oraBytes then e 8
    else if (s.getN .ora 0x50 - pinnedUnits s) * 4096 < b.mcBytes then e 12
    else
      match firstFit 1792 b.imem ((sharing s b.place).map (fun i => (i.imem0, i.imemN))) with
      | none => e 4
      | some im =>
        match firstFit 60 b.chains ((sharing s b.place).map (fun i => (i.chain0, i.chainN))) with
        | none => e 2
        | some ch => if cs.length < n then e 3 else .ok { handle := h, bases := [], imem := im, chain := ch, chans := cs.take n }

/-- Each slot without MODEL gets its contiguous units (R560); a claim that is free only in pieces too small for a slot is
refused as falling short (log entry 15). -/
def Alloc.withSlots (a : Alloc) (s : State) (b : Body) : Except (Nat × Nat) Alloc :=
  match fitSlots (s.part.oraSize / 4096) (oraTaken s) b.oraSizes with
  | none => .error (0x220E, b.base + 8)
  | some bs => .ok { a with bases := bs }

/-! ### Relocation (R557, R561, R657) -/

/-- A HALO's DIR under the mirrors. -/
def mirDir (mirx miry : Bool) (d : Nat) : Nat :=
  if (mirx && d % 2 == 1) || (miry && d % 2 == 0) then (d + 2) % 4 else d

/-- An instruction word relocated. -/
def relocWord (handle chain : Nat) (p : Place') (w : BitVec 128) : BitVec 128 :=
  let c := iClass w
  if c = 2 then (if chain = 0 then w else iSet w 9 4 (iF w 9 4 + chain))
  else if c = 3 ∨ c = 4 then (if handle = 0 then w else iSet w 27 16 (iF w 27 16 + handle))
  else if c = 5 then
    let d := mirDir p.mirx p.miry (iF w 6 5)
    if d = iF w 6 5 then w else iSet w 6 5 d
  else w

/-- Words of a descriptor with CHECK computed. -/
def descWith (ws : List Word) : List Byte := withCheck ((descBytes ws).take 31)

/-- A side of a descriptor in address mode moved by a base. -/
def rebaseSide (ws : List Word) (src : Bool) (base : Nat) : List Word :=
  if src then
    let a := base + (dW ws 1).toNat
    (ws.set 1 (wd a)).set 3 (setFld (dW ws 3) 7 0 (a >>> 32))
  else
    let a := base + (dW ws 2).toNat
    (ws.set 2 (wd a)).set 3 (setFld (dW ws 3) 15 8 (a >>> 32))

/-- The high byte of a side in address mode. -/
def sideHi (ws : List Word) (src : Bool) : Nat := if src then dF ws 3 7 0 else dF ws 3 15 8

/-- Rebase the sides whose high byte is `hi` (R657, R658). -/
def rebase (hi base : Nat) (ws : List Word) : List Word :=
  let a := if !dSrcH ws && sideHi ws true == hi then rebaseSide ws true base else ws
  if !dDstH a && sideHi a false == hi then rebaseSide a false base else a

/-- A descriptor of an image relocated. -/
def relocDesc (handle addr : Nat) (ws : List Word) : List Word :=
  let a := if dSrcH ws then ws.set 1 (setFld (dW ws 1) 31 20 (dF ws 1 31 20 + handle)) else ws
  let c := if dDstH a then a.set 2 (setFld (dW a 2) 31 20 (dF a 2 31 20 + handle)) else a
  rebase 0xFF addr c

/-! ### Checks 17 to 27 -/

/-- Checks 17 to 20. -/
def cmdChecks (b : Body) : Check :=
  let is := List.range b.ncmd
  let o := fun i => b.base + b.cmdAt i
  allOf
    [ forAll' is (fun i => allOf
        [ need (!(List.range i).any (fun j => b.cmdF j 0 4 == b.cmdF i 0 4)) 0x2201 (o i),
          need (b.lcls.contains (b.cmdF i 4 1)) 0x2201 (o i + 4),
          need (b.cmdF i 5 1 % 16 != 0) 0x2201 (o i + 5), need (decide (b.cmdF i 5 1 < 16)) 0x2202 (o i + 5),
          need (decide (b.cmdF i 6 1 < 2)) 0x2202 (o i + 6), need (decide (b.cmdF i 7 1 ≤ 64)) 0x2201 (o i + 7),
          need (decide (b.cmdF i 24 2 + b.cmdF i 7 1 ≤ b.ndesc)) 0x2201 (o i + 24),
          zeros b.bytes b.base (b.cmdAt i + 26) 6 0x2202 ]),
      forAll' is (fun i => need (decide (32 ≤ b.cmdF i 12 4) && decide (b.cmdF i 12 4 ≤ 100000)) 0x2223 (o i + 12)),
      forAll' is (fun i => need (!(List.range i).any (fun j =>
        b.cmdF j 4 1 == b.cmdF i 4 1 && decide (b.cmdF i 8 4 < b.cmdF j 8 4))) 0x2224 (o i + 8)),
      forAll' is (fun i => forAll' ((List.range 4).filter (fun j => (b.cmdF i 5 1).testBit j)) (fun j =>
        let pc := b.cmdF i (16 + 2 * j) 2
        let n := localCore (b.cmdF i 4 1) j
        need ((List.range (b.imem - pc)).any (fun k => iClass (b.word n (pc + k)) == 7)) 0x2228 (o i + 16 + 2 * j))) ]

/-- A VCHAIN's chain entry lies beyond the claim. -/
def chainBeyond (b : Body) (w : BitVec 128) : Bool := iClass w == 2 && decide (b.chains ≤ iF w 9 4)

/-- A word uses handles, chain entries or accumulator blocks beyond the claim (check 24). -/
def wordBeyond (b : Body) (w : BitVec 128) : Bool :=
  let acc := at' b.bytes 16 1
  chainBeyond b w
    || ((iClass w == 3 || iClass w == 4) && decide (b.slots ≤ iF w 27 16))
    || (iClass w == 1 && decide (acc < iF w 39 36 + mmBlocks w))
    || (iClass w == 2 && ((vcSrcAcc w && decide (acc < iF w 27 24 + vcBlocks w))
                          || (vcDstAcc w && decide (acc < iF w 39 36 + vcBlocks w))))

/-- All words of the streams: logical core, index. -/
def Body.allWords (b : Body) : List (Nat × Nat) :=
  b.lcores.flatMap (fun n => (List.range b.imem).map (fun k => (n, k)))

/-- Checks 21 to 24 on instruction and stage words. -/
def wordChecks (b : Body) : Check :=
  let o := fun (p : Nat × Nat) => b.base + b.wordOfs p.1 p.2
  let w := fun (p : Nat × Nat) => b.word p.1 p.2
  let placed := fun (p : Nat × Nat) => relocWord 0 0 b.place (w p)
  allOf
    [ forAll' b.allWords (fun p => need (iCheckOk (w p)) 0x220C (o p + 15)),
      forAll' b.lcores (fun n => forAll' (List.range (8 * b.chains)) (fun k =>
        need (stageCheckOk (b.stage n k)) 0x220C (b.base + b.stageOfs n k + 7))),
      forAll' b.allWords (fun p =>
        if chainBeyond b (w p) then .ok ()
        else
          match loadRules (fun d => (neighbour (b.core p.1) d).isSome) (b.stage p.1) (placed p) with
          | some c => .error (c, o p)
          | none => .ok ()),
      forAll' b.allWords (fun p => need (!(iClass (w p) == 5 &&
        !(((neighbour (b.core p.1) (iF (placed p) 6 5)).map (fun q => b.place.clusters.contains (clusterOf q))).getD false)))
        0x2227 (o p)),
      forAll' b.allWords (fun p => need (!wordBeyond b (w p)) 0x2225 (o p)) ]

/-- Check 24 on descriptors and on the totals of the slots. -/
def claimChecks (b : Body) : Check :=
  let sum := fun (m : Bool) => ((List.range b.slots).filter (fun i => b.model i == m)).foldl (fun a i => a + 4096 * b.units i) 0
  allOf
    [ forAll' ((List.range b.ndesc).filter (fun d => (b.collDesc d).isNone)) (fun d =>
        let ws := descWords (b.desc d)
        let o := b.base + b.descAt d
        allOf [ need (!(dSrcH ws && decide (b.slots ≤ dF ws 1 31 20))) 0x2225 (o + 4),
                need (!(dDstH ws && decide (b.slots ≤ dF ws 2 31 20))) 0x2225 (o + 8),
                need (decide (at' (b.desc d) 32 1 < b.xfeCh)) 0x2225 (o + 32) ]),
      need (decide (sum false ≤ b.oraBytes)) 0x2225 (b.base + 8),
      need (decide (sum true ≤ b.mcBytes)) 0x2225 (b.base + 12) ]

/-- The length a side reaches (R659). -/
def sideLen (ws : List Word) (src : Bool) : Nat :=
  if src then (if dDim ws = 3 then 8 * dCnt1 ws else dSrcExt ws) else dDstExt ws

/-- Rule 6 of R327 on one side after relocation; relative sides of the step are skipped (R659). -/
def sideOk (len : Nat) (raw ws : List Word) (src : Bool) : Bool :=
  let hi := sideHi raw src
  let handle := if src then dSrcH raw else dDstH raw
  handle || (decide (0xFC ≤ hi) && decide (hi ≤ 0xFE)) ||
    (oneWindow (if src then dSrc ws else dDst ws) (sideLen ws src)
      && !(hi == 0xFF && decide (len < (dW raw (if src then 1 else 2)).toNat + sideLen ws src)))

/-- Check 25 on one descriptor-list entry. -/
def descOk (b : Body) (addr len d : Nat) : Check :=
  let e := b.desc d
  let o := b.base + b.descAt d
  let ws := descWords (e.take 32)
  let rs := relocDesc 0 addr ws
  allOf
    [ zeros b.bytes b.base (b.descAt d + 33) 31 0x2202,
      need (checkOk (e.take 32)) 0x110C (o + 31),
      match descRules ws with
      | some (x, f) => .error (0x1100 + x, o + f)
      | none => .ok (),
      need (sideOk len ws rs true) 0x1101 (o + 4), need (sideOk len ws rs false) 0x1101 (o + 8) ]

/-- The members of a collective group: commands whose blocks have this COLL_ID. -/
def Body.groupOf (b : Body) (id : Nat) : List Nat :=
  (List.range b.ncmd).filter (fun i => b.coll i && cbId (b.desc (b.cmdF i 24 2)) == id)

/-- Check 25 on a collective command (R621), and the size of the programs (R636). -/
def collOk (b : Body) (i : Nat) : Check :=
  let d := b.cmdF i 24 2
  let e := b.desc d
  let blk := e.take 32
  let o := b.base + b.descAt d
  let lc := b.cmdF i 4 1
  let grp := b.groupOf (cbId blk)
  let stream := (List.range 4).all (fun j => !(b.cmdF i 5 1).testBit j || iClass (b.word (localCore lc j) (b.cmdF i (16 + 2 * j) 2)) == 7)
  let mask := bitsOf 4 (fun j => (cbPart blk).testBit (localCore lc j))
  allOf
    [ need (checkOk blk) 0x220C (o + 31),
      need (cbFields blk) 0x2202 o, need (b.cmdF i 7 1 == 1) 0x2202 (b.base + b.cmdAt i + 7),
      zeros b.bytes b.base (b.descAt d + 32) 32 0x2202,
      need (b.cmdF i 5 1 == mask) 0x2202 (b.base + b.cmdAt i + 5), need stream 0x2202 (b.base + b.cmdAt i + 16),
      need (cbPlace b.lcls blk) 0x2201 o,
      need (grp.length == (cbClusters blk).length
        && (cbClusters blk).all (fun c => (grp.filter (fun g => b.cmdF g 4 1 == c)).length == 1)
        && grp.all (fun g => (b.desc (b.cmdF g 24 2)).take 32 == blk)) 0x2201 (o + 4) ]

/-- The words of the programs a logical core needs (R635, R636): equal blocks share one. -/
def programWords (b : Body) (n : Nat) : Nat :=
  let blocks := ((List.range b.ncmd).filter b.coll).map (fun i => (b.desc (b.cmdF i 24 2)).take 32)
  (blocks.foldl (fun (a : List (List Byte) × Nat) k =>
    if (cbPart k).testBit n ∧ !a.1.any (sameProgram k) then (k :: a.1, a.2 + collWords k) else a) ([], 0)).2

/-- Checks 26 and 27. -/
def slotChecks (s : State) (b : Body) (hot : Bool) (weightLen : Nat) : Check :=
  let is := List.range b.slots
  let o := fun i => b.base + b.slotAt i
  allOf
    [ forAll' is (fun i => allOf
        [ need (decide (4096 * b.units i ≤ s.part.oraSize)) 0x2202 (o i),
          need (decide (b.slotF i 1 1 < 16) && !(b.model i && b.slotF i 1 1 != 0)) 0x2202 (o i + 1),
          need (decide (b.slotF i 2 1 < 2) && (hot || !b.model i)) 0x2202 (o i + 2),
          zeros b.bytes b.base (b.slotAt i + 3) 1 0x2202, zeros b.bytes b.base (b.slotAt i + 8) 8 0x2202 ]),
      forAll' is (fun i => need (!b.model i || decide (b.slotF i 4 4 + 4096 * b.units i ≤ weightLen)) 0x2201 (o i + 4)) ]

/-- Check 25 over all descriptor-list entries and collectives, in table order. -/
def listChecks (b : Body) (addr len : Nat) : Check :=
  allOf
    [ forAll' ((List.range b.ndesc).filter (fun d => (b.collDesc d).isNone)) (descOk b addr len),
      forAll' ((List.range b.ncmd).filter b.coll) (collOk b) ]

/-- The largest offset plus extent that a descriptor reaches with a high byte (R659). -/
def needOf (b : Body) (hi : Nat) : Nat :=
  ((List.range b.ndesc).filter (fun d => (b.collDesc d).isNone)).foldl (fun a d =>
    let ws := descWords ((b.desc d).take 32)
    let side := fun (src : Bool) =>
      if !(if src then dSrcH ws else dDstH ws) ∧ sideHi ws src = hi then (dW ws (if src then 1 else 2)).toNat + sideLen ws src else 0
    max a (max (side true) (side false))) 0

/-- The image record of an accepted load (R560, R561). -/
def makeImage (h : List Byte) (b : Body) (al : Alloc) (addr req : Nat) (excl pin : Bool) : Image :=
  let nl := b.place.clusters.length
  let slots := (List.range b.slots).map (fun i =>
    { sizem1 := b.slotF i 0 1, drains := b.slotF i 1 1, model := b.model i, wofs := b.slotF i 4 4,
      base := if b.model i then 0 else al.bases.getD ((List.range i).filter (fun j => !b.model j)).length 0 : SlotMap })
  let cmds := (List.range b.ncmd).map (fun i =>
    let ds := (List.range (b.cmdF i 7 1)).map (fun j => b.desc (b.cmdF i 24 2 + j))
    { id := b.cmdF i 0 4, cl := b.cmdF i 4 1, mask := b.cmdF i 5 1, coll := b.coll i, start := b.cmdF i 8 4,
      bound := b.cmdF i 12 4, pcs := (List.range 4).map (fun j => al.imem + b.cmdF i (16 + 2 * j) 2),
      descs := ds.map (fun e =>
        if b.coll i then (0, e.take 32) else (at' e 32 1, descWith (relocDesc al.handle addr (descWords (e.take 32))))) : Cmd })
  { model := at' h 12 4, addr := addr, len := at' h 8 4, cores := b.place.cores, place := b.place.num, reqPlace := req,
    clusters := b.place.clusters, mirx := b.place.mirx, miry := b.place.miry, excl := excl, pin := pin,
    hot := at' h 7 1 == 1, resident := false, handle0 := al.handle, imem0 := al.imem, imemN := b.imem,
    chain0 := al.chain, chainN := b.chains,
    chans := (List.range nl).map (fun l => (al.chans.drop (b.xfeCh * l)).take b.xfeCh), slots := slots, cmds := cmds,
    runNpu := at' b.bytes 20 4, needIn := needOf b 0xFD, needOut := needOf b 0xFC, needState := needOf b 0xFE,
    weightOfs := at' h 80 4, bodyOfs := b.base, bodyLen := b.bytes.length, lastUse := 0, leaving := false, placed := false }

/-- The whole load, on a state in which the buffer can be read: the refusal, or the image. -/
def checkImage (s : State) (addr len req : Nat) (excl pin : Bool) : Except (Nat × Nat) Image :=
  let h := s.bytes addr 128
  match allOf [headerChecks s h len, dirChecks s h] with
  | .error e => .error e
  | .ok _ =>
    match chooseVariant s h req with
    | none => .error (0x220E, 32)
    | some (v, p) =>
      let b : Body := { bytes := s.bytes (addr + v.2.2.1) v.2.2.2.1, base := v.2.2.1, place := p }
      match allOf [need ((crc32 b.bytes).toNat == v.2.2.2.2) 0x220C (v.2.1 + 12), rctChecks b] with
      | .error e => .error e
      | .ok _ =>
        match allocate s b with
        | .error e => .error e
        | .ok al =>
          match allOf [need (b.lcores.all (fun n => decide (programWords b n ≤ 256))) 0x220E (b.base + 4),
                       cmdChecks b, wordChecks b, claimChecks b, listChecks b addr len,
                       slotChecks s b (at' h 7 1 == 1) (at' h 84 4)] with
          | .error e => .error e
          | .ok _ => (al.withSlots s b).map (fun al => makeImage h b al addr req excl pin)

/-! ### Writing an image (R561, R562, R634) -/

/-- The body of a loaded image, read again from its kept copy (R563). -/
def Image.body (i : Image) (s : State) : Body :=
  { bytes := s.bytes (i.addr + i.bodyOfs) i.bodyLen, base := i.bodyOfs,
    place := { cores := i.cores, num := i.place, mirx := i.mirx, miry := i.miry, clusters := i.clusters } }

/-- The words and stages of one core; the program area of a core of a collective is overwritten (log entry 7). -/
def placeCore (i : Image) (b : Body) (n : Nat) (s : State) : State :=
  let p := b.core n
  let c := s.core p
  let im := (List.range b.imem).foldl (fun m k => SMap.put m (i.imem0 + k) (relocWord i.handle0 i.chain0 b.place (b.word n k))) c.imem
  let area := if programWords b n = 0 then im else SMap.clear im 1792 256
  let vt := (List.range (8 * b.chains)).foldl (fun m k => SMap.put m (8 * i.chain0 + k) (b.stage n k)) c.vt
  let vta := if programWords b n = 0 then vt
             else (List.range 32).foldl (fun m k => SMap.put m (480 + k) ((Config.freeWide s.seq (200 + k)).setWidth 64)) vt
  let s1 := s.setCore p { c with imem := area, vt := vta, imStage := [] }
  (s1.setN (.nc p) 0x5C ((i.imem0 + b.imem) % 2048)).setB (.nc p) 0x48 5 true

/-- A slot entry without MODEL: EMPTY, GEN 0 (R562, R584). -/
def storeSlot (i : Image) (r : Nat) (m : SlotMap) (state : Nat) (s : State) : State :=
  s.updSlot (i.handle0 + r) (wd (m.base + m.sizem1 * 0x10000))
    (wd (state + (if m.model then 0 else m.drains) * 0x10 + 0x10000 + m.model.toNat * 0x20000)) 0

/-- Every slot of an image without MODEL stored EMPTY with GEN 0x00 (R562, R584). -/
def emptySlots (i : Image) (s : State) : State :=
  (i.slots.zip (List.range i.slots.length)).foldl (fun t p => if p.1.model then t else storeSlot i p.2 p.1 0 t) s

/-- The cores of an image's placement. -/
def Image.pcores (i : Image) : List Nat := i.clusters.flatMap clusterCores

/-- Write the image where it belongs (R561), unless a core of the placement runs a command (R496). -/
def placeImage (model : Nat) (s : State) : State :=
  match s.image model with
  | none => s
  | some i =>
    if i.placed ∨ i.pcores.any (fun n => s.ncPhase n != 0) then s
    else
      let b := i.body s
      let s1 := b.lcores.foldl (fun t n => placeCore i b n t) s
      (emptySlots i s1).putImage { i with placed := true }

/-- CSQ_CHMAP of four logical channels. -/
def chmapWord (cs : List Nat) : Nat := (cs.zip (List.range cs.length)).foldl (fun a p => a + (0x80 + p.1) * 2 ^ (8 * p.2)) 0

/-- The channels of a logical cluster in CSQ_CHMAP (R586). -/
def writeChmap (k : Nat) (cs : List Nat) (s : State) : State :=
  (s.setN (.csq k) 0x48 (chmapWord (cs.take 4))).setN (.csq k) 0x4C (chmapWord ((cs.drop 4).take 4))

/-- An accepted load records its channels (R560); a sequencer with a step bound refuses the write (R587), and the bind of
the image's step writes them (R656). -/
def recordChans (i : Image) (s : State) : State :=
  (i.clusters.zip i.chans).foldl (fun t p => if t.csqStep p.1 then t else writeChmap p.1 p.2 t) s

/-- Bind the channels of an image to its clusters, or free them (R334, R560; log entry 16). -/
def bindChans (i : Image) (on : Bool) (s : State) : State :=
  (i.chans.zip i.clusters).foldl (fun t p => p.1.foldl (fun u c =>
    u.setXc c 0 (setFld (u.xc c 0) 10 8 (if on then p.2 else 7))) t) s

/-- The load report of R559. -/
def loadReport (reason : Nat) (i : Option Image) (ofs : Nat) : List Byte :=
  withCheck (leBytes reason 2 ++ leBytes ((i.map (·.cores)).getD 0) 1 ++ leBytes ((i.map (·.place)).getD 0) 1 ++ leBytes ofs 4
    ++ leBytes ((i.map (·.handle0)).getD 0) 2 ++ leBytes ((i.map (·.imem0)).getD 0) 2 ++ leBytes ((i.map (·.chain0)).getD 0) 1
    ++ [0, 0])

/-- A load: the state with the image, the report, and the model loaded. -/
def loadImage (addr len req : Nat) (excl pin : Bool) (s : State) : State × List Byte × Option Nat :=
  match firstFail s (.cpu .dispatch) addr (max len 128) false with
  | some (x, c) => (accFail (.cpu .dispatch) x false c s, loadReport 0x2201 none 0, none)
  | none =>
    match checkImage s addr len req excl pin with
    | .error (c, o) => (s, loadReport c none o, none)
    | .ok i =>
      let s1 := recordChans i (bindChans i true { s with images := s.images ++ [i] })
      (placeImage i.model s1, loadReport 0 (some i) 0, some i.model)

/-- The entries of an image lose VALID (R682, R595). -/
def invalSlots (i : Image) (p : SlotMap → Bool) (s : State) : State :=
  (i.slots.zip (List.range i.slots.length)).foldl (fun t q =>
    if p q.1 then
      let e := t.slot (i.handle0 + q.2)
      t.updSlot (i.handle0 + q.2) e.w0 (setBit e.w1 16 false) e.w2
    else t) s

/-- Unloading frees the allocations (R595). -/
def unloadImage (model : Nat) (s : State) : State :=
  match s.image model with
  | none => s
  | some i => bindChans i false (invalSlots i (fun _ => true) { s with images := s.images.filter (fun j => j.model != model) })

/-- The kept copy still has the CRCs of its header and variant (R563). -/
def copyOk (i : Image) (s : State) : Bool :=
  let h := s.bytes i.addr 128
  (crc32 (h.take 124)).toNat == at' h 124 4 &&
    (varDir h).any (fun v => v.2.2.1 == i.bodyOfs && v.2.2.2.1 == i.bodyLen
      && (crc32 (s.bytes (i.addr + i.bodyOfs) i.bodyLen)).toNat == v.2.2.2.2)

end Sys2Proof.Machine
end

