-- ==== Sys2Proof/Machine/Sequencer.lean ====
section
/-! DEFINITION. Cluster sequencers (12, 13): command start, publish, kill, preemption, timers, the CSQ page. -/

namespace Sys2Proof.Machine

/-! ### What comes next on a cluster -/

/-- Places in the command table of the commands of a logical cluster, in order. -/
def Image.cmdsOf (i : Image) (lc : Nat) : List Nat :=
  (List.range i.cmds.length).filter (fun p => ((i.cmds[p]?).map (fun c => c.cl == lc)).getD false)

/-- The next command of the step on cluster `k`, as its place and itself. -/
def State.nextCmd (s : State) (k : Nat) : Option (Nat × Cmd) :=
  match s.imageOn k with
  | none => none
  | some i =>
    match (i.cmdsOf (s.cseq k).lc)[(s.cseq k).done]? with
    | none => none
    | some p => (i.cmds[p]?).map (fun c => (p, c))

/-- The lockstep pair of a cluster sequencer. -/
def csqPair (k : Nat) : Nat := 2 + k

/-- The neural clock of an operating point, in MHz (R170). -/
def npuMhz (op : Nat) : Nat := [400, 650, 900, 1050].getD op 400

/-- The current neural clock in MHz. -/
def State.npuClock (s : State) : Nat := npuMhz (s.getF .pwr 0x48 17 16)

/-- The body timer in DT units: ceil(BOUND × 49.152 / f) (R581). -/
def bodyTime (bound f : Nat) : Nat := (bound * 49152 + 1000 * f - 1) / (1000 * f)

/-- The conditions of R565 and R187 on cluster `k` when its step clock reads `clock`. -/
def State.mayStart (s : State) (k clock : Nat) : Bool :=
  s.enabled (.csq k) && s.csqStep k && !s.csqPreempted k && s.csqPhase k == 0
    && !s.check.retCl.getLsbD k && s.power.goDt.isNone && s.power.pstate == .run && s.fwRuns 3
    && (match s.stepOn k with
        | some t => t.outcome.isNone && t.bound
        | none => false)
    && (match s.nextCmd k with
        | some (_, c) => decide (c.start ≤ clock)
        | none => false)
    && decide (s.getN (.csq k) 0x54 ≤ clock % 2 ^ 32)

/-! ### Command start (R566, R581, R658) -/

/-- The physical channel of a logical channel, by CSQ_CHMAP. -/
def State.chmap (s : State) (k lch : Nat) : Option Nat :=
  let off := if lch < 4 then 0x48 else 0x4C
  let j := lch % 4
  if lch < 8 ∧ s.getB (.csq k) off (8 * j + 7) then some (s.getF (.csq k) off (8 * j + 4) (8 * j)) else none

/-- LP_STATE of a loop. -/
def State.loopState (s : State) (l : Nat) : Nat :=
  s.getN .disp (0x110 + 0x40 * l) + (s.getF .disp (0x114 + 0x40 * l) 7 0) <<< 32

/-- A descriptor with the step's bases (R657, R658). -/
def stepDesc (st e : Nat) (o : Nat) (bs : List Byte) : List Byte :=
  descWith (rebase 0xFC o (rebase 0xFD e (rebase 0xFE st (descWords bs))))

/-- A descriptor goes to the ring of its channel, a write of the sequencer, and it writes the tail (R380, R566 step 2). A
descriptor whose write fails is not published (log entry 96). -/
def pushDesc (k lch : Nat) (bs : List Byte) (s : State) : State :=
  match s.chmap k lch with
  | none => s
  | some c =>
    let p := s.rgTail c
    let m : Master := .sequencer (Fin.ofNat 4 k)
    let r := if s.rgFull c then (s, true) else memWrite (.cpu m) (s.rgSlot c p) bs s
    if r.2 then tailWrite m c (wd ((p + 1) % (2 * s.rgN c))) r.1 else r.1

/-- The channels of a cluster leave the halt of an earlier body (R355). -/
def wakeChans (k : Nat) (s : State) : State :=
  (boundTo s k).foldl (fun t c => if t.xcRetired c then t else t.setXcStat c 5 false) s

/-- A core starts at an instruction index (R566 step 3, R600); `grp` are the clusters of the command or group. A core whose
page is not enabled does not start, and the body timer ends the command (R497, log entry 70). -/
def startCore (grp : List Nat) (id n pc : Nat) (s : State) : State :=
  if !s.enabled (.nc n) then s
  else
    let direct := bitsOf 4 (fun d => match neighbour n d with
      | some p => grp.contains (clusterOf p) && decide (s.ncPhase p ≠ 3)
      | none => false)
    let s1 := s.setCore n { s.core n with spans := [], clash := [], hlu := [], tbWrote := [], acWrote := [],
                                          recorded := false, coll := false }
    (((s1.setN (.nc n) 0x54 pc).setN (.nc n) 0x50 id).setF (.nc n) 0x48 1 0 1).setF (.nc n) 0x90 11 8 direct

/-- NC_LINK.DIRECT holds only toward cores that run the command or its group (R600). -/
def trimDirect (cores : List Nat) (s : State) : State :=
  cores.foldl (fun t n => t.setF (.nc n) 0x90 11 8 (bitsOf 4 (fun d => match neighbour n d with
    | some p => cores.contains p
    | none => false))) s

/-- The registers of a sequencer at command start. -/
def startSeq (k p clock : Nat) (c : Cmd) (s : State) : State :=
  let q := s.cseq k
  let t := bodyTime c.bound s.npuClock
  let s1 := s.setCseq k { q with cur := p, expiry := s.dt + t, kill := none, preempt := false, overran := false, rerun := false }
  let st := setFld (setFld (setBit (s1.get (.csq k) 0x40) 6 q.rerun) 1 0 1) 11 8 0
  let s2 := (((s1.set (.csq k) 0x40 st).setN (.csq k) 0x50 c.id).setN (.csq k) 0x54 clock).setN (.csq k) 0x58 (s.dt + t)
  let s3 := if q.rerun then s2.countF (.csq k) 0x68 31 16 1 else s2
  s3.updStep q.loop (fun x => { x with start := some (x.start.getD s.dt),
                                       reruns := if q.rerun then satAdd x.reruns 1 255 else x.reruns })

/-- Start an ordinary command. -/
def startCmd (k p clock : Nat) (i : Image) (c : Cmd) (s : State) : State :=
  let l := (s.cseq k).loop
  let e := (s.stepOn k).map (·.entry)
  let s1 := startSeq k p clock c (wakeChans k s)
  let s2 := c.descs.foldl (fun t d =>
    pushDesc k d.1 (stepDesc (s.loopState l) ((e.map (·.inAddr)).getD 0) ((e.map (·.outAddr)).getD 0) d.2) t) s1
  let cores := i.cmdCores c
  trimDirect (cores.map (·.2)) (cores.foldl (fun t q => startCore [k] c.id q.2 (c.pcs.getD q.1 0) t) s2)

/-- COMMAND_START: the conditions of R565 hold on cluster `k`; a collective waits for its group (R622). -/
def commandStartAt (k clock : Nat) (s : State) : State :=
  match s.imageOn k, s.nextCmd k with
  | some i, some (p, c) =>
    if !s.mayStart k clock then s
    else if c.coll then
      ((s.setN (.csq k) 0x54 clock).setF (.csq k) 0x74 15 0 (cbId ((c.descs.headD (0, [])).2))).setB (.csq k) 0x74 20 true
    else startCmd k p clock i c s
  | _, _ => s

/-- The clusters whose sequencers must start with cluster `k`'s collective. -/
def collMembers (s : State) (k : Nat) : List Nat :=
  match s.imageOn k, s.nextCmd k with
  | some i, some (_, c) =>
    ((List.range i.clusters.length).filter (fun lc => (cbClusters ((c.descs.headD (0, [])).2)).contains lc)).map
      (fun lc => i.clusters.getD lc 0)
  | _, _ => []

/-- A member waits for the same collective. -/
def waitsWith (s : State) (k j : Nat) : Bool :=
  s.getB (.csq j) 0x74 20 && s.csqStep j && (s.cseq j).loop == (s.cseq k).loop
    && (s.nextCmd j).map (fun p => (p.2.descs.headD (0, [])).2) == (s.nextCmd k).map (fun p => (p.2.descs.headD (0, [])).2)

/-- One member of a group starts. -/
def startMember (clock : Nat) (i : Image) (grp : List Nat) (s : State) (j : Nat) : State :=
  match s.nextCmd j with
  | none => s
  | some (p, c) =>
    let sel := collSelect ((c.descs.headD (0, [])).2)
    let s1 := startSeq j p clock c (wakeChans j s)
    let w := wd (cbId ((c.descs.headD (0, [])).2) + sel.1 * 0x10000 + 0x1000000)
    let s2 := (s1.set (.csq j) 0x74 w).setN (.csq j) 0x78 sel.2
    (i.cmdCores c).foldl (fun t q => startCore grp c.id q.2 (c.pcs.getD q.1 0) t) s2

/-- COLLECTIVE_START: every member of the group of cluster `k` waits (R622, R623). -/
def collectiveStartAt (k clock : Nat) (s : State) : State :=
  match s.imageOn k, s.nextCmd k with
  | some i, some (_, c) =>
    let ms := collMembers s k
    if !c.coll ∨ ms.isEmpty ∨ !ms.all (fun j => s.mayStart j clock && waitsWith s k j) then s
    else
      let blk := (c.descs.headD (0, [])).2
      let s1 := ms.foldl (startMember clock i ms) s
      collRun i blk (trimDirect ((cbRanks blk).map i.core) s1)
  | _, _ => s

/-! ### Publish (R569, R570, R277, R337, R611) -/

/-- Everything R570 waits for. -/
def State.mayPublish (s : State) (k : Nat) : Bool :=
  s.csqPhase k == 2 && (match s.cmdOn k with
    | some c => s.getF (.csq k) 0x40 11 8 == c.mask
    | none => false)
    && !(s.pair (csqPair k)).diverged && !s.ora.jobs.any (fun j => j.agent == 0x10 + k)

/-- Change every landing entry of the commands of cluster `k`. -/
def landMap (k : Nat) (f : Landing → Option Landing) (s : State) : State :=
  (List.range 16).foldl (fun t n =>
    let c := t.core n
    t.setCore n { c with land := c.land.filterMap (fun e => if e.cl == k then f e else some e) }) s

/-- R611. -/
def landPublish (e : Landing) : Option Landing :=
  match e.state with
  | .tentative => some { e with state := .published }
  | .held => none
  | .published => some e

/-- R612. -/
def landKill (e : Landing) : Option Landing :=
  match e.state with
  | .tentative => none
  | .held => some { e with state := .published }
  | .published => some e

/-- The cores of the command on a cluster go idle. -/
def idleCores (k : Nat) (s : State) : State :=
  (s.coresOn k).foldl (fun t p =>
    (t.setF (.nc p.2) 0x48 1 0 0).setCore p.2 { t.core p.2 with tbWrote := [], acWrote := [], coll := false }) s

/-- Every sequencer of the step of loop `l` is preempted: the step is unbound (R656), and its preemption counts. -/
def unbindCheck (l : Nat) (s : State) : State :=
  match (s.loop l).step with
  | none => s
  | some t =>
    match s.image t.model with
    | none => s
    | some i =>
      if t.leaving ∧ t.bound ∧ i.clusters.all (fun k => s.csqStep k && (s.cseq k).loop == l && s.csqPreempted k) then
        let s1 := s.updStep l (fun x => { x with bound := false, leaving := false, waits := [],
                                                 preempts := satAdd x.preempts 1 255, order := s.disp.order,
                                                 parked := i.clusters.map s.cseq })
        let s2 := { s1 with disp := { s1.disp with order := s1.disp.order + 1 } }
        (s2.setB .disp (0x11C + 0x40 * l) 2 true).count .disp (0x134 + 0x40 * l) 1
      else s

/-- A sequencer is preempted (R580): its step clock stops. -/
def setPreempted (k : Nat) (s : State) : State :=
  let q := s.cseq k
  let s1 := (s.setCseq k { q with preempt := false, clock := s.getN (.csq k) 0x54 }).setB (.csq k) 0x40 5 true
  unbindCheck q.loop (s1.setB (.csq k) 0x74 20 false)

/-- One member publishes; `cycles` SoC cycles after its commit began. -/
def publishOne (k cycles : Nat) (s : State) : State :=
  let q := s.cseq k
  let s1 := idleCores k (landMap k landPublish (publishClaims (0x10 + k) (some (s.get (.csq k) 0x50)) s))
  let s2 := holdRelease k q.loop s1
  let c := min cycles 0xFFFF
  let s3 := s2.setN (.csq k) 0x6C (c + (max c (s2.getF (.csq k) 0x6C 31 16)) * 0x10000)
  let s4 := s3.setCseq k { q with done := q.done + 1, overran := false }
  (s4.set (.csq k) 0x40 (setFld (setBit (setFld (s4.get (.csq k) 0x40) 1 0 0) 6 false) 11 8 0)).setB (.csq k) 0x74 24 false

/-- PUBLISH: the command on cluster `k` publishes, with every member of its group (R624). A PREEMPT that waited takes
effect. The operand is the commit time of cluster `k`; that of other members is free. -/
def publishAt (k cycles : Nat) (s : State) : State :=
  let ms := s.group k
  if !ms.all s.mayPublish then s
  else
    let wait := ms.filter (fun j => (s.cseq j).preempt)
    let s1 := ms.foldl (fun t j => publishOne j (if j = k then cycles else Config.freeNat s.seq (300 + j)) t) s
    wait.foldl (fun t j => setPreempted j t) s1

/-! ### Timers (R582, R583) -/

/-- BODY_TIMEOUT. -/
def bodyTimeoutAt (k : Nat) (s : State) : State :=
  if (s.csqPhase k = 1 ∨ s.csqPhase k = 2) ∧ (s.cseq k).expiry ≤ s.dt then
    killCommand k 4 0x2130 (s.raise (.csq k) 0x2130 (s.getN (.csq k) 0x50) clsTransient [])
  else s

/-- 4 µs in DT units (R145, R583). -/
def commitLimit : Nat := 132

/-- COMMIT_OVERRUN (R583): 4 µs have passed since the commit began. -/
def commitOverrunAt (k : Nat) (s : State) : State :=
  if s.csqPhase k = 2 ∧ (s.cseq k).overran = false ∧ (s.cseq k).commitDt + commitLimit ≤ s.dt then
    let s1 := s.setCseq k { s.cseq k with overran := true }
    (((s1.count (.csq k) 0x70 1).irq (.csq k) 10)).raise (.csq k) 0x2131 (s.getN (.csq k) 0x50) clsConfig []
  else s

/-! ### Kill complete (R573-R576, R612) -/

/-- A defect cause of R574. -/
def isDefect (c : Nat) : Bool := c == 3 || c == 6 || c == 7 || c == 8 || c == 9

/-- What the sequencer does with a finished kill: action, and the outcome that ends the step. -/
def killAction (cause code : Nat) (used : Bool) : Nat × Option (Nat × Nat) :=
  if cause = 1 then (3, none)
  else if cause = 12 then (3, some (7, 0x220A))
  else if 13 ≤ cause then (3, some (7, 0x2236))
  else if !used then (0, none)
  else if isDefect cause then (1, some (7, 0x2230))
  else (2, some (6, code))

/-- KILL_COMPLETE on cluster `k`. -/
def killCompleteAt (k : Nat) (s : State) : State :=
  let q := s.cseq k
  match q.kill with
  | none => s
  | some (cause, code) =>
    if s.csqPhase k ≠ 3 then s
    else
      let a := killAction cause code (q.used.contains q.cur)
      let budget := a.1 == 0
      let s0 := if cause = 10 ∨ cause = 11 then resetPair (csqPair k) s else s
      let s1 := returnClaims (0x10 + k) (idleCores k s0)
      let s2 := landMap k landKill s1
      let s3 := s2.setN (.csq k) 0x60 (cause + a.1 * 0x100 + code * 0x10000)
      let s4 := ((s3.set (.csq k) 0x64 (s.get (.csq k) 0x50)).countF (.csq k) 0x68 15 0 1).irq (.csq k) 8
      let s5 := s4.setCseq k { q with kill := none, rerun := budget, used := if budget then q.cur :: q.used else q.used }
      let s6 := (s5.set (.csq k) 0x40 (setFld (setBit (setFld (s5.get (.csq k) 0x40) 1 0 0) 6 false) 11 8 0)).setF (.csq k) 0x74 24 20 0
      let s7 := match a.2 with
        | some o => endStep q.loop o.1 o.2 s6
        | none => s6
      if cause = 1 ∨ q.preempt = true then setPreempted k s7 else s7

/-! ### Preemption and abort (R579, R580, R587, R592) -/

/-- PREEMPT on one sequencer. -/
def preemptSeq (k : Nat) (s : State) : State :=
  if s.csqPreempted k then s
  else
    let p := s.csqPhase k
    if p = 0 then setPreempted k s
    else if p = 2 then s.setCseq k { s.cseq k with preempt := true }
    else killCommand k 1 0 s

/-- ABORT: the step ends (R579). -/
def abortSeq (k : Nat) (s : State) : State := endStep (s.cseq k).loop 7 0x2236 s

/-- A write of CSQ_KILL. -/
def csqKill (k : Nat) (v : Word) (s : State) : State :=
  if bit v 0 && bit v 1 then s.rejectD (.csq k) 0x5C 0x02
  else if !bit v 0 && !bit v 1 then s
  else if !s.csqStep k then s.reject (.csq k) 0x5C 0x2121
  else if bit v 0 then preemptSeq k s
  else abortSeq k s

/-- A write to a register of a CSQ page that passed judgement; placement and map are refused during a bound step
(R587). -/
def csqStore (k off : Nat) (v mask : Word) (s : State) : State :=
  if off = 0x5C then csqKill k v s
  else if (off = 0x44 ∨ off = 0x48 ∨ off = 0x4C) ∧ s.csqStep k = true ∧ s.csqPreempted k = false then
    s.reject (.csq k) off 0x2120
  else plainStore (.csq k) off v mask s

/-- A command kill that a record's code caused; causes without an entry in R574 do nothing. -/
def commandKillAt (k cause code : Nat) (s : State) : State :=
  if cause = 0 ∨ 13 < cause then s
  else if cause = 13 then abortSeq k s
  else if cause = 12 then retireAt k (code % 0x10000) s
  else if cause = 1 then (if s.csqStep k then preemptSeq k s else s)
  else if s.csqPhase k = 1 ∨ s.csqPhase k = 2 then killCommand k cause (code % 0x10000) s
  else s

end Sys2Proof.Machine
end

