-- ==== Sys2Proof/Machine/Scheduler.lean ====
section
/-! DEFINITION. The serving scheduler (14): heads, records, decisions, residency, attachment, loading. -/

namespace Sys2Proof.Machine

/-! ### Loop registers (R700, R701) -/

/-- The offset of a register of loop `l`. -/
def lpOff (l r : Nat) : Nat := 0x100 + 0x40 * l + r
/-- A register of loop `l`. -/
def State.lp (s : State) (l r : Nat) : Nat := s.getN .disp (lpOff l r)
/-- A field of LP_CFG. -/
def State.lpCfg (s : State) (l hi lo : Nat) : Nat := s.getF .disp (lpOff l 0) hi lo
/-- LP_STAT.ENABLED: the loop is served. -/
def State.lpServing (s : State) (l : Nat) : Bool := s.getB .disp (lpOff l 0x1C) 4
/-- CLASS: 0 BULK, 1 STEADY, 2 URGENT. -/
def State.lpClass (s : State) (l : Nat) : Nat := s.lpCfg l 2 1
/-- The source ring (R650). -/
def State.srcRing (s : State) (l : Nat) : Nat := if s.lpCfg l 5 5 = 1 then 64 + s.lpCfg l 11 8 else 32 + 2 * l
/-- The completion ring (R650). -/
def doneRing (l : Nat) : Nat := 33 + 2 * l
/-- A loop is PAUSED (R653); a ring that does not run has no free entry. -/
def State.lpPaused (s : State) (l : Nat) : Bool := !s.rgOn (doneRing l) || s.rgFull (doneRing l)
/-- The image a loop is bound to (R654). -/
def State.lpImage (s : State) (l : Nat) : Option Image := s.image (s.lp l 4)
/-- Dispatch serves (log entry 17): its page is enabled, FW2 runs, its pair is in service and not diverged. -/
def State.serving (s : State) : Bool := s.enabled .disp && s.fwRuns 2 && !(s.pair 1).diverged && !s.check.retDisp
/-- Quiescence is asked for (R697). -/
def State.quiescing (s : State) : Bool := s.getB .disp 0x9C 0
/-- New steps may start (R691, R697). -/
def State.admits (s : State) : Bool := s.disp.attach == 1 && !s.quiescing

/-! ### Records (R409, R651, R665) -/

/-- What a completion record carries. -/
structure Rec where
  seq     : Nat
  outcome : Nat
  reason  : Nat
  defer   : Nat
  preempts : Nat
  reruns  : Nat
  cores   : Nat
  startOfs : Nat
  run     : Nat

/-- A record of an entry that never started. -/
def Rec.unstarted (seq outcome reason defer : Nat) : Rec :=
  { seq := seq, outcome := outcome, reason := reason, defer := defer, preempts := 0, reruns := 0, cores := 0,
    startOfs := 0xFFFFFFFF, run := 0 }

/-- The 32 bytes of a completion entry. -/
def Rec.bytes (r : Rec) (dt : Nat) : List Byte :=
  withCheck (leBytes 2 1 ++ leBytes r.outcome 1 ++ leBytes r.defer 1 ++ leBytes r.preempts 1 ++ leBytes r.seq 4 ++ leBytes dt 8
    ++ leBytes r.startOfs 4 ++ leBytes r.run 4 ++ leBytes r.reason 2 ++ leBytes r.reruns 1 ++ leBytes r.cores 1 ++ leBytes 0 3)

/-- Write a record, count it, and move the source head past its entry (R651); Dispatch moves both pointers as any master of
its domain does (R380). -/
def writeRecord (l : Nat) (r : Rec) (s : State) : State :=
  let s1 := ringPutSw .dispatch (doneRing l) (r.bytes s.dt) s
  let s2 := s1.countWrap .disp (lpOff l 0x28) 1
  let s3 := if r.outcome = 1 then s2.count .disp (lpOff l 0x2C) 1 else s2
  let s4 := if r.outcome = 3 ∨ r.outcome = 4 ∨ r.outcome = 5 then s3.count .disp (lpOff l 0x30) 1 else s3
  let s5 := if s4.rgOn (s4.srcRing l) ∧ s4.rgOcc (s4.srcRing l) ≠ 0 then freeHead .dispatch (s4.srcRing l) s4 else s4
  s5.setLoop l { s5.loop l with head := none, defer := 0 }

/-! ### Heads (R408, R661, R662, R814) -/

/-- The bytes of the head entry. -/
def State.headBytes (s : State) (l : Nat) : List Byte := s.rgEntry (s.srcRing l) (s.rgHead (s.srcRing l))

/-- SEQ of a head: 0xFFFF_FFFF when its check byte fails (R663). -/
def headSeq (e : List Byte) : Nat := if checkOk e then at' e 4 4 else 0xFFFFFFFF

/-- Reserved bits of a submission entry (R408) or a prepared batch (R814) are zero. -/
def entryFmt (prep : Bool) (e : List Byte) : Bool :=
  let z := fun (i n : Nat) => at' e i n == 0
  let stamp := (at' e 1 1).testBit 0
  if prep then at' e 0 1 == 0x0A && decide (at' e 1 1 < 64) && stamp && decide (at' e 21 1 < 4) && z 23 1 && z 28 12
    && z 44 4 && z 58 5
  else at' e 0 1 == 1 && decide (at' e 1 1 < 2) && z 21 3 && z 33 3 && z 48 15 && (stamp || z 8 8)

/-- What a head entry says, read now (R27, R661, R664). -/
def readEntry (s : State) (l : Nat) (e : List Byte) : Entry :=
  let prep := s.lpCfg l 5 5 == 1
  let stamp := (at' e 1 1).testBit 0
  let b := roundUp (((s.lpImage l).map (·.needOut)).getD 0) 64
  let j := (s.rgTail (doneRing l) % s.rgN (doneRing l)) % max 1 (s.getF .disp (lpOff l 0x3C) 19 8)
  let outBase := s.lp l 0x38 + (s.getF .disp (lpOff l 0x3C) 7 0) <<< 32
  { seq := at' e 4 4, origin := if stamp then at' e 8 8 else s.dt,
    deadline := if prep || at' e 44 4 == 0 then s.lp l 8 else at' e 44 4,
    inAddr := at' e 16 5, inLen := at' e 24 4,
    outAddr := if prep then outBase + j * b else at' e 28 5, outLen := if prep then b else at' e 36 4 }

/-- A range lies in one DRAM window; an empty one does. -/
def rangeOk (a n : Nat) : Bool := n == 0 || inDramWindow a n

/-- The checks of R662: outcome and reason of the first that fails. -/
def headCheck (s : State) (l : Nat) (e : List Byte) : Option (Nat × Nat) :=
  let prep := s.lpCfg l 5 5 == 1
  let x := readEntry s l e
  if !checkOk e then some (7, 0x220C)
  else if !entryFmt prep e then some (7, 0x2202)
  else if at' e 2 2 = 0 then some (7, 0x2204)
  else if prep ∧ (at' e 1 1).testBit 1 then some (5, 0x2235)
  else
    match s.lpImage l with
    | none => some (4, 0x2232)
    | some i =>
      if at' e 40 4 ≠ s.lp l 4 ∨ i.leaving then some (4, 0x2232)
      else if x.inLen < i.needIn ∨ x.outLen < i.needOut ∨ s.lp l 0x18 < i.needState
          ∨ !rangeOk x.inAddr x.inLen ∨ !rangeOk x.outAddr x.outLen ∨ !rangeOk (s.loopState l) (s.lp l 0x18) then
        some (7, 0x2201)
      else none

/-- A head exists for a loop that has no started step. -/
def State.hasHead (s : State) (l : Nat) : Bool :=
  s.lpServing l && s.lpCfg l 0 0 == 1 && (s.loop l).step.isNone && s.rgOn (s.srcRing l) && s.rgOcc (s.srcRing l) != 0

/-- Handle the heads of a loop while they end without a step: abandoned ones, and ones that fail a check. A head whose
image has gone since it was read ends too (R695). A retired Dispatch pair writes no record (R952). Dispatch reads a head, and
so starts its deadline, only once a completion entry is free (R27, R653; log entry 100). -/
def headRun (l : Nat) : Nat → State → State
  | 0, s => s
  | fuel + 1, s =>
    if !s.hasHead l ∨ s.lpPaused l ∨ s.check.retDisp then s
    else
      let e := s.headBytes l
      let x := s.loop l
      if s.disp.abandoning ∨ x.abandon ≠ 0 then
        let s1 := writeRecord l (Rec.unstarted (headSeq e) 8 0x2234 x.defer) s
        headRun l fuel (s1.setLoop l { s1.loop l with abandon := x.abandon - 1 })
      else
        match x.head with
        | some _ =>
          if ((s.lpImage l).map (·.leaving)).getD true then
            headRun l fuel (writeRecord l (Rec.unstarted (headSeq e) 4 0x2232 x.defer) s)
          else s
        | none =>
          match headCheck s l e with
          | some (o, r) =>
            let s1 := if o = 7 ∧ r = 0x220C then badReport (s.srcRing l) (wd (s.rgHead (s.srcRing l))) s else s
            headRun l fuel (writeRecord l (Rec.unstarted (headSeq e) o r x.defer) s1)
          | none => s.setLoop l { x with head := some (readEntry s l e) }

/-- Every loop's heads. -/
def allHeads (s : State) : State := (List.range 16).foldl (fun t l => headRun l (2 * t.rgN (t.srcRing l) + 1) t) s

/-! ### Clusters (R656) -/

/-- A step of a loop is bound to a cluster. -/
def State.boundOn (s : State) (k l : Nat) : Bool :=
  match (s.loop l).step with
  | some t => t.bound && ((s.image t.model).map (fun i => i.clusters.contains k)).getD false
  | none => false

/-- The loop whose step is bound to a cluster. -/
def State.boundLoop (s : State) (k : Nat) : Option Nat := (List.range 16).find? (s.boundOn k)

/-- No step is bound to any of the clusters, and none is reserved. -/
def allFree (s : State) (res ks : List Nat) : Bool := ks.all (fun k => (s.boundLoop k).isNone && !res.contains k)

/-- An image has a started step (R670). -/
def State.imageBusy (s : State) (model : Nat) : Bool :=
  (List.range 16).any (fun l => ((s.loop l).step.map (fun t => t.model == model)).getD false)

/-- The placement of the image a loop's head would run on. -/
def State.headPlace (s : State) (l : Nat) : List Nat := ((s.lpImage l).map (·.clusters)).getD []

/-- Loops with a head that has not started. -/
def State.readyHeads (s : State) (cls : Nat) : List Nat :=
  (List.range 16).filter (fun l => (s.loop l).head.isSome && s.hasHead l && !s.lpPaused l && s.lpClass l == cls
    && !s.imageBusy (s.lp l 4))

/-! ### Model cache (R680-R683) -/

/-- The units of the region that model slots hold. -/
def mcTaken (s : State) : List (Nat × Nat) :=
  (s.images.filter (·.resident)).flatMap (fun i => (i.slots.filter (·.model)).map (fun m => (m.base, m.sizem1 + 1)))

/-- DISP_MC_FREE. -/
def mcFree (s : State) : Nat := s.getN .ora 0x50 - (mcTaken s).foldl (fun a r => a + r.2) 0

/-- Evict one resident image (R681, R682): the one whose last step started earliest, the lower MODEL_ID on a tie;
`keep` is the image that is being filled. -/
def evictOne (keep : Nat) (s : State) : Option State :=
  let ok := s.images.filter (fun i => i.resident && !i.pin && i.model != keep && !s.imageBusy i.model
    && i.slots.any (·.model))
  let pick := ok.foldl (fun (o : Option Image) i => match o with
    | none => some i
    | some j => if i.lastUse < j.lastUse ∨ (i.lastUse = j.lastUse ∧ i.model < j.model) then some i else some j) none
  pick.map (fun i => ((invalSlots i (·.model) s).putImage { i with resident := false }).count .disp 0x98 1)

/-- The lowest free offset of the region that fits `n` units beside the slots already placed, evicting one image at a time
while there is none (R681). -/
def fitSlot (model n : Nat) (placed : List (Nat × Nat)) : Nat → State → Option (State × Nat)
  | 0, _ => none
  | fuel + 1, s =>
    match firstFit (s.getN .ora 0x50) n (placed ++ (mcTaken s).map (fun t => (t.1 - s.getN .ora 0x4C, t.2))) with
    | some x => some (s, x)
    | none =>
      match evictOne model s with
      | some t => fitSlot model n placed fuel t
      | none => none

/-- Starts of an image's model slots in the region, slot by slot in slot-map order; a slot that is placed stays where it is
when a later one makes room by evictions (R681). -/
def fitModel (model : Nat) : List Nat → List (Nat × Nat) → State → Option (State × List Nat)
  | [], _, s => some (s, [])
  | n :: ns, placed, s =>
    match fitSlot model n placed (s.images.length + 1) s with
    | none => none
    | some (t, x) => (fitModel model ns ((x, n) :: placed) t).map (fun r => (r.1, (x + s.getN .ora 0x4C) :: r.2))

/-- Model slots with their starts. -/
def withStarts : List SlotMap → List Nat → List SlotMap
  | [], _ => []
  | m :: ms, bs => if m.model then { m with base := bs.headD 0 } :: withStarts ms (bs.drop 1) else m :: withStarts ms bs

/-- Fill an image's model slots from its weights section (R682): the copy leaves no other trace (log entry 18). -/
def fillImage (model : Nat) (s : State) : Option State :=
  match s.image model with
  | none => none
  | some i =>
    if !i.hot ∨ i.resident then some s
    else
      match fitModel i.model ((i.slots.filter (·.model)).map (fun m => m.sizem1 + 1)) [] s with
      | none => none
      | some (t, bs) =>
        let j := { i with slots := withStarts i.slots bs, resident := true }
        some (((j.slots.zip (List.range j.slots.length)).foldl (fun u p =>
          if p.1.model then
            storeSlot j p.2 p.1 2 (u.storeBytes (oraBase + 4096 * p.1.base)
              (u.bytes (j.addr + j.weightOfs + p.1.wofs) (4096 * (p.1.sizem1 + 1))))
          else u) t).putImage j)

/-! ### Binding (R564, R656, R666) -/

/-- CSQ_PLACE of a bound cluster (R586). -/
def placeWord (i : Image) (lc : Nat) : Nat := lc + i.mirx.toNat * 0x10 + i.miry.toNat * 0x20 + 0x100

/-- Bind one cluster to a step; `q` is the sequencer's work on it. -/
def bindCluster (i : Image) (lc k clock : Nat) (q : SeqSt) (s : State) : State :=
  let s1 := writeChmap k (i.chans.getD lc []) (s.setN (.csq k) 0x44 (placeWord i lc))
  (((s1.setN (.csq k) 0x40 0x10).setN (.csq k) 0x54 clock).setF (.csq k) 0x74 24 20 0).setCseq k q

/-- Another step's start or resume defers the heads that wait for its clusters (R666). -/
def deferHeads (l : Nat) (ks : List Nat) (s : State) : State :=
  (List.range 16).foldl (fun t j =>
    if j ≠ l ∧ (t.loop j).step.isNone ∧ (t.loop j).head.isSome ∧ (t.headPlace j).any ks.contains then
      t.setLoop j { t.loop j with defer := satAdd (t.loop j).defer 1 255 }
    else t) s

/-- Start the head of a loop, when its image can be filled (R656, R681). -/
def startLoop (l : Nat) (s : State) : Option State :=
  match s.lpImage l, (s.loop l).head with
  | some i0, some e =>
    match fillImage i0.model s with
    | none => none
    | some s1 =>
      let s2 := placeImage i0.model s1
      let i := (s2.image i0.model).getD i0
      let t : StepSt := { model := i.model, entry := e, defer := (s2.loop l).defer, preempts := 0, reruns := 0, start := none,
                          bound := true, waits := [], leaving := false, order := 0, outcome := none, relOut := 0,
                          relFail := false, parked := [] }
      let s3 := s2.setLoop l { s2.loop l with step := some t, defer := 0, head := none }
      let s4 := (i.clusters.zip (List.range i.clusters.length)).foldl (fun u p =>
        bindCluster i p.2 p.1 0 { SeqSt.init with loop := l, lc := p.2 } u) s3
      let s5 := (s4.putImage { i with lastUse := s.dt }).setB .disp (lpOff l 0x1C) 0 true
      some (deferHeads l i.clusters s5)
  | _, _ => none

/-- Resume a preempted step (R564, R678): every clock restarts from the lowest. -/
def resumeLoop (l : Nat) (s : State) : State :=
  match (s.loop l).step with
  | none => s
  | some t =>
    match s.image t.model with
    | none => s
    | some i =>
      let clock := (t.parked.map (·.clock)).foldl min ((t.parked.map (·.clock)).headD 0)
      let s0 := placeImage i.model s
      let s1 := (i.clusters.zip t.parked).foldl (fun u p => bindCluster i p.2.lc p.1 clock { p.2 with loop := l } u) s0
      let s2 := s1.setLoop l { s1.loop l with step := some { t with bound := true, leaving := false, waits := [], parked := [] } }
      deferHeads l i.clusters (s2.setB .disp (lpOff l 0x1C) 2 false)

/-! ### Preemption (R675-R677) -/

/-- A PREEMPT write to cluster `k` of the step of loop `l`. -/
def preemptWrite (l k : Nat) (s : State) : State :=
  if s.csqStep k ∧ (s.cseq k).loop = l then preemptSeq k s else s

/-- At a boundary the sequencer is idle or in commit (R676). -/
def atBoundary (s : State) (k : Nat) : Bool := s.csqPhase k == 0 || s.csqPhase k == 2

/-- Preempt the step of loop `l`, at once or at each sequencer's next boundary. -/
def preemptLoop (l : Nat) (boundary : Bool) (s : State) : State :=
  match (s.loop l).step with
  | none => s
  | some t =>
    let ks := ((s.image t.model).map (·.clusters)).getD []
    if !t.bound then s
    else if boundary then
      if t.leaving then s
      else
        let now := ks.filter (atBoundary s)
        let s1 := s.updStep l (fun x => { x with leaving := true, waits := ks.filter (fun k => !atBoundary s k) })
        now.foldl (fun u k => preemptWrite l k u) s1
    else
      let s1 := s.updStep l (fun x => { x with leaving := true, waits := [] })
      ks.foldl (fun u k => preemptWrite l k u) s1

/-- BOUNDARY_PREEMPT on cluster `k` (R676). -/
def boundaryPreemptAt (k : Nat) (s : State) : State :=
  if !atBoundary s k then s
  else
    match (List.range 16).find? (fun l => ((s.loop l).step.map (fun t => t.waits.contains k)).getD false) with
    | none => s
    | some l => preemptWrite l k (s.updStep l (fun x => { x with waits := x.waits.filter (· != k) }))

/-! ### The decision (R668-R674) -/

/-- A state with the reserved clusters of the decision. -/
abbrev Dec := State × List Nat

/-- The least element of a list by a key pair. -/
def leastBy (key : Nat → Nat × Nat) (ls : List Nat) : Option Nat :=
  ls.foldl (fun (o : Option Nat) l => match o with
    | none => some l
    | some m => if (key l).1 < (key m).1 ∨ ((key l).1 = (key m).1 ∧ (key l).2 < (key m).2) then some l else some m) none

/-- Loops in the order of a key. -/
def sortBy (key : Nat → Nat × Nat) : Nat → List Nat → List Nat
  | 0, _ => []
  | fuel + 1, ls =>
    match leastBy key ls with
    | none => []
    | some l => l :: sortBy key fuel (ls.filter (· != l))

/-- Start a head whose placement is free; reserve the placement when it is not, or cannot be filled. -/
def tryStart (l : Nat) (d : Dec) : Dec × Bool :=
  if allFree d.1 d.2 (d.1.headPlace l) then
    match startLoop l d.1 with
    | some t => ((t, d.2), true)
    | none => ((d.1, d.2 ++ d.1.headPlace l), false)
  else ((d.1, d.2 ++ d.1.headPlace l), false)

/-- The loops of lower class whose bound steps meet a placement. -/
def victims (s : State) (ks : List Nat) (below : Nat) : List Nat :=
  (List.range 16).filter (fun l => decide (s.lpClass l < below) && ks.any (fun k => s.boundOn k l))

/-- Part 1: URGENT heads. -/
def urgentPart (d : Dec) : Dec :=
  let key := fun l => (((d.1.loop l).head.map (fun e => e.origin + e.deadline)).getD 0, l)
  (sortBy key 16 (d.1.readyHeads 2)).foldl (fun d l =>
    if d.1.imageBusy (d.1.lp l 4) then d
    else
      let free := allFree d.1 d.2 (d.1.headPlace l)
      let r := tryStart l d
      if free then r.1
      else ((victims d.1 (d.1.headPlace l) 2).foldl (fun t v => preemptLoop v (d.1.lpCfg l 4 4 == 1) t) r.1.1, r.1.2)) d

/-- Part 2: preempted steps, STEADY before BULK. -/
def resumePart (d : Dec) : Dec :=
  let ls := (List.range 16).filter (fun l => ((d.1.loop l).step.map (fun t => !t.bound && t.outcome.isNone)).getD false)
  let key := fun l => ((2 - d.1.lpClass l) * 2 ^ 64 + ((d.1.loop l).step.map (·.order)).getD 0, l)
  (sortBy key 16 ls).foldl (fun d l =>
    let ks := (((d.1.loop l).step.bind (fun t => d.1.image t.model)).map (·.clusters)).getD []
    if allFree d.1 d.2 ks then (resumeLoop l d.1, d.2) else (d.1, d.2 ++ ks)) d

/-- The cost of a step (R673). -/
def stepCost (s : State) (l : Nat) : Nat :=
  match s.lpImage l with
  | some i => i.clusters.length * ((i.runNpu * 32768 + 1000 * s.npuClock - 1) / (1000 * s.npuClock))
  | none => 0

/-- The next loop of a cyclic order from a pointer. -/
def nextIn (ls : List Nat) (p : Nat) : Nat := ((List.range 16).map (fun i => (p + i) % 16)).find? ls.contains |>.getD p

/-- Deficit round robin (R672). -/
def drrRun : Nat → Dec → Dec
  | 0, d => d
  | fuel + 1, d =>
    let act := d.1.readyHeads 1
    let ok := act.filter (fun l => allFree d.1 d.2 (d.1.headPlace l))
    if ok.isEmpty then d
    else
      let l := nextIn act d.1.disp.ptr
      let step := fun (s : State) => { s with disp := { s.disp with ptr := (l + 1) % 16 } }
      if ok.contains l then
        let df := d.1.lp l 0x24
        if stepCost d.1 l ≤ df then
          let r := tryStart l d
          if r.2 then drrRun fuel (step (r.1.1.setN .disp (lpOff l 0x24) (df - stepCost d.1 l)), r.1.2)
          else drrRun fuel (step r.1.1, r.1.2)
        else
          let add := d.1.lpCfg l 31 24 * d.1.getN .disp 0x48
          drrRun fuel (step (d.1.setN .disp (lpOff l 0x24) (min (df + add) 0xFFFFFFFF)), d.2)
      else drrRun fuel (step d.1, d.2)

/-- Visits that suffice for every active loop to reach its cost and start. -/
def drrFuel (s : State) : Nat := 16 * (17 + (s.readyHeads 1).foldl (fun a l => a + stepCost s l) 0)

/-- Part 3: STEADY heads. -/
def steadyPart (d : Dec) : Dec :=
  let d1 := drrRun (drrFuel d.1) d
  let d2 := (d1.1.readyHeads 1).foldl (fun (d : Dec) l =>
    let vs := victims d.1 (d.1.headPlace l) 1
    if vs.isEmpty then d else (vs.foldl (fun t v => preemptLoop v true t) d.1, d.2 ++ d.1.headPlace l)) d1
  (d2.1, d2.2 ++ (d2.1.readyHeads 1).flatMap d2.1.headPlace)

/-- A BULK head has reached the age limit of its loop. -/
def State.aged (s : State) (l : Nat) : Bool :=
  s.lp l 0xC != 0 && decide (((s.loop l).head.map (·.origin)).getD 0 + s.lp l 0xC ≤ s.dt)

/-- REFUSED_OVERLOAD ends a BULK head (R665). -/
def refuseAged (l : Nat) (s : State) : State :=
  writeRecord l (Rec.unstarted (headSeq (s.headBytes l)) 3 0x2233 (s.loop l).defer) s

/-- The aged BULK heads of a decision that may start nothing: records are still written (R691; log entry 106). -/
def refusePart (s : State) : State :=
  (s.readyHeads 0).foldl (fun t l => if t.aged l then refuseAged l t else t) s

/-- Part 4: BULK heads. -/
def bulkPart (d : Dec) : Dec :=
  let key := fun l => (((d.1.loop l).head.map (·.origin)).getD 0, l)
  (sortBy key 16 (d.1.readyHeads 0)).foldl (fun d l =>
    if d.1.aged l then (refuseAged l d.1, d.2)
    else if !d.1.imageBusy (d.1.lp l 4) ∧ allFree d.1 d.2 (d.1.headPlace l) then (tryStart l d).1
    else d) d

/-- Deficits of loops outside the active set return to 0; a loop with its own step in progress keeps its deficit
(R672, R674; log entry 19). -/
def dropDeficits (s : State) : State :=
  (List.range 16).foldl (fun t l =>
    if t.lpServing l && t.lpClass l == 1 && !t.lpPaused l && t.rgOn (t.srcRing l) && t.rgOcc (t.srcRing l) != 0 then t
    else t.setN .disp (lpOff l 0x24) 0) s

/-! ### Step close (R584, R613, R665) -/

/-- Every landing buffer of a placement is emptied and counted (R613). -/
def emptyLanding (i : Image) (s : State) : State :=
  i.pcores.foldl (fun t n =>
    let c := t.core n
    (t.setCore n { c with land := [] }).countF (.nc n) 0xA8 31 16 c.land.length) s

/-- A step of loop `l` may close (R584). -/
def closeReady (s : State) (l : Nat) : Bool :=
  match (s.loop l).step with
  | none => false
  | some t =>
    match s.image t.model with
    | none => true
    | some i =>
      t.relOut == 0 &&
        (if t.bound then
          i.clusters.all (fun k => s.csqPhase k == 0 && !s.getB (.csq k) 0x74 20 &&
            (t.outcome.isSome || (s.nextCmd k).isNone && !s.csqPreempted k))
         else t.outcome.isSome)

/-- Outcome and reason of a step that closes now (R665). -/
def stepOutcome (t : StepSt) (now : Nat) : Nat × Nat :=
  match t.outcome with
  | some o => o
  | none => if t.relFail then (7, 0x2231) else if t.entry.origin + t.entry.deadline < now then (1, 0) else (0, 0)

/-- The clusters of a closed step go idle; STEP_END (R586). -/
def freeClusters (l : Nat) (i : Image) (s : State) : State :=
  i.clusters.foldl (fun t k =>
    if t.csqStep k ∧ (t.cseq k).loop = l then ((t.setN (.csq k) 0x40 0).irq (.csq k) 9).setCseq k SeqSt.init else t) s

/-- The report of a load in DISP_LOAD_RPT0-3, with the needs of a loaded image (R559, R659). -/
def putReport (r : List Byte) (s : State) : State :=
  (List.range 4).foldl (fun t j => t.setN .disp (0x84 + 4 * j) (at' r (4 * j) 4)) s

/-- IN_NEED, OUT_NEED and STATE_NEED of the last loaded image. -/
def putNeeds (model : Nat) (s : State) : State :=
  match s.image model with
  | some i => ((s.setN .disp 0x78 i.needIn).setN .disp 0x7C i.needOut).setN .disp 0x80 i.needState
  | none => s

/-- A reload after a retirement (R696). -/
def reloadImage (i : Image) (s : State) : State :=
  let r := loadImage i.addr i.len i.reqPlace i.excl i.pin (unloadImage i.model s)
  putNeeds i.model (putReport r.2.1 r.1)

/-- An image that leaves goes once no step of it is started (R595, R695, R716). -/
def unloadWaiting (s : State) : State :=
  (s.images.filter (fun i => i.leaving && !s.imageBusy i.model)).foldl (fun t i => unloadImage i.model t) s

/-- Close the step of loop `l`. A retired Dispatch pair writes no record (R952). -/
def closeStep (l : Nat) (s : State) : State :=
  match (s.loop l).step with
  | none => s
  | some t =>
    let o := stepOutcome t s.dt
    let i := s.image t.model
    let r : Rec := { seq := t.entry.seq, outcome := o.1, reason := o.2, defer := t.defer, preempts := t.preempts,
                     reruns := t.reruns, cores := (i.map (·.cores)).getD 0,
                     startOfs := (t.start.map (· - t.entry.origin)).getD 0xFFFFFFFF,
                     run := (t.start.map (fun x => s.dt - x)).getD 0 }
    let s1 := if s.check.retDisp then s else writeRecord l r s
    let s2 := match i with
      | some i => freeClusters l i (emptyLanding i (emptySlots i s1))
      | none => s1
    let s3 := s2.setLoop l { s2.loop l with step := none }
    let off := lpOff l 0x1C
    let s4 := (s3.setB .disp off 0 false).setB .disp off 2 false
    let s5 := if s4.lpCfg l 0 0 = 0 then s4.setB .disp off 4 false else s4
    match i with
    | some i => unloadWaiting (if o.2 = 0x220A ∧ !i.leaving then reloadImage i s5 else s5)
    | none => s5

/-- STEP_CLOSE on cluster `k`: the step whose placement holds it, a bound one first. -/
def stepCloseAt (k : Nat) (s : State) : State :=
  let ls := (s.loopsAt k).filter (closeReady s)
  match (ls.filter (s.boundOn k)).head?, ls.head? with
  | some l, _ => closeStep l s
  | none, some l => closeStep l s
  | none, none => s

/-- SCHEDULER_DECISION (R668). -/
def decideAt (s : State) : State :=
  if !s.serving then s
  else
    let s0 := ((List.range 16).filter (fun l => closeReady s l && ((s.loop l).step.map (fun t => !t.bound)).getD false)).foldl
      (fun t l => closeStep l t) s
    let s1 := dropDeficits (allHeads (unloadWaiting s0))
    if s1.admits then (bulkPart (steadyPart (resumePart (urgentPart (s1, []))))).1
    else refusePart (resumePart (s1, [])).1

/-! ### Attachment (R687-R693, R709, R710) -/

/-- HOST_DOMAIN.ATTACHED follows Dispatch (R113). -/
def setAttach (a : Nat) (s : State) : State :=
  let s1 := { s with disp := { s.disp with attach := a } }
  (s1.setB .sys 0x44 8 (a == 1)).setF .disp 0x40 1 0 (if s.getF .disp 0x40 1 0 = 3 then 3 else a)

/-- Queued entries of a loop for which a completion entry is free (R687). -/
def State.queuedFree (s : State) (l : Nat) : Nat :=
  if s.lpServing l ∧ s.rgOn (s.srcRing l) ∧ s.rgOn (doneRing l) then
    let busy := (s.loop l).step.isSome.toNat
    min (s.rgOcc (s.srcRing l) - busy) (s.rgN (doneRing l) - s.rgOcc (doneRing l) - busy)
  else 0

/-- Entries of a loop that R687 ends at an attach: those with room for their record, and, once the 60 s of R692 have passed,
the others too as soon as an entry frees (log entry 107). -/
def State.toAbandon (s : State) (l : Nat) : Nat :=
  if s.disp.abandoning ∧ s.lpServing l ∧ s.rgOn (s.srcRing l) then s.rgOcc (s.srcRing l) - (s.loop l).step.isSome.toNat
  else s.queuedFree l

/-- Attach (R687). -/
def attachHost (nonce : Nat) (s : State) : State :=
  let n := (List.range 16).foldl (fun a l => a + s.queuedFree l) 0
  let s1 := (List.range 16).foldl (fun t l => t.setLoop l { t.loop l with abandon := s.toAbandon l }) s
  let s2 := setAttach 1 (allHeads { s1 with disp := { s1.disp with abandoning := false } })
  let s3 := { s2 with disp := { s2.disp with hbDt := s.dt } }
  ((s3.setN .disp 0x58 (nonce + min n 0xFFFF * 0x10000)).irq .disp 9).raise .disp 0x2241 0 clsConfig []

/-- Leave ATTACHED: DISP_ORPHAN_DT (R689, R690). -/
def leaveHost (a : Nat) (s : State) : State :=
  let s1 := (setAttach a s).setN .disp 0x5C s.dt
  { s1 with disp := { s1.disp with orphanDt := some s.dt } }

/-- A write of DISP_ATTACH. -/
def dispAttach (v : Word) (s : State) : State :=
  if bit v 16 && bit v 17 then s.rejectD .disp 0x54 0x02
  else if bit v 16 then attachHost (fld v 15 0) s
  else if bit v 17 then leaveHost 0 s
  else s

/-- A write of DISP_HB (R689). -/
def dispHb (s : State) : State := if s.disp.attach = 1 then { s with disp := { s.disp with hbDt := s.dt } } else s

/-- The heartbeat lapses (R145, R689). -/
def orphanAt (s : State) : State :=
  if s.disp.attach = 1 ∧ s.disp.hbDt + s.getN .disp 0x50 ≤ s.dt then
    ((leaveHost 2 s).irq .disp 10).raise .disp 0x2240 0 clsConfig []
  else s

/-- The 60 s of R692. -/
def orphanAbandonAt (s : State) : State :=
  if s.disp.attach ≠ 1 ∧ ((s.disp.orphanDt.map (fun d => decide (d + 60 * oneSecond ≤ s.dt))).getD false) = true then
    allHeads { s with disp := { s.disp with abandoning := true } }
  else s

/-! ### Quiescence (R697, R699) -/

/-- A write of DISP_QUIESCE. -/
def dispQuiesce (v : Word) (s : State) : State :=
  let s1 := s.setB .disp 0x9C 0 (bit v 0)
  if bit v 0 then s1 else s1.setF .disp 0x40 1 0 s.disp.attach

/-- QUIESCED. -/
def quiescedAt (s : State) : State :=
  if s.quiescing && (List.range 16).all (fun l => (s.loop l).step.isNone) then (s.setF .disp 0x40 1 0 3).irq .disp 11 else s

/-! ### Loading (R694, R695, R707) -/

/-- A write of DISP_LOAD_CTRL. -/
def dispLoad (v mask : Word) (s : State) : State :=
  let go := bit v 0
  let un := bit v 1
  let keep := plainStore .disp 0x70 v mask
  if go && un then s.rejectD .disp 0x70 0x02
  else if (go || un) && s.getB .disp 0x74 0 then s.reject .disp 0x70 0x2237
  else if go then
    let r := loadImage (s.getN .disp 0x60 + (s.getF .disp 0x64 7 0) <<< 32) (s.getN .disp 0x68) (fld v 5 4) (bit v 8) (bit v 9)
      ((keep s).setN .disp 0x74 1)
    { r.1 with disp := { r.1.disp with load := some (.load r.2.1 r.2.2) } }
  else if un then
    match s.image (s.getN .disp 0x6C) with
    | none => s.reject .disp 0x70 0x2232
    | some i =>
      let s1 := ((keep s).setN .disp 0x74 1).putImage { i with leaving := true }
      unloadWaiting { s1 with disp := { s1.disp with load := some (.unload i.model) } }
  else keep s

/-- LOAD_REPORT: the report is in DISP_LOAD_RPT0-3 (R694, R695); a pinned image is filled (R683). -/
def loadReportAt (s : State) : State :=
  let done := fun (t : State) => ({ t with disp := { t.disp with load := none } }.setN .disp 0x74 0).irq .disp 8
  match s.disp.load with
  | none => s
  | some (.load r none) => done (putReport r s)
  | some (.load r (some m)) =>
    let s1 := putNeeds m (putReport r s)
    done (if ((s.image m).map (·.pin)).getD false then (fillImage m s1).getD s1 else s1)
  | some (.unload m) =>
    let s1 := unloadWaiting (allHeads s)
    if (s1.image m).isSome then s1 else done (putReport (loadReport 0 none 0) s1)

/-! ### Loop enable (R704, R706) -/

/-- The first rule of R704 that refuses: code and offset. -/
def loopCheck (s : State) (l : Nat) : Option (Nat × Nat) :=
  let o := lpOff l 0
  let cls := s.lpClass l
  let w := s.lpCfg l 31 24
  let src := s.lpCfg l 5 5 == 1
  let host := s.host
  let own := fun (q : Nat) => (fld (s.rg q 0xC) 3 0, fld (s.rg q 0xC) 7 4)
  let outBase := s.lp l 0x38 + (s.getF .disp (lpOff l 0x3C) 7 0) <<< 32
  if cls = 3 then some (0x2202, o)
  else if s.lpCfg l 4 4 = 1 ∧ cls ≠ 2 then some (0x2202, o)
  else if (w = 0 ∧ cls = 1) ∨ (w ≠ 0 ∧ cls ≠ 1) then some (0x2202, o)
  else if s.lp l 0xC ≠ 0 ∧ cls ≠ 0 then some (0x2202, lpOff l 0xC)
  else if !src ∧ !(s.rgOn (32 + 2 * l) && own (32 + 2 * l) == (host, domSched)) then some (0x2208, o)
  else if !(s.rgOn (doneRing l) && own (doneRing l) == (domSched, host)) then some (0x2208, o)
  else if src ∧ !s.rgOn (64 + s.lpCfg l 11 8) then some (0x2208, o)
  else if src ∧ (List.range 16).any (fun j => j != l && s.lpServing j && s.lpCfg j 5 5 == 1 && s.lpCfg j 11 8 == s.lpCfg l 11 8) then
    some (0x2205, o)
  else if s.lp l 0x10 % 64 ≠ 0 then some (0x2203, lpOff l 0x10)
  else if s.lp l 0x38 % 64 ≠ 0 then some (0x2203, lpOff l 0x38)
  else if !rangeOk (s.loopState l) (s.lp l 0x18) then some (0x2201, lpOff l 0x10)
  else if src ∧ !inDramWindow outBase 1 then some (0x2201, lpOff l 0x38)
  else if src ∧ s.getF .disp (lpOff l 0x3C) 19 8 = 0 then some (0x2201, lpOff l 0x3C)
  else none

/-- EN written at 1. -/
def loopEnableAt (l : Nat) (s : State) : State :=
  let s0 := s.setB .disp (lpOff l 0) 0 true
  if s.lpServing l then s0
  else
    match loopCheck s0 l with
    | none => ((s0.setB .disp (lpOff l 0x1C) 4 true).setB .disp (lpOff l 0x1C) 5 false).setN .disp (lpOff l 0x20) 0
    | some (c, o) =>
      let s1 := (s0.setB .disp (lpOff l 0) 0 false).setB .disp (lpOff l 0x1C) 5 true
      refuse .disp c o (s1.setN .disp (lpOff l 0x20) (c + o * 0x10000))

/-- EN written at 0. A head that was read is forgotten: if it has no stamp, its deadline starts anew when it is read again
(R27; log entry 101). -/
def loopDisableAt (l : Nat) (s : State) : State :=
  let s1 := (s.setB .disp (lpOff l 0) 0 false).setN .disp (lpOff l 0x24) 0
  let s2 := s1.setLoop l { s1.loop l with head := none, defer := 0 }
  if (s2.loop l).step.isNone then s2.setB .disp (lpOff l 0x1C) 4 false else s2

/-- A write of LP_CFG: the fields besides EN, then EN. -/
def loopCfg (l : Nat) (v mask : Word) (s : State) : State :=
  let s1 := plainStore .disp (lpOff l 0) v mask s
  if bit v 0 then loopEnableAt l s1 else loopDisableAt l s1

/-- A write to a register of the DISP page that passed judgement (R702, R703). -/
def dispStore (off : Nat) (v mask : Word) (s : State) : State :=
  if off = 0x48 ∧ (v.toNat < 33 ∨ 3276800 < v.toNat) then s.rejectD .disp off 0x01
  else if off = 0x50 ∧ (v.toNat < 16384000 ∨ 983040000 < v.toNat) then s.rejectD .disp off 0x01
  else if off = 0x4C then dispHb s
  else if off = 0x54 then dispAttach v s
  else if off = 0x60 ∧ fld v 5 0 ≠ 0 then s.rejectD .disp off 0x03
  else if 0x100 ≤ off ∧ off < 0x500 ∧ off % 0x40 = 8 ∧ v = 0 then s.rejectD .disp off 0x01
  else if off = 0x70 then dispLoad v mask s
  else if off = 0x9C then dispQuiesce v s
  else if 0x100 ≤ off ∧ off < 0x500 ∧ off % 0x40 = 0 then loopCfg ((off - 0x100) / 0x40) v mask s
  else plainStore .disp off v mask s

/-- What a read of the DISP page shows. -/
def dispView (off : Nat) (s : State) : Word :=
  if off = 0x40 then
    setFld (setFld (s.get .disp off) 12 8 (min s.images.length 31)) 20 16
      ((List.range 16).filter (fun l => (s.loop l).step.isSome)).length
  else if off = 0x94 then wd (mcFree s)
  else if 0x100 ≤ off ∧ off < 0x500 ∧ off % 0x40 = 0x1C then
    let l := (off - 0x100) / 0x40
    setFld (setBit (s.get .disp off) 1 (s.lpServing l && s.lpPaused l)) 15 8 (min (s.rgOcc (s.srcRing l)) 255)
  else s.get .disp off

end Sys2Proof.Machine
end

