-- ==== Sys2Proof/Machine/Flash.lean ====
section
/-! DEFINITION. The boot flash (19): directory, policy, image verification and selection (R882-R891, R902). -/

namespace Sys2Proof.Machine

/-! ### Flash contents (R883-R885) -/

/-- Bytes of the boot flash; erased flash reads 0xFF. -/
def State.flash (s : State) (a n : Nat) : List Byte :=
  (List.range n).map (fun i => if s.rail 1 then (s.fw.flash.get? (a + i)).getD 0xFF#8 else 0xFF#8)

/-- Program bytes of the boot flash. -/
def flashPut (a : Nat) (bs : List Byte) (s : State) : State :=
  if s.rail 1 then { s with fw := { s.fw with flash := putBytes s.fw.flash a bs } } else s

/-- A directory or policy copy is valid: MAGIC and CRC match (R884, R885). -/
def copyValid (magic : Nat) (b : List Byte) : Bool :=
  at' b 0 4 == magic && at' b 4092 4 == (crc32 (b.take 4092)).toNat

/-- The two copies of a structure, at `base` and one sector further. -/
def State.flashCopies (s : State) (base : Nat) : List (List Byte) := [s.flash base 4096, s.flash (base + 4096) 4096]

/-- The copy in force: its place and bytes (R884). -/
def State.inForce (s : State) (base magic : Nat) : Option (Nat × List Byte) :=
  match s.flashCopies base with
  | [a, b] =>
    match copyValid magic a, copyValid magic b with
    | true, true => if at' a 4 4 < at' b 4 4 then some (1, b) else some (0, a)
    | true, false => some (0, a)
    | false, true => some (1, b)
    | false, false => none
  | _ => none

/-- Directory MAGIC. -/
def dirMagic : Nat := 0x52445653
/-- Policy MAGIC. -/
def polMagic : Nat := 0x4C505653

/-- A directory entry (R884). -/
structure DirEnt where
  comp    : Nat
  bank    : Nat
  state   : Nat
  tries   : Nat
  off     : Nat
  len     : Nat
  version : Nat
deriving DecidableEq, Repr

/-- An entry for nothing. -/
def DirEnt.empty (k : Nat) : DirEnt := { comp := 1 + k / 2, bank := k % 2, state := 0, tries := 0, off := 0, len := 0, version := 0 }

/-- Entry `k` of a directory copy; one that does not name its own component and bank is empty. -/
def dirEnt (b : List Byte) (k : Nat) : DirEnt :=
  let e := slice b (16 + 32 * k) 32
  if at' e 0 1 = 1 + k / 2 ∧ at' e 1 1 = k % 2 then
    { comp := at' e 0 1, bank := at' e 1 1, state := at' e 2 1, tries := at' e 3 1, off := at' e 4 4, len := at' e 8 4,
      version := at' e 12 4 }
  else DirEnt.empty k

/-- The ten entries in force (R884). -/
def State.dir (s : State) : List DirEnt :=
  match s.inForce 0 dirMagic with
  | some (_, b) => (List.range 10).map (dirEnt b)
  | none => (List.range 10).map DirEnt.empty

/-- The bytes of an entry. -/
def DirEnt.bytes (e : DirEnt) : List Byte :=
  leBytes e.comp 1 ++ leBytes e.bank 1 ++ leBytes e.state 1 ++ leBytes e.tries 1 ++ leBytes e.off 4 ++ leBytes e.len 4 ++
    leBytes e.version 4 ++ List.replicate 16 0xFF#8

/-- A copy from its first fields: erased bytes, then the CRC-32 (R884, R885). -/
def sealCopy (head : List Byte) : List Byte :=
  let body := (head ++ List.replicate 4092 0xFF#8).take 4092
  body ++ leBytes (crc32 body).toNat 4

/-- Write into the copy that is not in force, with SEQ + 1 (R884). -/
def putCopy (base magic : Nat) (head : List Byte) (s : State) : State :=
  let p : Nat × Nat := match s.inForce base magic with
    | some (i, b) => (1 - i, at' b 4 4)
    | none => (0, 0)
  flashPut (base + 4096 * p.1) (sealCopy (leBytes magic 4 ++ leBytes (p.2 + 1) 4 ++ head)) s

/-- Write the directory (R884). -/
def putDir (es : List DirEnt) (s : State) : State :=
  putCopy 0 dirMagic (List.replicate 8 0xFF#8 ++ es.flatMap DirEnt.bytes) s

/-- Change one entry of the directory. -/
def setEntry (c bank : Nat) (f : DirEnt → DirEnt) (s : State) : State :=
  putDir (s.dir.map (fun e => if e.comp = c ∧ e.bank = bank then f e else e)) s

/-- The entry of a component in a state. -/
def State.entryIn (s : State) (c st : Nat) : Option DirEnt := s.dir.find? (fun e => e.comp == c && e.state == st)

/-- POLICY of the copy in force (R885). -/
def State.policy (s : State) : Nat := ((s.inForce 0x2000 polMagic).map (fun p => at' p.2 8 4 % 4)).getD 0

/-- Both policy copies are written (R925). -/
def putPolicy (v : Nat) (s : State) : State :=
  putCopy 0x2000 polMagic (leBytes v 4) (putCopy 0x2000 polMagic (leBytes v 4) s)

/-- FW_POLICY.ACCEPT_UNTESTED (R926). -/
def State.acceptUntested (s : State) : Bool := s.getB .fw 0x48 0

/-! ### Components (R886) -/

/-- Load region: start and bytes. -/
def loadRegion (c : Nat) : Nat × Nat :=
  [(0, 0), (0x31000000, 0x38000), (0x32000000, 0x50000), (0x32050000, 0x18000), (0x30000000, 0x40000), (0x3103C000, 0x4000)].getD c (0, 0)

/-- Image limit in bytes of code. -/
def imageLimit (c : Nat) : Nat := [0, 160, 256, 64, 192, 16].getD c 0 * 1024

/-- The kept copy's slot: 512 KiB each. -/
def keptSlot (c : Nat) : Nat := 0x80000000 + 0x80000 * (c - 1)

/-! ### Verification (R887-R889, R902) -/

/-- An image: header and code (R888). -/
def imageBytes (b : List Byte) : List Byte := b.take (512 + at' b 28 4)

/-- The code of an image. -/
def imageCode (b : List Byte) : List Byte := slice b 512 (at' b 28 4)

/-- Every reserved byte of the header is 0. -/
def reservedZero (b : List Byte) : Bool :=
  [(7, 1), (37, 3), (44, 20), (304, 208)].all (fun r => (slice b r.1 r.2).all (· == 0#8))

/-- Checks 1 to 5 of R889: the reason of the first that fails, 0 when the image passes. -/
def verifyImage (c : Nat) (b : List Byte) : Nat :=
  let key := at' b 6 1
  let pub := slice b 112 96
  let code := imageCode b
  let load := at' b 32 5
  let r := loadRegion c
  if b.length < 512 ∨ at' b 0 4 ≠ 0x57465653 ∨ at' b 4 1 ≠ 1 ∨ at' b 5 1 ≠ c ∨ !reservedZero b then 0x0820
  else if 3 < key ∨ Config.keyRevoked.getLsbD key = true ∨ beNat (sha384 pub) ≠ (Config.keyHash key).toNat then 0x0821
  else if !ecdsaOk pub (b.take 208) (slice b 208 96) then 0x0822
  else if imageLimit c < at' b 28 4 ∨ !inWindow load (at' b 28 4) r.1 r.2 then 0x0824
  else if code.length ≠ at' b 28 4 ∨ sha384 code ≠ slice b 64 48 then 0x0823
  else 0

/-- Check 6: SYS_PART.STEPPING lies within the window. -/
def steppingOk (s : State) (b : List Byte) : Bool :=
  let st := s.getF .sys 0x40 31 24
  decide (at' b 14 1 ≤ st) && decide (st ≤ at' b 15 1)

/-- The bytes of an entry's image. -/
def State.entryImage (s : State) (e : DirEnt) : List Byte := s.flash e.off e.len

/-- A record of the FW page. -/
def fwRecord (code cls : Nat) (s : State) : State := s.raise .fw code 0 cls []

/-- An image that fails checks 1 to 5 is marked FAILED (R889). -/
def markFailed (e : DirEnt) (s : State) : State := setEntry e.comp e.bank (fun x => { x with state := 4 }) s

/-- What selection finds (R891): the entry whose image is used, or the reason of the last failure. -/
abbrev Found := Except Nat DirEnt

/-- Rules 2 and 3 of R891: ACTIVE, then PREVIOUS. -/
def selectActive (c : Nat) (s : State) : State × Found :=
  match s.entryIn c 1 with
  | none => (s, .error 0)
  | some e =>
    let r := verifyImage c (s.entryImage e)
    if r = 0 then (s, .ok e)
    else
      let s1 := markFailed e s
      match s1.entryIn c 3 with
      | none => (s1, .error r)
      | some p =>
        let s2 := fwRecord 0x0837 clsPermanent s1
        let r2 := verifyImage c (s2.entryImage p)
        if r2 = 0 then (s2, .ok p) else (markFailed p s2, .error r2)

/-- Image selection (R891): a STAGED entry with tries left loses one and goes first; one without is FAILED. -/
def selectImage (c : Nat) (s : State) : State × Found :=
  match s.entryIn c 2 with
  | none => selectActive c s
  | some e =>
    if e.tries = 0 then selectActive c (fwRecord 0x0838 clsPermanent (markFailed e s))
    else
      let s1 := setEntry c e.bank (fun x => { x with tries := x.tries - 1 }) s
      if verifyImage c (s1.entryImage e) = 0 then (s1, .ok e) else selectActive c (markFailed e s1)

/-- The component as an image names it, in a state and with a reason. -/
def imageComp (s : State) (e : DirEnt) (b : List Byte) (state reason : Nat) : Comp :=
  { state := state, version := at' b 8 4, iface := at' b 12 2, reason := reason, bank := e.bank,
    untested := !steppingOk s b && decide (reason = 0), staged := e.state == 2, digest := sha384 (imageBytes b),
    req := (List.range 6).map (fun k => at' b (16 + 2 * k) 2), kicks := [], started := none,
    restarts := (s.comp e.comp).restarts }

/-- Check 6 and what follows it (R902): the component in state `go` when it may start. -/
def decideComp (c go : Nat) (e : DirEnt) (s : State) : State :=
  let b := s.entryImage e
  if steppingOk s b then s.setComp c (imageComp s e b go 0)
  else if s.acceptUntested then fwRecord 0x0834 clsUntested (s.setComp c (imageComp s e b go 0))
  else s.setComp c (imageComp s e b 5 0x080D)

/-- Select, verify and decide a component (R889, R891, R902). -/
def bringUp (c go : Nat) (s : State) : State :=
  match selectImage c s with
  | (s1, .ok e) => decideComp c go e s1
  | (s1, .error r) =>
    s1.updComp c (fun x => { x with state := if r = 0 then 0 else 6, reason := r, digest := [], started := none, kicks := [] })

/-- The bytes of the image that a component runs. -/
def State.compImage (s : State) (c : Nat) : List Byte :=
  match s.dir.find? (fun e => e.comp == c && e.bank == (s.comp c).bank) with
  | some e => imageBytes (s.entryImage e)
  | none => []

/-- Write a kept copy: LENGTH, CRC-32, the image after 64 bytes (R886). -/
def keepCopy (c : Nat) (b : List Byte) (s : State) : State :=
  let a := keptSlot c
  ((s.undef a 0x80000).storeBytes a (leBytes b.length 4 ++ leBytes (crc32 b).toNat 4)).storeBytes (a + 64) b

/-- The image of a kept copy. -/
def State.kept (s : State) (c : Nat) : List Byte := s.bytes (keptSlot c + 64) (s.load (keptSlot c) 4 % 0x80000)

/-- A kept copy's CRC holds. -/
def State.keptOk (s : State) (c : Nat) : Bool := (crc32 (s.kept c)).toNat == s.load (keptSlot c + 4) 4

/-- Put an image's code at its load address. -/
def loadCode (b : List Byte) (s : State) : State := s.storeBytes (at' b 32 5) (imageCode b)

end Sys2Proof.Machine
end

