-- ==== Sys2Proof/Machine/Firmware.lean ====
section
/-! DEFINITION. Firmware (19): boot, pairing, the partition firewall, management rings, watchdogs, restarts, the FW page. -/

namespace Sys2Proof.Machine

/-! ### Pairing (R903-R905, R942) -/

/-- The order of R903. -/
def pairOrder : List Nat := [1, 5, 4, 2, 3]

/-- A component runs or is about to start. FW0 provides interface 1.0 (R905). -/
def State.peerUp (s : State) (c : Nat) : Bool :=
  let st := (s.comp c).state
  c == 0 || st == 1 || st == 2 || st == 3

/-- IFACE of a component. -/
def State.ifaceOf (s : State) (c : Nat) : Nat := if c = 0 then 0x0100 else (s.comp c).iface

/-- The reason that rules 1 and 2 of R903 give for a component. -/
def pairReason (s : State) (c : Nat) : Option Nat :=
  ((List.range 6).filterMap (fun k =>
    let q := (s.comp c).req.getD k 0
    if q = 0 then none
    else if !s.peerUp k then some 0x0808
    else if q / 256 ≠ s.ifaceOf k / 256 then some 0x0825
    else none)).head?

/-- Every started step ends FAULT 0x2236 (R647, R900). -/
def endAllSteps (s : State) : State :=
  (List.range 16).foldl (fun t l => if (t.loop l).step.isSome then endStep l 7 0x2236 t else t) s

/-- The update in progress is abandoned (R923). -/
def updAbandon (s : State) : State :=
  if s.getF .belv 0x48 2 0 = 0 then s
  else
    let s1 := (s.setN .belv 0x48 0).undef 0x80280000 0x80000
    fwRecord 0x0836 clsTransient { s1 with fw := { s1.fw with upd := UpdSt.init } }

/-- DISP_QUIESCE.REQ goes to 0 (R699). -/
def clearQuiesce (s : State) : State := dispQuiesce 0 s

/-- FW1 forgets a SLEEP request that has not written GO (R938). -/
def sleepRetake (s : State) : State :=
  match s.fw.sleep with
  | some r => if r.gone then s else clearQuiesce { s with fw := { s.fw with sleep := none } }
  | none => s

/-- What a reset of a component's processors does elsewhere (R82, R647, R687, R900, R938, R939). -/
def resetComp (c : Nat) (s : State) : State :=
  match c with
  | 1 => resetPair 0 (sleepRetake (updAbandon (abandon (fun k => k == 0x10) s)))
  | 2 => resetPair 1 (leaveHost 0 (endAllSteps (abandon (fun k => k == 0x20) s)))
  | 3 =>
    let s1 := endAllSteps (abandon (fun k => decide (0x21 ≤ k) && decide (k ≤ 0x24)) s)
    let s2 := { s1 with images := s1.images.map (fun i => { i with placed := false }) }
    [2, 3, 4, 5].foldl (fun t p => resetPair p t) s2
  | 4 => gateCoreReset s
  | _ => s

/-- A component is quarantined (R901, R903): held in reset, with a record. -/
def quarantine (c reason : Nat) (s : State) : State :=
  let s1 := s.updComp c (fun x => { x with state := 4, reason := reason, started := none, kicks := [] })
  let s2 := if c = 4 then s1.setB .gate 0x44 0 false else s1
  (fwRecord 0x0831 clsPermanent s2).irq .fw 10

/-- One pass of R903 over all components that have passed checks 1 to 6. -/
def pairPass (s : State) : State :=
  pairOrder.foldl (fun t c =>
    if (t.comp c).state = 1 ∨ (t.comp c).state = 2 ∨ (t.comp c).state = 3 then
      match pairReason t c with
      | some r => quarantine c r (if (t.comp c).state = 1 then t else resetComp c t)
      | none => t
    else t) s

/-- R903 until no state changes: each pass but the last stops one of five components. -/
def pairAll (s : State) : State := (List.range 6).foldl (fun t _ => pairPass t) s

/-! ### Firewall and management rings (R897, R911) -/

/-- The regions of R897: first page, last page, permissions. -/
def fwRegions : List (Nat × Nat × Nat) :=
  [(0x31000, 0x31037, 0x0101), (0x32000, 0x3204F, 0x0505), (0x32050, 0x32067, 0x0909), (0x30000, 0x3003F, 0x0303),
   (0x80000, 0x807FF, 0x0101), (0x80800, 0x80EFF, 0x0505)]

/-- FW1 programs the firewall and locks the FW page (R897). -/
def programFirewall (s : State) : State :=
  let s1 := (fwRegions.zip (List.range 6)).foldl (fun t p =>
    let o := 0x200 + 0x10 * p.2
    ((t.setN .fw o p.1.1).setN .fw (o + 4) p.1.2.1).setN .fw (o + 8) (0x80000000 + p.1.2.2)) s
  s1.setB .fw offOwner 8 true

/-- The requester of management pair `p` (R911). -/
def State.mgmtDom (s : State) (p : Nat) : Nat :=
  if p = 0 then s.host else if p = 1 then domSched else if s.host = domApp then domXhost else domApp

/-- FW1 configures one management ring: 16 entries of 64 bytes (R911). -/
def mgmtRing (q base prod cons : Nat) (s : State) : State :=
  let s1 := ((s.setRg q 0 (wd base)).setRg q 4 0).setRg q 0x08 (setFld (setFld (s.rg q 0x08) 3 0 4) 9 8 2)
  let s2 := ((s1.setRg q 0x0C (wd (prod + 16 * cons))).setRg q 0x1C 0).setRg q 0x20 0
  ringCheckDone q (ringEnableAt q s2)

/-- FW1 configures the three pairs, with the RING page and its clock on (R911). -/
def mgmtRings (s : State) : State :=
  let s1 := ((s.setB .clk 0x4C 0 true).setB .clk 0x64 0 true).setB (.ring 7) offStatus 0 true
  (List.range 3).foldl (fun t p =>
    let base := 0x80F00000 + 0x800 * p
    mgmtRing (113 + 2 * p) (base + 0x400) domMgmt (t.mgmtDom p) (mgmtRing (112 + 2 * p) base (t.mgmtDom p) domMgmt t)) s1

/-! ### Boot (R890-R892) -/

/-- FW0 reads the directory and policy copies: a record for each that is invalid (R884, R885, R932). -/
def readCopies (s : State) : State :=
  let bad := (s.flashCopies 0).map (copyValid dirMagic) ++ (s.flashCopies 0x2000).map (copyValid polMagic)
  bad.foldl (fun t ok => if ok then t else fwRecord 0x0833 clsTransient t) s

/-- ROM recovery (R892). -/
def romRecovery (reason : Nat) (s : State) : State :=
  (s.updComp 1 (fun x => { x with state := 7, reason := reason, digest := [], started := none, kicks := [] })).irq .fw 10

/-- FW0 hands over to FW1 (R48, R890 step 4). -/
def handOver (s : State) : State :=
  let s1 := loadCode (s.compImage 1) { s with belvSec := false }
  ((s1.setF .fw offOwner 3 0 domMgmt).updComp 1 (fun x => { x with state := 2, kicks := [(0, s.dt)] })).irq .fw 10

/-- FW0 selects FW1's image and verifies it (R890 step 3, R892): REQ_0 must name major 1. -/
def bringUpFw1 (s : State) : State :=
  let s1 := bringUp 1 2 s
  if (s1.comp 1).state = 2 ∧ ((s1.comp 1).req.getD 0 0) / 256 = 1 then handOver s1
  else romRecovery (if (s1.comp 1).state = 2 then 0x0825 else (s1.comp 1).reason) s1

/-- FW0 runs (R890 steps 1 to 4). -/
def runFw0 (readFail : Bool) (s : State) : State :=
  let s1 := readCopies (if readFail then fwRecord 0x0832 clsTransient s else s)
  let s2 := (s1.setN .fw 0x48 s1.policy).updComp 0
    (fun x => { x with state := 2, version := Config.romVersion.toNat, iface := 0x0100 })
  bringUpFw1 { s2 with fw := { s2.fw with pending := true } }

/-- FW1 starts a component that may start (R890 step 7). -/
def startComp (c : Nat) (s : State) : State :=
  if (s.comp c).state ≠ 1 then s
  else
    let s1 := (loadCode (s.compImage c) s).updComp c (fun x => { x with started := some s.dt })
    if c = 4 then s1.setB .gate 0x44 0 true else s1

/-- FW1 writes the kept copy of a component that has passed. -/
def keepComp (c : Nat) (s : State) : State :=
  let st := (s.comp c).state
  if st = 1 ∨ st = 2 then keepCopy c (s.compImage c) s else s

/-- FW1 brings up the other components once DRAM is trained (R890 steps 5 to 8). -/
def runFw1 (s : State) : State :=
  if !s.fw.pending ∨ !s.enabled .ddrc then s
  else
    let s1 := [(5, 2), (4, 1), (2, 1), (3, 1)].foldl (fun t p => keepComp p.1 (bringUp p.1 p.2 t)) (keepComp 1 s)
    let s2 := programFirewall (pairAll s1)
    let s3 := [4, 2, 3].foldl (fun t c => startComp c t) s2
    mgmtRings { s3 with fw := { s3.fw with pending := false } }

/-! ### FW_READY and the watchdogs (R899-R901, R922, R931, R934) -/

/-- 2 s in DT units. -/
def twoSeconds : Nat := 65536000

/-- The kick entries of a component that starts to run. -/
def freshKicks (c now : Nat) : SMap Nat := if c = 3 then (List.range 4).map (fun k => (k, now)) else [(0, now)]

/-- A STAGED image that has started becomes ACTIVE, and the ACTIVE one PREVIOUS (R922). -/
def promote (c : Nat) (s : State) : State :=
  if !(s.comp c).staged then s
  else
    let bank := (s.comp c).bank
    let s1 := putDir (s.dir.map (fun e =>
      if e.comp ≠ c then e
      else if e.bank = bank then { e with state := 1, tries := 0 }
      else if e.state = 1 then { e with state := 3 } else e)) s
    s1.updComp c (fun x => { x with staged := false })

/-- FW_READY of a component (R890). -/
def readyAt (c : Nat) (s : State) : State :=
  let x := s.comp c
  if x.state = 2 ∨ x.state = 3 ∨ (x.state = 1 ∧ x.started.isSome) then
    let s1 := s.setComp c { x with state := 2, reason := 0, started := none, kicks := freshKicks c s.dt }
    let s2 := (promote c s1).irq .fw 10
    if c = 1 then runFw1 s2 else s2
  else s

/-- The kick key of a master (R899). -/
def kickKey (m : Master) : Nat := if 0x21 ≤ m.code ∧ m.code ≤ 0x24 then m.code - 0x21 else 0

/-- FW_WDOG: the timer restarts (R899). -/
def kickAt (m : Master) (c : Nat) (s : State) : State :=
  if s.fwRuns c then s.updComp c (fun x => { x with kicks := x.kicks.put (kickKey m) s.dt }) else s

/-- TRIES of the STAGED entry whose image a component runs. -/
def stagedTries (s : State) (c : Nat) : Option Nat :=
  if (s.comp c).staged then
    (s.dir.find? (fun e => e.comp == c && e.bank == (s.comp c).bank)).map (·.tries)
  else none

/-- A component starts again from its kept copy (R900); a bad copy of FW1 sends FW0 to the flash, as at a wake (R894).
A STAGED image spends a try on each start, and gives way to the ACTIVE one when none is left (R891). -/
def reload (c : Nat) (s : State) : State :=
  let go := fun (t : State) => (t.updComp c (fun x => { x with state := 3, started := some t.dt, kicks := [] })).irq .fw 10
  if stagedTries s c = some 0 then
    let s1 := go (bringUp c 3 s)
    loadCode (s1.compImage c) (keepCopy c (s1.compImage c) s1)
  else
    let s2 := go (if (s.comp c).staged then setEntry c (s.comp c).bank (fun e => { e with tries := e.tries - 1 }) s else s)
    if c = 1 ∧ !s2.keptOk 1 then runFw0 false (fwRecord 0x0835 clsTransient s2)
    else loadCode (s2.kept c) s2

/-- A restart (R900): the processors are reset and the image reloaded. -/
def restartComp (c : Nat) (s : State) : State := reload c (resetComp c s)

/-- A component's timer has run out: a pair of FW3 in service, or a start that FW_READY has not answered (R890, R899). -/
def wdogDue (s : State) (c pair : Nat) : Bool :=
  let x := s.comp c
  let key := if c = 3 then pair else 0
  if x.state = 2 then
    decide (1 ≤ c ∧ c ≤ 4) && !(c == 3 && s.check.retCl.getLsbD pair)
      && (match x.kicks.get? key with
          | some d => decide (d + twoSeconds ≤ s.dt)
          | none => false)
  else
    match x.started with
    | some d => decide (d + twoSeconds ≤ s.dt)
    | none => false

/-- A restart that counts toward R901: the third within 600 s quarantines, FW1 goes to ROM recovery; a STAGED image
without a try gives way first (R891). -/
def countedRestart (c : Nat) (s : State) : State :=
  let l := within s.dt (600 * oneSecond) (s.comp c).restarts ++ [s.dt]
  let s1 := s.updComp c (fun x => { x with restarts := l })
  if l.length < 3 ∨ stagedTries s c = some 0 then restartComp c s1
  else if c = 1 then romRecovery 0x0826 (resetComp 1 (fwRecord 0x0831 clsPermanent s1))
  else quarantine c 0x0826 (resetComp c s1)

/-- WATCHDOG_EXPIRY (R900, R901, R934). -/
def watchdogAt (c pair : Nat) (s : State) : State :=
  if wdogDue s c pair then countedRestart c ((fwRecord 0x0830 clsTransient s).irq .fw 8) else s

/-! ### The FW page (R909, R910, R929, R931) -/

/-- The selected component of a master (R909). -/
def State.fwSel (s : State) (m : Master) : Nat := (s.fw.sel.get? m.code).getD 0

/-- FW_NEGk of a component (R903 rule 3). -/
def fwNeg (s : State) (c k : Nat) : Nat :=
  let q := (s.comp c).req.getD k 0
  if q = 0 then 0
  else
    let both := s.peerUp k && q / 256 == s.ifaceOf k / 256
    (if both then min (q % 256) (s.ifaceOf k % 256) else 0) + (q / 256) * 0x100 + 0x10000

/-- Restarts in the last 600 s. -/
def State.restartsOf (s : State) (c : Nat) : Nat := (within s.dt (600 * oneSecond) (s.comp c).restarts).length

/-- From a wake to RUN_READY the FW page holds its reset values (R197); FW1 writes it again when it resumes, and FW0 when it
boots from flash (log entry 95). -/
def State.fwHidden (s : State) (off : Nat) : Bool :=
  s.power.pstate == .waking && !s.power.slowWake && decide (0x40 ≤ off) && decide (off < 0xB0)

/-- What a read of the FW page shows. -/
def fwView (m : Master) (off : Nat) (s : State) : Word :=
  let c := s.fwSel m
  let x := s.comp c
  if s.fwHidden off then 0
  else if off = 0x40 then wd ((List.range 6).foldl (fun a k => a + (s.comp k).state * 16 ^ k) 0)
  else if off = 0x44 then wd (bitsOf 6 (fun k => (s.comp k).untested))
  else if off = 0x4C then wd c
  else if off = 0x50 then wd x.version
  else if off = 0x54 then wd (x.iface + x.bank * 0x10000 + s.restartsOf c * 0x1000000)
  else if off = 0x58 then wd x.reason
  else if 0x5C ≤ off ∧ off < 0x74 then wd (fwNeg s c ((off - 0x5C) / 4))
  else if 0x80 ≤ off ∧ off < 0xB0 then
    if x.state = 2 ∧ c ≠ 0 then wd (at' x.digest (off - 0x80) 4) else 0
  else s.get .fw off

/-- A write to a register of the FW page that passed judgement; BASE above LIMIT with EN at 1 is out of range (R931). -/
def fwStore (m : Master) (off : Nat) (v mask : Word) (s : State) : State :=
  if off = 0x4C then
    if hasLatch m then { s with fw := { s.fw with sel := s.fw.sel.put m.code (fld v 2 0) } } else s
  else if off = 0xB0 then kickAt m (fld v 2 0) s
  else if off = 0xB4 then readyAt (fld v 2 0) s
  else if 0x200 ≤ off ∧ off < 0x400 then
    let s1 := plainStore .fw off v mask s
    let o := off - off % 0x10
    if s1.getB .fw (o + 8) 31 = true ∧ s1.getF .fw (o + 4) 27 0 < s1.getF .fw o 27 0 then s.rejectD .fw off 0x01 else s1
  else plainStore .fw off v mask s

/-- The UNTESTED flag is in force (R902, R961). -/
def State.untested (s : State) : Bool := (List.range 6).any (fun k => (s.comp k).untested)

end Sys2Proof.Machine
end

