-- ==== Sys2Proof/Machine/Sample.lean ====
section
/-! DEFINITION. The sample pipeline (17): draws, crop, resize, colour, normalisation, batches, drop records. -/

namespace Sys2Proof.Machine

/-! ### Descriptors and registers -/

/-- The SPL as an agent (R792). -/
def agSpl : Agent := .spl
/-- The offset of a stream's control register (R819). -/
def spOff (i r : Nat) : Nat := 0x100 + 0x20 * i + r
/-- The offset of a stream's descriptor (R821). -/
def spDesc (i : Nat) : Nat := 0x100 + 0xA0 * i
/-- The descriptor's 160 bytes (R794). -/
def State.spBytes (s : State) (i : Nat) : List Byte :=
  (List.range 40).flatMap (fun k => leBytes (s.getN .spls (spDesc i + 4 * k)) 4)
/-- Byte `k` of a descriptor. -/
def State.spB (s : State) (i k : Nat) : Nat := s.getF .spls (spDesc i + 4 * (k / 4)) (8 * (k % 4) + 7) (8 * (k % 4))
/-- Bytes [lo, lo + n) of a descriptor as a number. -/
def State.spN (s : State) (i lo n : Nat) : Nat := leNat ((List.range n).map (fun k => BitVec.ofNat 8 (s.spB i (lo + k))))
/-- A stream outside its registers. -/
def State.sp (s : State) (i : Nat) : SplSt := (s.spl.get? i).getD SplSt.init
/-- Store a stream. -/
def State.setSp (s : State) (i : Nat) (x : SplSt) : State := { s with spl := s.spl.put i x }
/-- SP_STAT.ENABLED. -/
def State.spOn (s : State) (i : Nat) : Bool := s.getB .spl (spOff i 4) 0
/-- SP_STAT.HALTED. -/
def State.spHalted (s : State) (i : Nat) : Bool := s.getB .spl (spOff i 4) 3
/-- SP_CTRL.EN. -/
def State.spEn (s : State) (i : Nat) : Bool := s.getB .spl (spOff i 0) 0
/-- The prepared-batch ring of a stream (R790). -/
def spRing (i : Nat) : Nat := 64 + i
/-- SRC_RING. -/
def State.spSrc (s : State) (i : Nat) : Nat := s.spB i 0
/-- MODE.BUCKETS. -/
def State.spBuckets (s : State) (i : Nat) : Bool := s.spB i 1 % 2 == 1
/-- The number of buckets in use (R794). -/
def State.spNb (s : State) (i : Nat) : Nat := if s.spBuckets i then s.spB i 1 / 2 % 4 + 1 else 1
/-- Output channels C. -/
def State.spC (s : State) (i : Nat) : Nat := if s.spB i 2 % 4 = 2 then 1 else 3
/-- Element bytes E. -/
def State.spE (s : State) (i : Nat) : Nat := if s.spB i 3 % 16 = 1 ∨ s.spB i 3 % 16 = 2 then 1 else 2
/-- Output width of bucket `k`. -/
def State.spOw (s : State) (i k : Nat) : Nat := s.spN i (96 + 8 * k) 2
/-- Output height of bucket `k`. -/
def State.spOh (s : State) (i k : Nat) : Nat := s.spN i (98 + 8 * k) 2
/-- BATCH_N. -/
def State.spBatchN (s : State) (i : Nat) : Nat := s.spN i 40 2
/-- SAMPLE_STRIDE. -/
def State.spStride (s : State) (i : Nat) : Nat := s.spN i 44 4
/-- IN_LEN (R813). -/
def State.spInLen (s : State) (i : Nat) : Nat := s.spBatchN i * s.spStride i + 64 + 32 * s.spBatchN i
/-- BATCH_TMO. -/
def State.spTmo (s : State) (i : Nat) : Nat := s.spN i 36 4
/-- SP_NEXT. -/
def State.spNext (s : State) (i : Nat) : Nat := s.get64 .spl (spOff i 0xC)
/-- Pool buffer `k`. -/
def State.spBuf (s : State) (i k : Nat) : Nat := s.spN i 48 5 + k * s.spN i 56 4

/-- Entries of Q64 + i that name a buffer and are not consumed. -/
def spNamed (s : State) (i : Nat) : List (Nat × Nat) :=
  (s.sp i).named.filter
    (fun p => decide (ringDiff (s.rgN (spRing i)) p.1 (s.rgHead (spRing i)) < s.rgOcc (spRing i)))

/-- Batches that are open or closed and not published. -/
def SplSt.batches (x : SplSt) : List Batch :=
  x.open_ ++ x.queue.filterMap (fun q => match q with | .batch b => some b | .drop _ => none)

/-- The lowest free buffer (R810). -/
def spFree (s : State) (i : Nat) : Option Nat :=
  (List.range (s.spB i 53)).find?
    (fun k => !(s.sp i).batches.any (fun b => b.buf == k) && !(spNamed s i).any (fun p => p.2 == k))

/-! ### Draws (R798, R799) -/

/-- SCG-64 (R798). -/
def scg64 (seed i d : Nat) : Nat :=
  let m := 2 ^ 64
  let step := fun (p : Nat × Nat) =>
    let x := (p.1 + p.2) % m
    let x := x ^^^ (x >>> 31)
    let x := x * 0xA5C396F12B8D4E07 % m
    let x := x ^^^ (x >>> 29)
    (x, (p.2 + 0x6A09E667F3BCC909) % m)
  (step (step (step (step ((i * 16 + d) % m, seed % m))))).1

/-- Rounding down to even. -/
def evenDown (n : Nat) : Nat := n / 2 * 2

/-- The draws of a sample (R799). -/
structure Draws where
  sc   : Nat
  cw   : Nat
  ch   : Nat
  ox   : Nat
  oy   : Nat
  flip : Bool
  b    : Int
  g    : Nat
deriving DecidableEq, Repr

/-- A crop size from a window side and a scale (R799). -/
def cropSide (w sc : Nat) : Nat := max 2 (evenDown (w * sc / 256))

/-- The base window: origin and size, for a frame of w × h (R794, R799). -/
def baseWindow (s : State) (i w h : Nat) : Nat × Nat × Nat × Nat :=
  let cw := s.spN i 8 2
  let ch := s.spN i 10 2
  if cw = 0 ∧ ch = 0 then (0, 0, evenDown w, evenDown h) else (s.spN i 4 2, s.spN i 6 2, cw, ch)

/-- The draws of sample `idx` on a frame of w × h (R799). -/
def drawsOf (s : State) (i idx w h : Nat) : Draws :=
  let (cx, cy, ww, wh) := baseWindow s i w h
  let r := fun d => scg64 (s.spN i 16 8) idx d
  let hi := fun d => r d / 2 ^ 32
  let sj := s.spB i 12
  let bj := s.spB i 14
  let cj := s.spB i 15
  let sc := 256 - sj + hi 0 * (sj + 1) / 2 ^ 32
  let cw := cropSide ww sc
  let ch := cropSide wh sc
  { sc := sc, cw := cw, ch := ch,
    ox := cx + evenDown (hi 1 * (ww - cw + 1) / 2 ^ 32), oy := cy + evenDown (hi 2 * (wh - ch + 1) / 2 ^ 32),
    flip := decide (r 3 % 256 < s.spB i 13),
    b := (hi 4 * (2 * bj + 1) / 2 ^ 32 : Nat) - (bj : Int), g := 256 - cj + hi 5 * (2 * cj + 1) / 2 ^ 32 }

/-- The ratio limits of R801. -/
def ratioOk (o c : Nat) : Bool := decide (c ≤ 16 * o) && decide (o ≤ 4 * c)

/-- Every bucket keeps R801 for a window, at its largest and its smallest crop (R822 rule 10). -/
def windowRatios (s : State) (i w h : Nat) : Bool :=
  let small := 256 - s.spB i 12
  (List.range (s.spNb i)).all (fun k =>
    [256, small].all (fun sc => ratioOk (s.spOw i k) (cropSide w sc) && ratioOk (s.spOh i k) (cropSide h sc)))

/-- The bucket of a crop (R812). -/
def bucketOf (s : State) (i cw ch : Nat) : Nat :=
  let nb := s.spNb i
  ((List.range (nb - 1)).find? (fun k => decide (cw * 4096 / ch ≤ s.spN i (100 + 8 * k) 2))).getD (nb - 1)

/-! ### Pixels (R801-R808) -/

/-- A source coordinate in 16.16 (R802). -/
def srcCoord (u c o : Nat) : Nat :=
  let x := (2 * u + 1) * c * 32768 / o
  min (x - 32768) ((c - 1) * 65536)

/-- Bilinear interpolation at 16.16 coordinates in a plane of w × h (R802). -/
def bilinear (p : Nat → Nat → Nat) (w h sx sy : Nat) : Nat :=
  let x0 := sx / 65536
  let y0 := sy / 65536
  let fx := sx / 256 % 256
  let fy := sy / 256 % 256
  let x1 := min (x0 + 1) (w - 1)
  let y1 := min (y0 + 1) (h - 1)
  (p x0 y0 * (256 - fx) * (256 - fy) + p x1 y0 * fx * (256 - fy) + p x0 y1 * (256 - fx) * fy + p x1 y1 * fx * fy + 32768)
    / 65536

/-- A halved coordinate for chroma (R803). -/
def chromaCoord (sx c : Nat) : Nat := min (sx / 2) ((c / 2 - 1) * 65536)

/-- Clamp to a byte. -/
def clamp255 (i : Int) : Nat := (max 0 (min 255 i)).toNat

/-- Floor division by a power of two. -/
def ashr (i : Int) (k : Nat) : Int := i / (2 ^ k : Nat)

/-- YUV to RGB (R805). -/
def yuvRgb (bt709 limited : Bool) (y u v : Nat) : Nat × Nat × Nat :=
  let (kyy, yo, krv, kgu, kgv, kbu) : Int × Int × Int × Int × Int × Int :=
    match bt709, limited with
    | false, false => (1024, 0, 1436, 352, 731, 1815)
    | false, true => (1192, 16, 1634, 401, 832, 2066)
    | true, false => (1024, 0, 1613, 192, 479, 1900)
    | true, true => (1192, 16, 1836, 218, 546, 2163)
  let yy := kyy * ((y : Int) - yo)
  let du := (u : Int) - 128
  let dv := (v : Int) - 128
  (clamp255 (ashr (yy + krv * dv + 512) 10), clamp255 (ashr (yy - kgu * du - kgv * dv + 512) 10),
    clamp255 (ashr (yy + kbu * du + 512) 10))

/-- Jitter (R807). -/
def jitter (c g : Nat) (b : Int) : Nat := clamp255 (128 + ashr (((c : Int) - 128) * g) 8 + b)

/-- Normalisation and conversion to OUT_FMT (R808). -/
def normalise (c mean scale fmt : Nat) : Nat :=
  let d := (encodeFloat f32 0 false ((Num.ofInt c).add (ofF32 mean).neg).1).1
  let y := (encodeFloat f32 0 false ((ofF32 d).mul (ofF32 scale)).1).1
  (encodeElem fmt 0 true (ofF32 y)).1

/-- The source of a sample: plane address, stride, height, FORMAT. -/
structure Source where
  addr   : Nat
  stride : Nat
  height : Nat
  fmt    : Nat
deriving DecidableEq, Repr

/-- The source that a frame entry names (R733, R765). -/
def sourceOf (e : List Byte) : Source :=
  { addr := eNum e 16 5, stride := eNum e 26 2, height := eNum e 24 2, fmt := eByte e 3 }

/-- Output channel `j` of output pixel (u, v), before jitter (R801-R806). -/
def pixel (s : State) (i k : Nat) (src : Source) (d : Draws) (u v j : Nat) : Nat :=
  let ow := s.spOw i k
  let u' := if d.flip then ow - 1 - u else u
  let sx := srcCoord u' d.cw ow
  let sy := srcCoord v d.ch (s.spOh i k)
  let at_ := fun a => (s.byte a).toNat
  let plane := fun (f : Nat → Nat → Nat) (w h x y : Nat) => bilinear f w h x y
  let out := s.spB i 2
  let ch := out % 4
  if src.fmt = 0x12 then
    let c := fun q => plane (fun x y => at_ (src.addr + (d.oy + y) * src.stride + 3 * (d.ox + x) + q)) d.cw d.ch sx sy
    if ch = 2 then (77 * c 0 + 150 * c 1 + 29 * c 2 + 128) / 256
    else if ch = 0 then c j else c (2 - j)
  else
    let y := plane (fun x y => at_ (src.addr + (d.oy + y) * src.stride + d.ox + x)) d.cw d.ch sx sy
    if ch = 2 then y
    else
      let half := src.fmt = 0x10
      let uv := src.addr + src.stride * src.height
      let oy := if half then d.oy / 2 else d.oy
      let hh := if half then d.ch / 2 else d.ch
      let cy := if half then chromaCoord sy d.ch else sy
      let c := fun q => plane (fun x y => at_ (uv + (oy + y) * src.stride + 2 * (d.ox / 2 + x) + q)) (d.cw / 2) hh
        (chromaCoord sx d.cw) cy
      let (r, g, b) := yuvRgb (out / 8 % 2 == 1) (out / 16 % 2 == 1) y (c 0) (c 1)
      if j = 1 then g else if (j = 0) = (ch = 0) then r else b

/-- The bytes of one element (R807-R809). -/
def element (s : State) (i k : Nat) (src : Source) (d : Draws) (u v j : Nat) : List Byte :=
  let c := jitter (pixel s i k src d u v j) d.g d.b
  leBytes (normalise c (s.spN i (64 + 4 * j) 4) (s.spN i (76 + 4 * j) 4) (s.spB i 3 % 16)) (s.spE i)

/-- The tensor of a sample in the order of R809. -/
def tensor (s : State) (i k : Nat) (src : Source) (d : Draws) : List Byte :=
  let ow := s.spOw i k
  let oh := s.spOh i k
  let c := s.spC i
  if s.spB i 2 / 4 % 2 = 0 then
    (List.range (ow * oh * c)).flatMap (fun n => element s i k src d (n / c % ow) (n / c / ow) (n % c))
  else (List.range (ow * oh * c)).flatMap (fun n => element s i k src d (n % ow) (n / ow % oh) (n / ow / oh))

/-- The byte ranges a sample reads, row by row. -/
def sourceRows (src : Source) (d : Draws) : List (Nat × Nat) :=
  let row := fun a y x n => (a + y * src.stride + x, n)
  if src.fmt = 0x12 then (List.range d.ch).map (fun y => row src.addr (d.oy + y) (3 * d.ox) (3 * d.cw))
  else
    let uv := src.addr + src.stride * src.height
    let half := src.fmt = 0x10
    (List.range d.ch).map (fun y => row src.addr (d.oy + y) d.ox d.cw) ++
      (List.range (if half then d.ch / 2 else d.ch)).map
        (fun y => row uv ((if half then d.oy / 2 else d.oy) + y) d.ox d.cw)

/-! ### Judging an entry (R796) -/

/-- What R796 makes of an entry. -/
inductive SplVerdict where
  | skip | badFormat | stale | damaged | badGeometry | accept
deriving DecidableEq, Repr

/-- The first rule of R796 that applies. -/
def judgeEntry (s : State) (i : Nat) (e : List Byte) : SplVerdict :=
  let f := eByte e 0 % 16
  let fmt := eByte e 3
  let w := eNum e 22 2
  let h := eNum e 24 2
  let stale := s.spN i 32 4
  let (cx, cy, ww, wh) := baseWindow s i w h
  let whole := s.spN i 8 2 = 0 ∧ s.spN i 10 2 = 0
  if !checkOk e then .skip
  else if (f ≠ 4 ∧ f ≠ 6) ∨ fmt < 0x10 ∨ 0x12 < fmt ∨ (f = 6 ∧ fmt ≠ 0x10) ∨ (f = 6 ∧ eByte e 1 / 2 % 2 = 1) then .badFormat
  else if stale ≠ 0 ∧ eNum e 8 8 + stale ≤ s.dt then .stale
  else if eByte e 1 % 2 = 1 ∧ s.spB i 1 / 8 % 2 = 1 then .damaged
  else if w < cx + ww ∨ h < cy + wh ∨ ww = 0 ∨ wh = 0 ∨ (whole ∧ !windowRatios s i ww wh) then .badGeometry
  else .accept

/-- CHECK of a descriptor holds (R794). -/
def spDescOk (s : State) (i : Nat) : Bool := checkOk (s.spBytes i)

/-- A closed batch waits for ring space (R793, R817). -/
def spHeld (s : State) (i : Nat) : Bool :=
  s.rgFull (spRing i) && (s.sp i).queue.any (fun q => match q with | .batch _ => true | .drop _ => false)

/-- The draws for the entry at the source head, taken as the next index. -/
def nextDraws (s : State) (i : Nat) (e : List Byte) : Draws := drawsOf s i (s.spNext i) (eNum e 22 2) (eNum e 24 2)

/-- Stream `i` is ready (R793). -/
def spReady (s : State) (i : Nat) : Bool :=
  let q := s.spSrc i
  let e := s.rgFront q
  s.spOn i && s.spEn i && !s.spHalted i && s.rgWaits q && !spHeld s i &&
    (match judgeEntry s i e with
     | .accept =>
       let d := nextDraws s i e
       (s.sp i).open_.any (fun b => b.bucket == bucketOf s i d.cw d.ch) || (spFree s i).isSome
     | .stale => (((s.sp i).run.map (fun r => decide (r.count < 65535))).getD true)
     | _ => true)

/-- The stream that round robin serves next (R793). -/
def spTurn (s : State) : Option Nat := ((List.range 16).map (fun k => (s.splLast + 1 + k) % 16)).find? (spReady s)

/-! ### Taking (R795-R797, R816) -/

/-- One sample index is consumed (R795). -/
def spIndex (i : Nat) (s : State) : State := s.set64 .spl (spOff i 0xC) ((s.spNext i + 1) % 2 ^ 60)

/-- The drop run ends: its record joins the queue (R816). -/
def endRun (i : Nat) (s : State) : State :=
  let x := s.sp i
  match x.run with
  | some r =>
    if r.ended then s
    else s.setSp i { x with run := some { r with ended := true }, queue := x.queue ++ [.drop x.seq], seq := x.seq + 1 }
  | none => s

/-- A stale drop (R816); it joins a run whose record still waits (R817). -/
def staleDrop (i : Nat) (e : List Byte) (s : State) : State :=
  let x := s.sp i
  let r := match x.run with
    | some r => { r with count := r.count + 1 }
    | none => { first := s.spNext i, capture := eNum e 8 8, count := 1, since := s.dt, ended := false }
  let s1 := s.setSp i { x with run := some r }
  if 65535 ≤ r.count then endRun i s1 else s1

/-- An entry is dropped: index, head, counter (R795-R797). -/
def dropEntry (i off : Nat) (s : State) : State :=
  takeHead (s.spSrc i) (spIndex i ((s.count .spl (spOff i off) 1).irq .spl 8))

/-- A record of the SPL. -/
def spErr (code cls : Nat) (s : State) : State := s.raise .spl code 0 cls []

/-- A new batch for a bucket (R810). -/
def openBatch (i k buf : Nat) (s : State) : State :=
  let x := s.sp i
  s.setSp i { x with open_ := x.open_ ++ [
    { bucket := k, buf := buf, count := 0, since := s.dt, first := 0, capture := 0, damaged := false, expired := false,
      flags := 0, seq := 0 }] }

/-- Change the open batch of a bucket. -/
def onBatch (i k : Nat) (g : Batch → Batch) (s : State) : State :=
  let x := s.sp i
  s.setSp i { x with open_ := x.open_.map (fun b => if b.bucket = k then g b else b) }

/-- A sample is accepted (R795, R811, R816, R827). -/
def acceptSample (i : Nat) (e : List Byte) (s : State) : State :=
  let d := nextDraws s i e
  let k := bucketOf s i d.cw d.ch
  let has := (s.sp i).open_.any (fun b => b.bucket == k)
  if !has && !spDescOk s i then spErr 0x5033 clsTransient ((s.setB .spl (spOff i 4) 3 true).irq .spl 9)
  else
    let s1 := if has then s else openBatch i k ((spFree s i).getD 0) s
    let s2 := onBatch i k (fun b => if b.count = 0 then { b with since := s.dt, expired := false } else b) (endRun i s1)
    let idx := s.spNext i
    let s3 := spIndex i (s2.count .spl (spOff i 0x14) 1)
    { (s3.setN .spl 0x40 (1 + 256 * i)) with splJob := some { stream := i, entry := e, index := idx, bucket := k } }

/-- SAMPLE_TAKE: stream `i` is served when its turn has come (R793, R796). -/
def sampleTakeAt (i : Nat) (s : State) : State :=
  if !s.up .spl || s.splJob.isSome || spTurn s != some i then s
  else
    let s0 := { s with splLast := i }
    let q := s.spSrc i
    let e := s.rgFront q
    match judgeEntry s i e with
    | .skip =>
      let s1 := (ringBad q (s.rgHead q) s0)
      dropEntry i 0x1C (spErr 0x5030 clsTransient s1)
    | .badFormat => dropEntry i 0x1C (spErr 0x5031 clsConfig s0)
    | .stale => takeHead q (spIndex i (staleDrop i e (s0.count .spl (spOff i 0x18) 1)))
    | .damaged => dropEntry i 0x1C s0
    | .badGeometry => dropEntry i 0x1C (spErr 0x5031 clsConfig s0)
    | .accept => acceptSample i e s0

/-! ### Batches (R811, R813, R824, R825, R828) -/

/-- The header of a batch (R813). -/
def batchHeader (b : Batch) : List Byte :=
  (List.range 32).map (fun j => BitVec.ofNat 8 (bitsOf8 (fun t => decide (8 * j + t < b.count)))) ++ leBytes b.first 8 ++
    leBytes b.count 2 ++ leBytes b.bucket 1 ++ leBytes 0 1 ++ leBytes b.seq 4 ++ List.replicate 16 0#8
where
  /-- Eight bits as a number. -/
  bitsOf8 (f : Nat → Bool) : Nat := (List.range 8).foldl (fun a t => a + (if f t then 2 ^ t else 0)) 0

/-- An open batch leaves without an entry. -/
def dropBatch (i k : Nat) (s : State) : State :=
  let x := s.sp i
  s.setSp i { x with open_ := x.open_.filter (fun b => b.bucket != k) }

/-- An open batch closes (R811, R813, R828): unused slots and records are zero, the header is written. -/
def closeBatch (i k flags : Nat) (s : State) : State :=
  match (s.sp i).open_.find? (fun b => b.bucket == k) with
  | none => s
  | some b =>
    let base := s.spBuf i b.buf
    let n := s.spBatchN i
    let st := s.spStride i
    let meta_ := base + n * st
    match camFails s agSpl base (s.spInLen i) with
    | some (x, c) => dropBatch i k (spErr 0x5032 clsTransient (accFail agSpl x true c s))
    | none =>
      let b1 := { b with flags := flags, seq := (s.sp i).seq }
      let s1 := (ddrReach agSpl (base + b.count * st) ((n - b.count) * st) s).storeBytes (base + b.count * st)
        (List.replicate ((n - b.count) * st) 0#8)
      let s2 := (ddrReach agSpl (meta_ + 64 + 32 * b.count) (32 * (n - b.count)) s1).storeBytes (meta_ + 64 + 32 * b.count)
        (List.replicate (32 * (n - b.count)) 0#8)
      let s3 := (ddrReach agSpl meta_ 64 s2).storeBytes meta_ (batchHeader b1)
      let x := (dropBatch i k s3).sp i
      s3.setSp i { x with queue := x.queue ++ [.batch b1], seq := x.seq + 1 }

/-- TIMEOUT of an entry's FLAGS. -/
def fTimeout : Nat := 0x10
/-- FLUSH of an entry's FLAGS. -/
def fFlush : Nat := 0x20

/-- The record of a sample (R813). -/
def sampleRecord (e : List Byte) (idx : Nat) (d : Draws) : List Byte :=
  let frame := if eByte e 0 % 16 = 6 then 0 else eNum e 4 2
  leBytes idx 8 ++ leBytes (eNum e 8 8) 8 ++ leBytes frame 2 ++ leBytes (1 + 2 * d.flip.toNat + 4 * (eByte e 1 % 2)) 1 ++
    leBytes (unsigned 8 d.b) 1 ++ leBytes d.g 2 ++ leBytes d.sc 2 ++ leBytes d.ox 2 ++ leBytes d.oy 2 ++ leBytes d.cw 2 ++
    leBytes d.ch 2

/-- ENABLED clears once a stream that was switched off has published everything (R825). -/
def spSettle (i : Nat) (s : State) : State :=
  let x := s.sp i
  if s.spOn i && !s.spEn i && x.queue.isEmpty && x.open_.isEmpty && !(s.splJob.map (fun j => j.stream == i)).getD false then
    s.setB .spl (spOff i 4) 0 false
  else s

/-- Every open batch of a stream closes with FLUSH, the drop run ended first (R825, R826). -/
def spFlush (i : Nat) (s : State) : State :=
  let s1 := endRun i s
  let s2 := (s1.sp i).open_.foldl (fun t b => if b.count = 0 then dropBatch i b.bucket t else closeBatch i b.bucket fFlush t) s1
  spSettle i s2

/-- The sample in progress ends: SPL_STAT.BUSY clears, and a stream switched off meanwhile flushes (R825). -/
def endJob (i : Nat) (s : State) : State :=
  let s1 := { s.setN .spl 0x40 0 with splJob := none }
  if s1.spEn i then s1 else spFlush i s1

/-- SAMPLE_COMPLETE: tensor and record are written, the head moves, the batch may close (R797, R811, R824, R828). -/
def sampleCompleteAt (i : Nat) (s : State) : State :=
  match s.splJob with
  | none => s
  | some j =>
    if j.stream ≠ i then s
    else
      let e := j.entry
      let src := sourceOf e
      let d := drawsOf s i j.index (eNum e 22 2) (eNum e 24 2)
      let rows := sourceRows src d
      match rows.findSome? (fun r => readFails s agSpl r.1 r.2) with
      | some (x, c) =>
        let s1 := takeHead (s.spSrc i) (spErr 0x5032 clsTransient (accFail agSpl x false c s))
        let s2 := (s1.count .spl (spOff i 0x1C) 1).irq .spl 8
        let due := (s.sp i).open_.any (fun b => b.bucket == j.bucket && b.expired && b.count != 0)
        endJob i (if due then closeBatch i j.bucket fTimeout s2 else s2)
      | none =>
        match (s.sp i).open_.find? (fun b => b.bucket == j.bucket) with
        | none => endJob i s
        | some b =>
          let base := s.spBuf i b.buf
          let at_ := base + b.count * s.spStride i
          let rec_ := base + s.spBatchN i * s.spStride i + 64 + 32 * b.count
          let bytes := tensor s i j.bucket src d
          let s1 := takeHead (s.spSrc i) (rows.foldl (fun t r => ddrReach agSpl r.1 r.2 t) s)
          match camFails s1 agSpl base (s.spInLen i) with
          | some (x, c) => endJob i (dropBatch i j.bucket (spErr 0x5032 clsTransient (accFail agSpl x true c s1)))
          | none =>
            let s2 := (ddrReach agSpl at_ bytes.length s1).storeBytes at_ bytes
            let s3 := (ddrReach agSpl rec_ 32 s2).storeBytes rec_ (sampleRecord e j.index d)
            let cap := eNum e 8 8
            let s4 := onBatch i j.bucket (fun b =>
              { b with count := b.count + 1, first := if b.count = 0 then j.index else b.first,
                       capture := if b.count = 0 then cap else min b.capture cap,
                       damaged := b.damaged || eByte e 1 % 2 == 1 }) (s3.count .spl 0x44 1)
            let s5 := if b.count + 1 = s.spBatchN i then closeBatch i j.bucket 0 s4
                      else if b.expired then closeBatch i j.bucket fTimeout s4 else s4
            endJob i s5

/-- BATCH_TMO after a run's first drop (R816). -/
def dropRunTimeoutAt (i : Nat) (s : State) : State :=
  match (s.sp i).run with
  | some r => if s.spTmo i ≠ 0 ∧ r.since + s.spTmo i ≤ s.dt then endRun i s else s
  | none => s

/-- BATCH_TMO of an open batch passes; a drop run that is due with it goes first (R811, R824, R826). -/
def batchTimeoutAt (i : Nat) (s : State) : State :=
  let tmo := s.spTmo i
  let inJob := fun (b : Batch) => (s.splJob.map (fun j => j.stream == i && j.bucket == b.bucket)).getD false
  match (s.sp i).open_.find?
      (fun b => tmo != 0 && !b.expired && decide (b.since + tmo ≤ s.dt) && (b.count != 0 || inJob b)) with
  | none => s
  | some b =>
    if inJob b then onBatch i b.bucket (fun b => { b with expired := true }) s
    else closeBatch i b.bucket fTimeout (dropRunTimeoutAt i s)

/-- The prepared-batch entry of a batch (R814). -/
def batchEntry (s : State) (i : Nat) (b : Batch) : List Byte :=
  let flags := 1 + 4 * b.damaged.toNat + (if b.count < s.spBatchN i then 8 else 0) + b.flags
  withCheck (leBytes 10 1 ++ leBytes flags 1 ++ leBytes b.count 2 ++ leBytes b.seq 4 ++ leBytes b.capture 8 ++
    leBytes (s.spBuf i b.buf) 5 ++ leBytes b.bucket 1 ++ leBytes b.buf 1 ++ leBytes 0 1 ++ leBytes (s.spInLen i) 4 ++
    leBytes 0 12 ++ leBytes (s.spN i (128 + 4 * b.bucket) 4) 4 ++ leBytes 0 4 ++ leBytes b.first 8 ++
    leBytes (s.spBatchN i) 2 ++ leBytes 0 5)

/-- The entry of a drop record (R814, R816). -/
def dropEntryOf (s : State) (i seq : Nat) (r : DropRun) : List Byte :=
  withCheck (leBytes 10 1 ++ leBytes 3 1 ++ leBytes r.count 2 ++ leBytes seq 4 ++ leBytes r.capture 8 ++
    leBytes 0 24 ++ leBytes (s.spN i 128 4) 4 ++ leBytes 0 4 ++ leBytes r.first 8 ++ leBytes (s.spBatchN i) 2 ++ leBytes 0 5)

/-- The next closed batch is published (R815, R817). -/
def batchPublishAt (i : Nat) (s : State) : State :=
  let x := s.sp i
  let q := spRing i
  match x.queue with
  | .batch b :: rest =>
    if !s.rgProduces q then s
    else if s.rgFull q then ringFull q s
    else
      let s1 := s.setSp i { x with queue := rest, named := spNamed s i ++ [(s.rgTail q, b.buf)] }
      spSettle i (ringPut (some agSpl) q (batchEntry s i b) s1)
  | _ => s

/-- A drop record is published (R815-R817). -/
def dropPublishAt (i : Nat) (s : State) : State :=
  let x := s.sp i
  let q := spRing i
  match x.queue, x.run with
  | .drop seq :: rest, some r =>
    if !s.rgProduces q then s
    else if s.rgFull q then ringFull q s
    else spSettle i (ringPut (some agSpl) q (dropEntryOf s i seq r) (s.setSp i { x with queue := rest, run := none }))
  | _, _ => s

/-! ### Stream check and control (R822, R825, R829) -/

/-- Reserved fields of a descriptor are set, or a reserved code (R822 rule 3). -/
def spReserved (s : State) (i : Nat) : Bool :=
  decide (s.spB i 1 / 16 ≠ 0) || decide (s.spB i 2 / 32 ≠ 0) || decide (s.spB i 3 / 16 ≠ 0) || decide (s.spN i 24 8 / 2 ^ 60 ≠ 0)
    || [(42, 2), (54, 2), (60, 4), (88, 8), (102, 2), (110, 2), (118, 2), (126, 2), (144, 15)].any (fun p => s.spN i p.1 p.2 != 0)
    || s.spB i 2 % 4 == 3 || (!s.spBuckets i && s.spB i 1 / 2 % 4 != 0)

/-- A finite FP32. -/
def finiteF32 (w : Nat) : Bool := (ofF32 w).isFin

/-- The stream check: the first failing rule, as code and stream-table offset (R822). -/
def spCheck (s : State) (i : Nat) : Option (Nat × Nat) :=
  let o := fun k => spDesc i + k / 4 * 4
  let src := s.spSrc i
  let q := spRing i
  let nb := s.spNb i
  let ks := List.range nb
  let cw := s.spN i 8 2
  let chh := s.spN i 10 2
  let whole := cw = 0 ∧ chh = 0
  let fmt := s.spB i 3 % 16
  let pool := s.spN i 48 5
  let bsz := s.spN i 56 4
  if !s.up .spl then some (0x5008, o 0)
  else if !spDescOk s i then some (0x500C, o 156)
  else if spReserved s i then some (0x5002, o 0)
  else if fmt ≠ 1 ∧ fmt ≠ 2 ∧ fmt ≠ 7 ∧ fmt ≠ 8 then some (0x5026, o 0)
  else if !((80 ≤ src ∧ src ≤ 95) ∨ (97 ≤ src ∧ src ≤ 100)) then some (0x5020, o 0)
  else if !(s.rgOn src && s.rgHwCons src && s.rgEsize src == 32) then some (0x5008, o 0)
  else if (List.range 16).any (fun t => t != i && s.spOn t && s.spSrc t == src) then some (0x5021, o 0)
  else if !(s.rgOn q && s.rgHwProd q && s.rgEsize q == 64) then some (0x5008, o 0)
  else if s.spBatchN i = 0 then some (0x5004, o 40)
  else if ks.any (fun k => s.spOw i k == 0 || s.spOh i k == 0) then some (0x5004, o 96)
  else if 256 < s.spBatchN i then some (0x5001, o 40)
  else if 224 < s.spB i 12 ∨ 127 < s.spB i 14 ∨ 128 < s.spB i 15 then some (0x5001, o 12)
  else if (List.range 6).any (fun k => !finiteF32 (s.spN i (64 + 4 * k) 4)) then some (0x5001, o 64)
  else if [4, 6, 8, 10].any (fun k => s.spN i k 2 % 2 != 0) then some (0x5003, o 4)
  else if (cw = 0) ≠ (chh = 0) ∨ (whole ∧ (s.spN i 4 2 ≠ 0 ∨ s.spN i 6 2 ≠ 0)) then some (0x5002, o 4)
  else if ks.any (fun k => decide (s.spOw i k < 8) || decide (2048 < s.spOw i k) || decide (s.spOh i k < 8) || decide (2048 < s.spOh i k))
      ∨ (¬whole ∧ !windowRatios s i cw chh) then some (0x5022, o 96)
  else if s.spStride i % 64 ≠ 0 then some (0x5003, o 44)
  else if pool % 64 ≠ 0 then some (0x5003, o 48)
  else if bsz % 64 ≠ 0 then some (0x5003, o 56)
  else if ks.any (fun k => decide (s.spStride i < s.spOw i k * s.spOh i k * s.spC i * s.spE i)) then some (0x5023, o 44)
  else if bsz < s.spInLen i then some (0x5023, o 56)
  else if !inDramWindow pool (s.spB i 53 * bsz) then some (0x5023, o 48)
  else if s.spB i 53 < s.rgN q + 2 * nb then some (0x5024, o 53)
  else if (List.range (nb - 2)).any (fun k => decide (s.spN i (100 + 8 * (k + 1)) 2 ≤ s.spN i (100 + 8 * k) 2)) then some (0x5025, o 100)
  else none

/-- SP_STAT.BUSY: the stream check runs (R820, R822). -/
def State.spBusy (s : State) (i : Nat) : Bool := s.getB .spl (spOff i 4) 2

/-- The stream check completes (R822, R59, R60). -/
def spCheckDone (i : Nat) (s0 : State) : State :=
  if !s0.spBusy i then s0
  else
    let s := s0.setB .spl (spOff i 4) 2 false
    match spCheck s i with
    | none =>
      let s1 := (s.setN .spl (spOff i 4) 1).setN .spl (spOff i 8) 0
      let s2 := s1.set64 .spl (spOff i 0xC) (s.spN i 24 8)
      s2.setSp i { SplSt.init with named := spNamed s i }
    | some (code, off) =>
      refuse .spl code off (((s.setN .spl (spOff i 0) 0).setB .spl (spOff i 4) 1 true).setN .spl (spOff i 8) (code + off * 0x10000))

/-- A write of SP_CTRL (R822, R825): EN at 1 starts the stream check. -/
def spCtrl (i : Nat) (v : Word) (s : State) : State :=
  if bit v 0 then
    if s.spOn i ∨ s.spBusy i then s else (s.setN .spl (spOff i 0) 1).setB .spl (spOff i 4) 2 true
  else if !s.spOn i then (s.setN .spl (spOff i 0) 0).setB .spl (spOff i 4) 2 false
  else
    let s1 := (s.setN .spl (spOff i 0) 0).setB .spl (spOff i 4) 3 false
    if (s.splJob.map (fun j => j.stream == i)).getD false then endRun i s1 else spFlush i s1

/-- A write to a register of the SPL page that passed judgement. -/
def splStore (off : Nat) (v mask : Word) (s : State) : State :=
  if 0x100 ≤ off ∧ off < 0x300 ∧ off % 0x20 = 0 then spCtrl ((off - 0x100) / 0x20) v s
  else plainStore .spl off v mask s

/-- What a read of the SPL page shows: HELD, DROP_PEND, OPEN (R820). -/
def splView (off : Nat) (s : State) : Word :=
  let w := s.get .spl off
  if 0x100 ≤ off ∧ off < 0x300 ∧ off % 0x20 = 4 then
    let i := (off - 0x100) / 0x20
    let x := s.sp i
    w ||| wd (16 * (spHeld s i).toNat + 32 * x.run.isSome.toNat + x.open_.foldl (fun a b => a + 256 * 2 ^ b.bucket) 0)
  else w

/-- The SPL page is disabled: as EN at 0 for every stream (log entry 28). -/
def splStop (s : State) : State := (List.range 16).foldl (fun t i => spCtrl i 0 t) s

/-- SOFT_RST of the SPL page (R829): everything not published is discarded. -/
def splReset (s : State) : State :=
  { s with spl := (List.range 16).foldl (fun m i => m.put i { SplSt.init with named := spNamed s i }) s.spl,
           splJob := none, splLast := 15 }

end Sys2Proof.Machine
end

