-- ==== Sys2Proof/Machine/Check.lean ====
section
/-! DEFINITION. Checking (20): the ERR queue, mirror and logs, lockstep divergences, the scrub, injection. -/

namespace Sys2Proof.Machine

/-! ### The record's bytes (R959) -/

/-- A record as its 32 bytes. -/
def ErrRec.bytes (r : ErrRec) : List Byte :=
  leBytes r.dt 8 ++ leBytes r.unit 2 ++ leBytes r.code 2 ++ leBytes r.op 4 ++ leBytes r.temp 2 ++ leBytes r.volt 2 ++
    leBytes r.cls 1 ++ leBytes r.rpt 1 ++ pad10 r.detail

/-- The record that 32 bytes spell. -/
def recOfBytes (b : List Byte) : ErrRec :=
  { dt := at' b 0 8, unit := at' b 8 2, code := at' b 10 2, op := at' b 12 4, temp := at' b 16 2, volt := at' b 18 2,
    cls := at' b 20 1, rpt := at' b 21 1, detail := slice b 22 10 }

/-- Change the checking hardware. -/
def onCheck (f : CheckSt → CheckSt) (s : State) : State := { s with check := f s.check }

/-! ### Queue (R961, R964, R966, R967) -/

/-- Two records are identical for R966. -/
def ErrRec.same (a b : ErrRec) : Bool := a.unit == b.unit && a.code == b.code && a.op == b.op && a.cls == b.cls

/-- The record with the UNTESTED flag as R961 sets it. -/
def flagged (s : State) (r : ErrRec) : ErrRec := { r with cls := r.cls % 128 + 128 * s.untested.toNat }

/-- Merge into the first identical record. -/
def mergeRec (r : ErrRec) : List ErrRec → List ErrRec
  | [] => []
  | q :: qs => if q.same r then { q with rpt := satAdd q.rpt 1 255 } :: qs else q :: mergeRec r qs

/-- A record finds no room (R967). -/
def recDropped (queue : List ErrRec) (r : ErrRec) : Bool :=
  let kept := r.cls % 8 == clsPermanent || r.cls % 8 == clsLatent
  decide (64 ≤ queue.length) || (!kept && decide (56 ≤ queue.length))

/-- A record enters the queue (R961, R966, R967, R969). -/
def enterRec (r0 : ErrRec) (s : State) : State :=
  let r := flagged s r0
  if s.check.queue.any (fun q => q.same r) then onCheck (fun k => { k with queue := mergeRec r k.queue }) s
  else if recDropped s.check.queue r then ((s.count .err 0x44 1).setB .err 0x40 8 true).irq .err 9
  else
    let s1 := onCheck (fun k => { k with queue := k.queue ++ [r], mirror := k.mirror ++ [r] }) s
    if r.cls % 8 = clsPermanent then s1.irq .err 10 else s1

/-- The next record to enter: of those that one command raised, the lowest UNIT first (R964). -/
def nextRaised (l : List (Nat × ErrRec)) : Option (Nat × ErrRec) :=
  match l with
  | [] => none
  | (g, r) :: rest =>
    some (rest.foldl (fun b p => if p.1 = g ∧ p.2.unit < b.2.unit then p else b) (g, r))

/-- ERROR_RECORD_ENTRY. -/
def recordEntryAt (s : State) : State :=
  match nextRaised s.check.raised with
  | none => s
  | some p => enterRec p.2 (onCheck (fun k => { k with raised := k.raised.erase p }) s)

/-! ### Mirror (R969, R970) -/

/-- The conditions of R969. -/
def State.mirrors (s : State) : Bool :=
  s.getB .fw 0x48 1 && s.rgProduces 104 && s.rgEsize 104 == 16

/-- The event entry of a record (R410). -/
def eventEntry (r : ErrRec) : List Byte :=
  withCheck (leBytes 3 1 ++ leBytes 1 1 ++ leBytes r.unit 2 ++ leBytes r.dt 8 ++ leBytes r.code 2 ++ leBytes r.cls 1)

/-- MIRROR_ENTRY: the entry is written, lost on a full ring, or not due. -/
def mirrorEntryAt (s : State) : State :=
  match s.check.mirror with
  | [] => s
  | r :: rest =>
    let s1 := onCheck (fun k => { k with mirror := rest }) s
    if !s1.mirrors then s1
    else if s1.rgFull 104 then s1.count .err 0x48 1
    else ringPut none 104 (eventEntry r) s1

/-! ### Logs and reports (R927, R928) -/

/-- RAM log base. -/
def logBase : Nat := 0x80400000
/-- BELV_LOG_NEXT. -/
def State.logNext (s : State) : Nat := s.getN .belv 0x4C
/-- BELV_LOG_ACK. -/
def State.logAck (s : State) : Nat := s.getN .belv 0x50
/-- Records not yet reported. -/
def State.logOpen (s : State) : Nat := (s.logNext + 2 ^ 32 - s.logAck) % 2 ^ 32
/-- A record of the RAM log. -/
def State.logRec (s : State) (i : Nat) : List Byte := s.bytes (logBase + 32 * (i % 4096)) 32
/-- Change the firmware's state. -/
def onFw (f : FwSt → FwSt) (s : State) : State := { s with fw := f s.fw }

/-- Append to the flash log; the oldest sector is erased when it needs space (R928). -/
def flashLogPut (bs : List Byte) (s : State) : State :=
  let k := s.fw.flashLog
  let s1 := if k % 128 = 0 then flashPut (0x10000 + 32 * (k % 2048)) (List.replicate 4096 0xFF#8) s else s
  onFw (fun f => { f with flashLog := k + 1 }) (flashPut (0x10000 + 32 * (k % 2048)) bs s1)

/-- The endpoint sends a message on its own. -/
def sendMsg (dst kind : Nat) (body : List Byte) (s : State) : State :=
  { s with resp := { s.resp with msgs := s.resp.msgs ++ [{ dst := dst, kind := kind, body := body }] } }

/-- The ERROR_REPORT for records from FIRST on (R925). -/
def reportBody (s : State) (first n : Nat) : List Byte :=
  leBytes first 4 ++ leBytes n 1 ++ leBytes (min s.fw.lost 255) 1 ++ [0, 0] ++
    (List.range n).flatMap (fun i => s.logRec (first + i))

/-- The report destination (R917). -/
def State.reportDst (s : State) : Nat := s.getF .belv 0x44 15 8

/-- Send an ERROR_REPORT unless one is outstanding (R927). -/
def sendReport (s : State) : State :=
  if s.fw.report.isSome ∨ s.getF .belv 0x44 7 0 = 0 ∨ s.logOpen = 0 then s
  else
    let n := min 4 s.logOpen
    sendMsg s.reportDst 0x7F01 (reportBody s s.logAck n) (onFw (fun f => { f with report := some (s.dt, s.logAck, n) }) s)

/-- FW1 logs a record (R928) and reports it (R927). -/
def logRecord (r : ErrRec) (s : State) : State :=
  let n := s.logNext
  let bs := r.bytes
  let s1 := if s.logOpen < 4096 then s
            else onFw (fun f => { f with lost := f.lost + 1 }) (s.setN .belv 0x50 (s.logAck + 1))
  let s2 := (if s1.enabled .ddrc then s1.storeBytes (logBase + 32 * (n % 4096)) bs else s1).setN .belv 0x4C (n + 1)
  let c := r.cls % 8
  let s3 := onFw (fun f => { f with counts := f.counts.put c (((f.counts.get? c).getD 0) + 1) }) s2
  sendReport (if c = clsPermanent then flashLogPut bs s3 else s3)

/-- ERR_POP (R968, R977): FW1 logs what it pops. -/
def popAt (m : Master) (v : Word) (s : State) : State :=
  if !bit v 0 then s
  else
    match s.check.queue with
    | [] => s.reject .err 0x4C 0x0722
    | r :: rest =>
      let s1 := onCheck (fun k => { k with queue := rest }) s
      if m = .belvedere ∧ !s.belvSec then logRecord r s1 else s1

/-- The response to an ERROR_REPORT (R927). -/
def reportAckAt (body : List Byte) (s : State) : State :=
  match s.fw.report with
  | none => s
  | some (_, first, n) =>
    let a := at' body 0 4
    let ok := decide ((a + 2 ^ 32 - first) % 2 ^ 32 ≤ n)
    let s1 := onFw (fun f => { f with report := none, lost := 0 }) s
    sendReport (if ok then s1.setN .belv 0x50 a else s1)

/-- An unanswered ERROR_REPORT is sent again after 1 s (R927). -/
def reportResendAt (s : State) : State :=
  match s.fw.report with
  | some (d, first, n) =>
    if d + oneSecond ≤ s.dt then
      sendMsg s.reportDst 0x7F01 (reportBody s first n) (onFw (fun f => { f with report := some (s.dt, first, n) }) s)
    else s
  | none => s

/-! ### Firmware records (R971, R976) -/

/-- The staged words of a writer, as bytes. -/
def State.stagedBytes (s : State) (code : Nat) : List Byte :=
  (List.range 8).flatMap (fun w => leBytes ((s.check.staged.get? (8 * code + w)).getD 0).toNat 4)

/-- The units a domain may name (R971). -/
def raiseMay (d unit : Nat) : Bool :=
  let t := unit / 256
  d == domSec || d == domMgmt || (d == domSched && (t == 0x21 || t == 0x22)) || (d == domGate && decide (0x60 ≤ t) && decide (t ≤ 0x62))

/-- ERR_RAISE_GO. -/
def raiseGoAt (m : Master) (v : Word) (s : State) : State :=
  if !bit v 0 then s
  else
    let r := recOfBytes (s.stagedBytes m.code)
    if 5 ≤ r.cls % 8 then s.rejectD .err 0x90 0x02
    else if !raiseMay (m.dom s) r.unit then s.reject .err 0x90 0x0720
    else enterRec r s

/-! ### Divergence (R947-R953, R962) -/

/-- The block of a pair (R962). -/
def pairBlk (p : Nat) : Blk := if p = 0 then .belv else if p = 1 then .disp else .csq (p - 2)

/-- DETAIL of a divergence record. -/
def divDetail (p kind idx : Nat) (main chk : Word) : List Byte :=
  [BitVec.ofNat 8 p, BitVec.ofNat 8 kind] ++ leBytes idx 2 ++ leBytes main.toNat 4 ++ leBytes chk.toNat 2

/-- A pair has retired. -/
def State.pairRetired (s : State) (p : Nat) : Bool :=
  (p == 1 && s.check.retDisp) || (decide (2 ≤ p) && s.check.retCl.getLsbD (p - 2))

/-- A permanent divergence (R952). -/
def pairPermanent (p code : Nat) (r : ErrRec) (s : State) : State :=
  if p = 0 then flashLogPut r.bytes (romRecovery 0 (resetComp 1 s))
  else if p = 1 then
    let s1 := onCheck (fun k => { k with retDisp := true }) ((resetComp 2 s).setB .err 0xA4 8 true)
    (s1.updComp 2 (fun x => { x with state := 4, reason := 0x080A, started := none, kicks := [] })).retirePage .disp
  else retireCluster (p - 2) code (s.setB .err (0xA0 + 4 * p) 8 true)

/-- A divergence that a recovery clears (R950). -/
def pairRecover (p kind code : Nat) (s : State) : State :=
  if p = 0 then restartComp 1 s
  else if p = 1 then restartComp 2 s
  else
    let ph := s.csqPhase (p - 2)
    if ph = 1 ∨ ph = 2 then
      killCommand (p - 2) (9 + kind) code (s.setPair p { s.pair p with diverged := true })
    else restartComp 3 (resetPair p s)

/-- A divergence of a pair: kind 1 output, 2 scrub (R951, R952). -/
def divergeAt (p kind idx : Nat) (main chk : Word) (inj nocount : Bool) (s : State) : State :=
  if s.pairRetired p then s
  else
    let old := within s.dt (10 * oneSecond) (s.pair p).times
    let perm := !nocount && !old.isEmpty
    let code := if perm then 0x0732 else 0x072F + kind
    let cls := if perm then clsPermanent else if kind = 1 then clsTransient else clsLatent
    let op := if 2 ≤ p ∧ s.csqPhase (p - 2) ≠ 0 then s.getN (.csq (p - 2)) 0x50 else 0
    let o := 0xA0 + 4 * p
    let s1 := s.setPair p { s.pair p with times := if nocount then old else old ++ [s.dt] }
    let s2 := (s1.setF .err o 10 9 kind).countF .err o 31 16 1
    let detail := divDetail p kind idx main chk
    let s3 := s2.raiseRec (pairBlk p) code op cls inj detail
    if perm then pairPermanent p code (s.record s.dt (pairBlk p).unit code op cls inj detail) s3 else pairRecover p kind code s3

/-- An armed injection of a kind on a target (R972). -/
def State.armedFor (s : State) (kind target : Nat) : Option Inject :=
  s.check.armed.filter (fun x => x.kind == kind && x.target == target)

/-- ARMED clears. -/
def disarm (s : State) : State := onCheck (fun k => { k with armed := none }) s

/-- OUTPUT_DIVERGENCE (R947). One at the write that an OUTPUT_DIV of the pair waits for is one with it: one record, with
INJECTED (R987). -/
def outputDivergenceAt (p group : Nat) (main chk : Word) (s : State) : State :=
  match s.armedFor 1 p with
  | some x => if s.pairRetired p then s else divergeAt p 1 group main chk true x.nocount (disarm s)
  | none => divergeAt p 1 group main chk false false s

/-- The first difference a scrub finds: what the environment names among words 0 to 39, else LSCRATCH (R948, R949). -/
def scrubFinds (s : State) (p : Nat) (diff : Option (Nat × Word × Word)) : Option (Nat × Word × Word) :=
  let x := s.pair p
  let last := if x.scrMain ≠ x.scrChk then some (40, x.scrMain, x.scrChk) else none
  match diff with
  | some (i, a, b) => if i < 40 ∧ a ≠ b then some (i, a, b) else last
  | none => last

/-- A scrub point: each commit of a sequencer, and 32,768 DT units without one (R143, R945). -/
def State.scrubDue (s : State) (p : Nat) : Bool :=
  (decide (2 ≤ p) && s.csqPhase (p - 2) == 2) || decide ((s.pair p).scrubDt + 32768 ≤ s.dt)

/-- SCRUB_POINT (R945, R949, R983). A scrub that meets LATENT_DIV's LSCRATCH finds an injected divergence, whichever word
differs first (R987). -/
def scrubAt (p : Nat) (diff : Option (Nat × Word × Word)) (s : State) : State :=
  if !s.scrubDue p ∨ s.pairRetired p ∨ (s.pair p).diverged ∨ (2 ≤ p ∧ s.csqPhase (p - 2) = 3) then s
  else
    let s1 := s.setPair p { s.pair p with scrubDt := s.dt }
    let inj := decide ((s.pair p).scrMain ≠ (s.pair p).scrChk) && (s.pair p).injected
    match scrubFinds s p diff with
    | some (i, a, b) => divergeAt p 2 i a b inj (inj && (s.pair p).nocount) s1
    | none => s1

/-! ### Injection (R972, R973, R977, R988) -/

/-- A record with INJECTED set. -/
def markInjected (r : ErrRec) : ErrRec := { r with cls := r.cls % 64 + 64 + r.cls / 128 * 128 }

/-- The state after an injected error `f`: the records it raised carry INJECTED. -/
def injected (f : State → State) (s : State) : State :=
  let s1 := f s
  let n := s.check.raised.length
  onCheck (fun k => { k with raised := k.raised.take n ++ (k.raised.drop n).map (fun p => (p.1, markInjected p.2)) }) s1

/-- TARGET lies outside the range of KIND (R972, R977). -/
def injRange (kind target : Nat) : Bool :=
  if kind ≤ 2 then decide (target < 6) else if kind = 4 then decide (target < 32) else if kind = 5 then decide (target < 128)
  else target == 0

/-- The word of KIND 3 exists and its page is present. -/
def injWord (s : State) (off : Nat) : Bool :=
  match blkOf (regBase + off) with
  | some b => (rowAt b (off % 0x1000)).isSome && s.present b
  | none => false

/-- A write of ERR_INJ (R972, R977): the fields, then ARM. LATENT_DIV fires at once. -/
def injWrite (v : Word) (s : State) : State :=
  let kind := fld v 3 0
  let target := fld v 15 8
  let addr := s.getF .err 0xC4 23 2 * 4
  let x : Inject := { kind := kind, target := target, nocount := bit v 18, count := fld v 23 20, addr := regBase + addr }
  let w := v &&& 0xF4FF0F#32
  let s1 := s.set .err 0xC0 w
  if s.check.armed.isSome then s.reject .err 0xC0 0x0721
  else if !bit v 16 then s1
  else if kind = 0 ∨ 6 < kind then s.rejectD .err 0xC0 0x02
  else if !injRange kind target ∨ (kind = 6 ∧ x.count = 0) ∨ (kind = 3 ∧ !injWord s addr) then s.rejectD .err 0xC0 0x01
  else if kind = 2 ∧ !s.pairRetired target then
    let p := s1.pair target
    s1.setPair target { p with scrMain := 0, scrChk := 1, injected := true, nocount := x.nocount }
  else if kind = 3 then onCheck (fun k => { k with armed := some x, parity := some (x.addr, x.nocount) }) s1
  else onCheck (fun k => { k with armed := some x }) s1

/-- An access error of a channel that counts nowhere (R973). -/
def quietAccessErr (c : Nat) (s : State) : State :=
  match (s.chan c).active with
  | none => s
  | some a =>
    if prefetched s c then
      let s1 := groupStop ((srcAddr s a.words a.written).getD 0) 0 [] { s with pfg := [] }
      { s1 with pfg := s.pfg }
    else xcRecord c 0x1130 clsTransient (opOf s a) 0 (s.setXc c 0x2C (setFld (s.xc c 0x2C) 3 0 1))

/-- XFE_ACCESS: the next access of the channel has an error response. -/
def accessInject (c : Nat) (nocount : Bool) (s : State) : State :=
  if nocount then quietAccessErr c s
  else if prefetched s c then
    prefetchErr (((s.chan c).active.bind (fun a => srcAddr s a.words a.written)).getD 0) 0 [] s
  else accessErr c 1 0 s

/-- The hardware consumers of a ring take its head entry. -/
def consumeHead (q : Nat) (s : State) : State :=
  if q < 32 then descFetch q s
  else if q = 96 then bitstreamChunkAt 0 none s
  else if q = 101 then sourceFrameAt s
  else if q = 103 then jpegJobAt s
  else (List.range 16).foldl (fun t i => if t.spOn i ∧ t.spSrc i = q ∧ t.rgHead q = s.rgHead q then sampleTakeAt i t else t) s

/-- RING_CHECK: the next entry fails its check, as one whose check byte is wrong already does (R987); `take` is the
consumer. -/
def ringInject (q : Nat) (take : State → State) (s : State) : State :=
  let a := s.rgSlot q (s.rgHead q) + s.rgEsize q - 1
  let b := s.byte a
  if checkOk (s.rgEntry q (s.rgHead q)) then (take (s.storeBytes a [b ^^^ 1#8])).storeBytes a [b] else take s

/-- A consumer of ring `q` takes an entry: with RING_CHECK armed on the ring, the entry fails (R972). The injection stays
armed where the consumer takes nothing, since an entry that fails raises a record. -/
def atEntry (q : Nat) (take : State → State) (s : State) : State :=
  match s.armedFor 5 q with
  | none => take s
  | some _ =>
    if !s.rgOn q ∨ !s.rgHwCons q ∨ s.rgOcc q = 0 then take s
    else
      let t := injected (ringInject q take) (disarm s)
      if t.check.raised.length = s.check.raised.length then take s else t

/-- Channel `c` makes an access: with XFE_ACCESS armed on the channel, the access has an error response (R972); `real` tells
that it has an access error of its own, which is then one with the injected one (R987). -/
def atAccess (c : Nat) (real : Bool) (f : State → State) (s : State) : State :=
  match s.armedFor 4 c with
  | none => f s
  | some x =>
    if (s.chan c).active.isNone ∨ !s.xcRuns c then f s
    else injected (if real && !x.nocount then f else accessInject c x.nocount) (disarm s)

/-- INJECTION_FIRE: the armed injection meets its opportunity (R972). A page-parity mark waits for a read (R45),
a latent divergence of a retired pair never fires (R988). -/
def injectionFireAt (s : State) : State :=
  match s.check.armed with
  | none => s
  | some x =>
    let s1 := disarm s
    if x.kind = 1 then
      if s.pairRetired x.target then s
      else
        let w := Config.freeWord s.seq 0x2000
        divergeAt x.target 1 1 w (w ^^^ 1#32) true x.nocount s1
    else if x.kind = 4 then atAccess x.target false (fun t => t) s
    else if x.kind = 5 then
      let t := atEntry x.target (consumeHead x.target) s
      if t.check.armed.isSome then s else t
    else if x.kind = 6 then
      if s.linkLive then onLink (fun l => { l with suppress := x.count, inj := some x.nocount }) s1 else s
    else s

/-! ### Control memories (R979) -/

/-- The component whose code a reader runs from the memory it reads. -/
def parityComp (g : Agent) (a : Nat) : Option Nat :=
  match g with
  | .cpu .belvedere => if inWindow a 1 belvSram belvSramSize then some 1 else none
  | .cpu .dispatch => if inWindow a 1 dispSram dispSramSize then some 2 else none
  | .cpu (.sequencer _) => if inWindow a 1 dispSram dispSramSize then some 3 else none
  | .cpu .gatehouse => if inWindow a 1 gtSram 0x40000 then some 4 else none
  | _ => none

/-- CONTROL_MEMORY_PARITY. -/
def controlParityAt (g : Agent) (a : Nat) (s : State) : State :=
  if inWindow a 1 belvSram belvSramSize || inWindow a 1 dispSram dispSramSize || inWindow a 1 gtSram 0x40000 then
    let s1 := agentError g (s.raise .err 0x0734 0 clsTransient (leBytes a 5))
    match parityComp g a with
    | some c => countedRestart c s1
    | none => s1
  else s

/-! ### The ERR page (R974, R975, R985) -/

/-- A write to a register of the ERR page that passed judgement. -/
def errStore (m : Master) (off : Nat) (v mask : Word) (s : State) : State :=
  if off = 0x4C then popAt m v s
  else if 0x70 ≤ off ∧ off < 0x90 then
    if !hasLatch m then s else onCheck (fun k => { k with staged := k.staged.put (8 * m.code + (off - 0x70) / 4) v }) s
  else if off = 0x90 then raiseGoAt m v s
  else if off = 0xC0 then injWrite v s
  else if off = 0xC4 ∧ s.check.armed.isSome then s.reject .err 0xC4 0x0721
  else plainStore .err off v mask s

/-- ERR_CAP. -/
def errCap (s : State) : Word :=
  wd (s.meshCap.toNat + bitsOf 4 (fun k => !s.check.retCl.getLsbD k) * 0x10000 + (!s.check.retDisp).toNat * 0x100000
    + (!s.check.retPfu).toNat * 0x200000 + (decide (s.linkState ≠ 3)).toNat * 0x400000)

/-- What a read of the ERR page shows. -/
def errView (m : Master) (off : Nat) (s : State) : Word :=
  if off = 0x40 then
    wd (s.check.queue.length + (s.getB .err 0x40 8).toNat * 0x100 + s.untested.toNat * 0x200 + s.mirrors.toNat * 0x400)
  else if off = offRaw then setBit (s.get .err offRaw) 8 (!s.check.queue.isEmpty)
  else if 0x50 ≤ off ∧ off < 0x70 then
    match s.check.queue with
    | r :: _ => wd (at' r.bytes (off - 0x50) 4)
    | [] => 0
  else if 0x70 ≤ off ∧ off < 0x90 then (s.check.staged.get? (8 * m.code + (off - 0x70) / 4)).getD 0
  else if off = 0x94 then errCap s
  else if off = 0x98 then xfeView 0x40 s
  else if 0xA0 ≤ off ∧ off < 0xB8 then
    setFld (s.get .err off) 3 0 (min (within s.dt (10 * oneSecond) (s.pair ((off - 0xA0) / 4)).times).length 15)
  else if off = 0xC0 then setBit (s.get .err 0xC0) 17 s.check.armed.isSome
  else s.get .err off

/-- SOFT_RST of the ERR page (R985); `clear` is the reset of its registers. -/
def errSoftReset (clear : State → State) (s : State) : State :=
  let n := s.check.queue.length
  let lost := satAdd (s.getN .err 0x44) n 0xFFFFFFFF
  let s1 := clear s
  let s2 := (List.range 6).foldl (fun t p => t.set .err (0xA0 + 4 * p) (s.get .err (0xA0 + 4 * p))) s1
  onCheck (fun k => { k with queue := [], staged := [], armed := none, parity := none }) (s2.setN .err 0x44 lost)

end Sys2Proof.Machine
end

