-- ==== Sys2Proof/Machine/Kws.lean ====
section
/-! DEFINITION. Keyword spotting (R838-R848, R869, R870): decimation, audio ring, network, detection. -/

namespace Sys2Proof.Machine

/-! ### Decimation (R842) -/

/-- D, R, G and k of a PDM rate (R842). -/
def pdmRate (code : Nat) : Nat × Nat × Int × Nat :=
  match code with
  | 0 => (64, 32, 1, 3)
  | 1 => (96, 48, 53024288, 31)
  | 2 => (128, 64, 1, 7)
  | _ => (192, 96, 6628036, 32)

/-- One input through the integrators, each taking the sum before it. -/
def cicInteg : Word → List Word → List Word
  | _, [] => []
  | x, i :: is => (i + x) :: cicInteg (i + x) is

/-- One value through the combs: the combs' new contents and the output. -/
def cicComb : Word → List Word → List Word × Word
  | x, [] => ([], x)
  | x, d :: ds => let (rest, y) := cicComb (x - d) ds; (x :: rest, y)

/-- One PDM bit into the integrators (R842 steps 1 and 2). -/
def pdmBit (p : PdmSt) (b : Bool) : PdmSt := { p with integ := cicInteg (if b then 1#32 else 0xFFFFFFFF#32) p.integ }

/-- One decimated value: combs, scale, history (R842 steps 2 and 3). -/
def pdmTake (g : Int) (k : Nat) (p : PdmSt) : PdmSt :=
  let (cs, c) := cicComb (p.integ.getLastD 0) p.comb
  let y := (c.toInt * g + (2 ^ (k - 1) : Nat)) / (2 ^ k : Nat)
  { p with comb := cs, ys := (y :: p.ys).take 63 }

/-- A clamp. -/
def clampTo (lo hi i : Int) : Int := max lo (min hi i)

/-- The FIR output (R842 step 4); `h` has the 32 coefficients. -/
def fir (h : List Int) (ys : List Int) : Int :=
  let taps := h ++ (h.take 31).reverse
  clampTo (-32768) 32767 (((taps.zip ys).foldl (fun a p => a + p.1 * p.2) 0 + 65536) / 131072)

/-- One frame of a channel: 2R bits, two values, one sample (R842). -/
def pdmFrame (code : Nat) (h : List Int) (bits : List Bool) (p : PdmSt) : PdmSt × Int :=
  let (_, r, g, k) := pdmRate code
  let half := fun bs q => pdmTake g k (bs.foldl pdmBit q)
  let p2 := half ((bits.drop r).take r) (half (bits.take r) p)
  (p2, fir h p2.ys)

/-! ### The audio ring (R838) -/

/-- The start of the audio ring (R835). -/
def audioBase : Nat := gtSram + 0x40000
/-- The model's address. -/
def State.kwsModel (s : State) : Nat := gtSram + s.getF .kws 0x48 17 0
/-- Frames since enable. -/
def State.kwsFrames (s : State) : Nat := s.get64 .kws 0x50
/-- The unit runs. -/
def State.kwsUp (s : State) : Bool := s.present .kws && s.getB .kws 0x40 0
/-- A signed field of the model. -/
def State.kwsS (s : State) (ofs n : Nat) : Int := signed (8 * n) (s.load (s.kwsModel + ofs) n)
/-- An unsigned field of the model. -/
def State.kwsN (s : State) (ofs n : Nat) : Nat := s.load (s.kwsModel + ofs) n
/-- H0 to H31 (R843). -/
def State.kwsFir (s : State) : List Int := (List.range 32).map (fun i => s.kwsS (16 + 2 * i) 2)

/-- A frame of audio: both channels' PDM bits (R838, R841, R842). -/
def audioFrameAt (b0 b1 : List Bool) (s : State) : State :=
  if !s.kwsUp then s
  else
    let code := s.getF .kws 0x40 3 2
    let h := s.kwsFir
    let (p0, z0) := pdmFrame code h b0 s.gate.kws.ch0
    let (p1, z1) := pdmFrame code h b1 s.gate.kws.ch1
    let two := s.getB .kws 0x40 1
    let n := s.kwsFrames
    let bytes := leBytes (unsigned 16 z0) 2 ++ leBytes (if two then unsigned 16 z1 else 0) 2
    let s1 := s.storeBytes (audioBase + 4 * (n % 32000)) bytes
    let s2 := { s1 with gate := { s1.gate with kws := { s1.gate.kws with ch0 := p0, ch1 := if two then p1 else s1.gate.kws.ch1 } } }
    (s2.set64 .kws 0x50 (n + 1)).setN .kws 0x4C ((n + 1) % 32000)

/-! ### The network (R843-R848) -/

/-- A layer (R844). -/
structure KwsLayer where
  kind   : Nat
  flags  : Nat
  kernel : Nat
  stride : Nat
  inCh   : Nat
  outCh  : Nat
  inLen  : Nat
  outLen : Nat
  wOfs   : Nat
  bOfs   : Nat
  mult   : Int
  shift  : Nat
  rest   : Nat
deriving DecidableEq, Repr

/-- Layer `j` of the model. -/
def kwsLayer (s : State) (j : Nat) : KwsLayer :=
  let o := 128 + 32 * j
  { kind := s.kwsN o 1, flags := s.kwsN (o + 1) 1, kernel := s.kwsN (o + 2) 1, stride := s.kwsN (o + 3) 1,
    inCh := s.kwsN (o + 4) 2, outCh := s.kwsN (o + 6) 2, inLen := s.kwsN (o + 8) 2, outLen := s.kwsN (o + 10) 2,
    wOfs := s.kwsN (o + 12) 4, bOfs := s.kwsN (o + 16) 4, mult := s.kwsS (o + 20) 4, shift := s.kwsN (o + 24) 1,
    rest := s.kwsN (o + 25) 7 }

/-- NLAYERS. -/
def State.kwsLayers (s : State) : Nat := s.kwsN 4 1

/-- The kernel of a layer in its sums: IN_LEN for DENSE. -/
def KwsLayer.width (l : KwsLayer) : Nat := if l.kind = 1 then l.inLen else l.kernel

/-- A layer breaks R844 or the sizes of R847; `last` for the last one. -/
def layerBad (l : KwsLayer) (len : Nat) (last : Bool) : Bool :=
  let ch := fun n => decide (1 ≤ n ∧ n ≤ 256)
  !(decide (l.kind ≤ 2) && decide (l.flags ≤ 1) && ch l.inCh && ch l.outCh && l.rest == 0 && decide (l.shift ≤ 31)) ||
    (l.kind == 0 && !(decide (1 ≤ l.kernel ∧ l.kernel ≤ 64) && decide (1 ≤ l.stride ∧ l.stride ≤ 64))) ||
    (l.kind == 1 && !(l.kernel == 0 && l.stride == 0 && l.outLen == 1)) ||
    (l.kind == 2 && !(decide (2 ≤ l.kernel ∧ l.kernel ≤ 16) && decide (1 ≤ l.stride ∧ l.stride ≤ 64) && l.outCh == l.inCh
      && l.wOfs == 0 && l.bOfs == 0)) ||
    (l.kind != 1 && (decide (l.inLen < l.kernel) || l.outLen != (l.inLen - l.kernel) / max 1 l.stride + 1)) ||
    (if l.kind = 2 ∨ last then l.mult != 0 else decide (l.mult ≤ 0)) ||
    (l.kind != 2 && (l.bOfs % 4 != 0 || decide (len < l.wOfs + l.outCh * l.inCh * l.width) || decide (len < l.bOfs + 4 * l.outCh))) ||
    (last && !(l.kind == 1 && l.outCh == 1 && l.flags == 0)) || (!last && decide (16384 < l.outCh * l.outLen))

/-- Consecutive layers fit, from the given input shape (R844). -/
def chainBad : Nat → Nat → List KwsLayer → Bool
  | _, _, [] => false
  | ch, len, l :: ls => l.inCh != ch || l.inLen != len || chainBad l.outCh l.outLen ls

/-- The model breaks R843-R845 or R847, or needs CH2 (R848, R870). -/
def kwsBad (s : State) : Bool :=
  let n := s.kwsLayers
  let len := s.kwsN 12 4
  let win := s.kwsN 8 2
  let ch := s.kwsN 5 1
  let ls := (List.range n).map (kwsLayer s)
  s.kwsN 0 4 != 0x3153574B || n == 0 || decide (16 < n) || (ch != 1 && ch != 2) || decide (8 < s.kwsN 6 1) ||
    decide (31 < s.kwsN 7 1) || win % 160 != 0 || decide (win < 160) || decide (16000 < win) || s.kwsN 10 2 != 0 ||
    s.kwsN 80 48 != 0 || decide (len < 128 + 32 * n) || (ch == 2 && !s.getB .kws 0x40 1) ||
    chainBad ch win ls || (ls.zipIdx.any (fun p => layerBad p.1 len (p.2 + 1 == n))) ||
    decide (4000000 < ls.foldl (fun a l => a + (if l.kind = 2 then 0 else l.outCh * l.outLen * l.inCh * l.width)) 0)

/-- The model lies outside the FW4 region (R870). -/
def kwsOutside (s : State) : Bool :=
  decide (0x40000 < s.getF .kws 0x48 17 0 + max 128 (s.kwsN 12 4))

/-- The network's input: channel `i`, the last WIN frames ending with frame `last` (R845). -/
def kwsInput (s : State) (last : Nat) : List (List Int) :=
  let win := s.kwsN 8 2
  let sh := s.kwsN 6 1
  (List.range (s.kwsN 5 1)).map (fun i => (List.range win).map (fun t =>
    let f := last + 1 + t
    if f < win then 0
    else
      let x := signed 16 (s.load (audioBase + 4 * ((f - win) % 32000) + 2 * i) 2)
      clampTo (-128) 127 ((x + (if sh = 0 then 0 else (2 ^ (sh - 1) : Nat))) / (2 ^ sh : Nat))))

/-- INT32 clamp. -/
def clamp32 (i : Int) : Int := clampTo (-2147483648) 2147483647 i

/-- The accumulator of output channel `o` at position `t` (R845). -/
def kwsAcc (s : State) (l : KwsLayer) (x : List (List Int)) (o t : Nat) : Int :=
  let k := l.width
  (List.range (l.inCh * k)).foldl
    (fun a j => clamp32 (a + s.kwsS (l.wOfs + (o * l.inCh + j / k) * k + j % k) 1 *
      ((x.getD (j / k) []).getD (t * l.stride + j % k) 0)))
    (s.kwsS (l.bOfs + 4 * o) 4)

/-- One layer but the last (R845). -/
def kwsStep (s : State) (x : List (List Int)) (l : KwsLayer) : List (List Int) :=
  if l.kind = 2 then
    x.map (fun row => (List.range l.outLen).map (fun t =>
      ((row.drop (t * l.stride)).take l.kernel).foldl max (row.getD (t * l.stride) 0)))
  else
    (List.range l.outCh).map (fun o => (List.range l.outLen).map (fun t =>
      let y := clampTo (-128) 127 ((kwsAcc s l x o t * l.mult + (2 ^ (30 + l.shift) : Nat)) / (2 ^ (31 + l.shift) : Nat))
      if l.flags % 2 = 1 then max y 0 else y))

/-- The score of a hop (R845, R846). -/
def kwsScore (s : State) (last : Nat) : Nat :=
  let ls := (List.range s.kwsLayers).map (kwsLayer s)
  let x := (ls.dropLast).foldl (kwsStep s) (kwsInput s last)
  let a := match ls.getLast? with
    | some l => kwsAcc s l x 0 0
    | none => 0
  let sh := s.kwsN 7 1
  (clampTo 0 65535 ((a + (if sh = 0 then 0 else (2 ^ (sh - 1) : Nat))) / (2 ^ sh : Nat))).toNat

/-! ### Hops and detection (R839, R840, R848) -/

/-- A detection (R840); a phrase start before enable is frame 0 (log entry 33). -/
def kwsDetect (start end_ : Nat) (s : State) : State :=
  let st := start - 160 * s.getF .kws 0x40 15 8
  let s1 := ((s.set64 .kws 0x58 s.dt).setN .kws 0x60 (st % 32000)).countWrap .kws 0x64 1
  sourceEvent 0 none s1.dt (some (st, end_ - st)) s1

/-- The network's hop: every 160 frames, in order (R839, R845, R847, R848). -/
def kwsHopAt (s : State) : State :=
  let k := s.gate.kws
  let end_ := 160 * (k.hops + 1)
  if !s.kwsUp ∨ s.kwsFrames < end_ then s
  else
    let bad := kwsOutside s || kwsBad s
    let score := if bad then 0 else kwsScore s (end_ - 1)
    let hit := !bad && decide (s.getF .kws 0x44 15 0 ≤ score)
    let run := if hit then k.run + 1 else 0
    let start := if k.run = 0 then end_ - 160 else k.start
    let loud := bad && (match k.bad with | some h => decide (h + 100 ≤ k.hops) | none => true)
    let k1 := { k with hops := k.hops + 1, run := run, start := start, bad := if loud then some k.hops else k.bad }
    let s1 := ({ s with gate := { s.gate with kws := k1 } }).setN .kws 0x68 score
    let s2 := if loud then gateRec .kws 0x6130 clsTransient false s1 else s1
    if run = s.getF .kws 0x44 23 16 ∧ hit then kwsDetect start end_ s2 else s2

/-! ### Enable (R870) -/

/-- The enable check's own rules, in the order of their offsets. -/
def kwsCheck (s : State) : Option (Nat × Nat) :=
  if 100 < s.getF .kws 0x40 15 8 then some (0x6120, 0x40)
  else if s.getF .kws 0x44 23 16 = 0 then some (0x6120, 0x44)
  else if s.getN .kws 0x48 % 64 ≠ 0 then some (0x6103, 0x48)
  else if kwsOutside s then some (0x6120, 0x48)
  else if kwsBad s then some (0x6121, 0x48)
  else none

/-- The unit starts: the frame count restarts, histories are 0 (R842, R870). -/
def kwsStart (s : State) : State :=
  let s1 := (s.setB .kws 0x40 0 true).setB .kws offStatus 0 true
  let s2 := (s1.set64 .kws 0x50 0).setN .kws 0x4C 0
  { s2 with gate := { s2.gate with kws := KwsSt.init } }

/-- The unit stops; the ring keeps its contents (R870). -/
def kwsStop (s : State) : State := (s.setB .kws 0x40 0 false).setB .kws offStatus 0 false

/-- A write of KWS_CFG: EN starts the check or stops the unit (R870; log entry 34). -/
def kwsCfgStore (v mask : Word) (s : State) : State :=
  let on := s.getB .kws 0x40 0
  let s1 := plainStore .kws 0x40 v mask s
  if !bit v 0 then kwsStop s1
  else if on then s1
  else
    let refuseIt := fun (c o : Nat) =>
      gateRec .kws c clsConfig false (((s1.setB .kws offStatus 1 true).setN .kws offReason (c + o * 0x10000)).irq .kws 0)
    if !s1.clockOn 61 then refuseIt 0x6109 offCtrl
    else
      match kwsCheck s1 with
      | some (c, o) => refuseIt c o
      | none => kwsStart ((s1.setB .kws offStatus 1 false).set .kws offReason 0)

/-- A write to a register of the KWS page that passed judgement. -/
def kwsStore (off : Nat) (v mask : Word) (s : State) : State :=
  if off = 0x40 then kwsCfgStore v mask s else plainStore .kws off v mask s

end Sys2Proof.Machine
end

