-- ==== Sys2Proof/Machine/App.lean ====
section
/-! DEFINITION. The application cluster (22): interrupt wiring, cores, cluster reset, UART, I2C, I2S. -/

namespace Sys2Proof.Machine

/-! ### Interrupt sources (R1035-R1037) -/

/-- PG_IRQ_RAW as a read of it shows it. -/
def rawView (b : Blk) (s : State) : Word :=
  match b with
  | .ring k => ringView k offRaw s
  | .err => errView .belvedere offRaw s
  | b => s.get b offRaw

/-- The bits of a page that make up its summary (R1035). -/
def summaryMask : Blk → Word
  | .ring _ => 0xFF0000FF#32
  | .time => 0xFFFF00FF#32
  | .gpio => 0xFFFF00FF#32
  | _ => 0xFFFFFFFF#32

/-- The domain a source reaches, 0 while it is not pending. -/
def sourceDom (s : State) (n : Nat) : List Nat :=
  if n = 0 then []
  else if n < 256 then
    match blkOfPage (n - 1) with
    | some b =>
      if s.present b && decide (rawView b s &&& s.get b offEn &&& summaryMask b ≠ 0) then
        [if s.owner b = 0 then domMgmt else s.owner b]
      else []
    | none => []
  else if n < 384 then
    let q := n - 256
    let c := s.rg q 0x2C &&& s.rg q 0x30
    (if c &&& 0xB#32 ≠ 0 ∧ !s.rgHwCons q then [fld (s.rg q 0xC) 7 4] else []) ++
      (if bit c 2 ∧ !s.rgHwProd q then [fld (s.rg q 0xC) 3 0] else [])
  else if n < 392 then
    let k := n - 384
    if s.getB .time offRaw (8 + k) then [if s.cmpOwner k = 0 then domMgmt else s.cmpOwner k] else []
  else if n < 440 then
    let k := n - 392
    if s.getB .gpio (0x68 + 4 * (k / 32)) (k % 32) then [s.pinOwner k] else []
  else if n < 448 then
    let k := n - 440
    if s.getB .gpio offRaw (8 + k) && s.getB .gpio offEn (8 + k) then [s.pinOwner (32 + k)] else []
  else []

/-- A source is pending at the controller of a domain (R1035, R1036). -/
def pendingAt (s : State) (d n : Nat) : Bool := (sourceDom s n).contains d

/-- The lowest-numbered source that is pending and enabled for a domain; `base` is its first enable register. -/
def claimOf (s : State) (d base : Nat) : Nat :=
  ((List.range 448).find? (fun n => pendingAt s d n && s.getB .appc (base + 4 * (n / 32)) (n % 32))).getD 0

/-- APPC_XCLAIM. -/
def State.xclaim (s : State) : Nat := claimOf s domXhost 0x400
/-- HOST_IRQ is asserted (R1037). -/
def State.hostIrq (s : State) : Bool := s.xclaim != 0
/-- Core `c` receives an external interrupt (R1036). -/
def State.extIrq (s : State) (c : Nat) : Bool := claimOf s domApp (0x300 + 0x40 * c) != 0

/-! ### Cores (R1036-R1043, R1046-R1048) -/

/-- Change the cluster outside its registers. -/
def onApp (f : AppSt → AppSt) (s : State) : State := { s with app := f s.app }

/-- APPC_MTCMPc. -/
def State.mtcmp (s : State) (c : Nat) : Nat := s.get64 .appc (0xA0 + 8 * c)

/-- DT is at or above the compare value and the comparison is not suspended (R1038). -/
def State.timerDue (s : State) (c : Nat) : Bool := !s.app.suspend.getLsbD c && decide (s.mtcmp c ≤ s.dt)

/-- A 4-bit set with one bit changed. -/
def bitAt (w : BitVec 4) (c : Nat) (v : Bool) : BitVec 4 :=
  if v then w ||| BitVec.ofNat 4 (2 ^ c) else w &&& ~~~ BitVec.ofNat 4 (2 ^ c)

/-- MACHINE_TIMER: the core takes the interrupt and leaves WFI (R1038). -/
def machineTimerAt (c : Nat) (s : State) : State :=
  if s.present .appc && s.timerDue c then (onApp (fun a => { a with mtip := bitAt a.mtip c true }) s).setB .appc 0x40 (4 + c) false
  else s

/-- A write of APPC_MTCMPc_LO suspends the comparison, one of APPC_MTCMPc_HI resumes it (R1038). -/
def mtcmpStore (c : Nat) (hi : Bool) (v mask : Word) (s : State) : State :=
  let s1 := plainStore .appc ((if hi then 0xA4 else 0xA0) + 8 * c) v mask s
  onApp (fun a => { a with suspend := bitAt a.suspend c (!hi), mtip := bitAt a.mtip c false }) s1

/-- APPC_CORE_CTRLc (R1039): RUN starts the core, or holds it in reset, which frees its locks (R82). -/
def coreCtrl (c : Nat) (v mask : Word) (s : State) : State :=
  let s1 := plainStore .appc (0x50 + 4 * c) v mask s
  let s2 := s1.setB .appc 0x40 c (bit v 0)
  if bit v 0 then s2 else abandon (fun k => k == 0x40 + c) (s2.setB .appc 0x40 (4 + c) false)

/-- Core 0 runs, the others are held (R1040, R1043). -/
def onlyCore0 (run : Bool) (s : State) : State :=
  let s1 := (List.range 4).foldl (fun t c => t.setB .appc (0x50 + 4 * c) 0 (run && c == 0)) s
  s1.setN .appc 0x40 run.toNat

/-- The reset of the cluster (R1040, R1046). -/
def clusterResetNow (dirty : Nat) (s : State) : State :=
  let s1 := { s with regs := ((s.regs.clear (Blk.at .appc 0x300) 0x100).clear (Blk.at .appc 0xA0) 0x20).clear (Blk.at .appc 0xC0) 4 }
  let s2 := onlyCore0 true (onApp (fun a => { a with suspend := 0, mtip := 0, rst := none }) s1)
  let s3 := abandon (fun k => decide (0x40 ≤ k) && decide (k ≤ 0x43)) (s2.countWrap .appc 0x48 1)
  if dirty = 0 then s3 else s3.raise .appc 0x9030 0 clsTransient (leBytes dirty 4)

/-- APPC_CL_RST (R1040); during an application point change it waits (R1047). -/
def clusterResetStore (dirty : Nat) (v : Word) (s : State) : State :=
  if v ≠ 0x5A17#32 then s.reject .appc 0x44 0x9020
  else if s.power.opApp.isSome then onApp (fun a => { a with rst := some dirty }) s
  else clusterResetNow dirty s

/-- The point change completes: a cluster reset that waits takes effect (R1047). -/
def clusterResetDue (s : State) : State :=
  match s.app.rst with
  | some d => clusterResetNow d s
  | none => s

/-- RUN_READY: APPC_WAKE starts core 0 (R1043). -/
def appWake (s : State) : State :=
  if s.getB .appc 0x84 31 then onlyCore0 true s else s

/-- A write to APPC_NCk (R1046). -/
def ncWindowStore (off : Nat) (v mask : Word) (s : State) : State :=
  let k := (off - 0x88) / 8
  let s1 := plainStore .appc off v mask s
  let base := s1.getF .appc (0x88 + 8 * k) 27 0 * 4096
  let limit := s1.getF .appc (0x8C + 8 * k) 27 0 * 4096 + 4096
  if s1.getB .appc (0x8C + 8 * k) 31 = true ∧ (limit ≤ base ∨ !inDramWindow base (limit - base)) then s.rejectD .appc off 0x01
  else s1

/-! ### UART0 (R1044) -/

/-- UART0_CFG.EN. -/
def State.uartOn (s : State) : Bool := s.present .appc && s.getB .appc 0x804 24
/-- RX_TRIG and TX_TRIG. -/
def State.uartTrig (s : State) : Nat × Nat := (s.getF .appc 0x80C 7 4, s.getF .appc 0x80C 11 8)

/-- The enabled causes that are levels raise the interrupt. -/
def uartIrq (s : State) : State :=
  let t := s.uartTrig
  let rx := s.getB .appc 0x80C 0 && decide (t.1 ≤ s.app.uartRx.length)
  let tx := s.getB .appc 0x80C 1 && decide (s.app.uartTx.length ≤ t.2)
  let er := s.getB .appc 0x80C 2 && decide (s.getF .appc 0x808 20 17 ≠ 0)
  if s.getB .appc 0x804 24 && (rx || tx || er) then s.irq .appc 8 else s

/-- A write of UART0_DATA: ignored when the FIFO is full. -/
def uartPush (v : Word) (s : State) : State :=
  if 16 ≤ s.app.uartTx.length then s else uartIrq (onApp (fun a => { a with uartTx := a.uartTx ++ [byteOf v.toNat 0] }) s)

/-- A read of UART0_DATA: the byte popped, or EMPTY. -/
def uartPop (s : State) : State × Word :=
  match s.app.uartRx with
  | b :: rest => (onApp (fun a => { a with uartRx := rest }) s, b.setWidth 32)
  | [] => (s, 0x100#32)

/-- UART_TX_BYTE_SENT: the oldest byte leaves on the line. -/
def uartSentAt (s : State) : State :=
  match s.app.uartTx with
  | b :: rest => if s.uartOn then uartIrq ((onApp (fun a => { a with uartTx := rest }) s).answerBytes [b]) else s
  | [] => s

/-- The data bits of a character (UART0_CFG [17:16]: 5 to 8). -/
def uartData (s : State) (ch : Byte) : Byte := ch &&& BitVec.ofNat 8 (2 ^ (5 + s.getF .appc 0x804 17 16) - 1)

/-- UART_RX_BYTE: a good character enters the FIFO; an error or a full FIFO sets its bit. -/
def uartRxAt (ch : Byte) (frameErr parityErr brk : Bool) (s : State) : State :=
  if !s.uartOn then s
  else
    let s1 := if frameErr then s.setB .appc 0x808 18 true else s
    let s2 := if parityErr then s1.setB .appc 0x808 19 true else s1
    let s3 := if brk then s2.setB .appc 0x808 20 true else s2
    let s4 := if frameErr || parityErr || brk then s3
              else if 16 ≤ s3.app.uartRx.length then s3.setB .appc 0x808 17 true
              else onApp (fun a => { a with uartRx := a.uartRx ++ [uartData s ch] }) s3
    uartIrq s4

/-- UART_RX_TIMEOUT. -/
def uartTimeoutAt (s : State) : State :=
  let n := s.app.uartRx.length
  if s.uartOn && decide (0 < n) && decide (n < s.uartTrig.1) && decide (s.getF .appc 0x810 7 0 ≠ 0) && s.getB .appc 0x80C 3 then
    s.irq .appc 8
  else s

/-! ### I2C0, I2C1 (R1044) -/

/-- The first offset of controller `x`: CTRL, CMD, DATA and STAT follow each other (log entry 37). -/
def i2cOff (x : Nat) : Nat := 0x900 + 0x100 * x
/-- The receive FIFO. -/
def State.i2cFifo (s : State) (x : Nat) : List Byte := (s.app.i2c.get? x).getD []
/-- Store the receive FIFO. -/
def setI2c (x : Nat) (l : List Byte) (s : State) : State := onApp (fun a => { a with i2c := a.i2c.put x l }) s

/-- I2Cx_CMD: the controller is busy until the operation completes; none starts while it is disabled or busy. -/
def i2cCmdStore (x : Nat) (v : Word) (s : State) : State :=
  let o := i2cOff x
  if !s.getB .appc o 8 ∨ s.getB .appc (o + 12) 0 then s else (s.set .appc (o + 4) v).setB .appc (o + 12) 0 true

/-- I2C_BYTE_COMPLETE. -/
def i2cDoneAt (x : Nat) (nack arbLost : Bool) (data : Option Byte) (s : State) : State :=
  let o := i2cOff x
  if !s.present .appc ∨ !s.getB .appc (o + 12) 0 then s
  else
    let s1 := ((s.setB .appc (o + 12) 0 false).setB .appc (o + 12) 1 nack).setB .appc (o + 12) 2 arbLost
    let f := s.i2cFifo x
    let s2 := match data with
      | some b => if s.getB .appc (o + 4) 10 = true ∧ f.length < 16 then setI2c x (f ++ [b]) s1 else s1
      | none => s1
    s2.irq .appc (9 + x)

/-- A read of I2Cx_DATA takes the next byte; an empty FIFO returns a free value (log entry 5). -/
def i2cPop (x : Nat) (s : State) : State × Word :=
  match s.i2cFifo x with
  | b :: rest => (setI2c x rest s, b.setWidth 32)
  | [] => (s, Config.freeWord s.seq (0x2200 + x))

/-! ### I2S (R1044) -/

/-- Slots of a frame. -/
def State.i2sSlots (s : State) : Nat := [2, 4, 8, 8].getD (s.getF .appc 0xB00 5 4) 2

/-- The controller sends 0 and sets UNDERRUN. -/
def i2sEmpty (s : State) : State := (s.answerBytes (List.replicate (2 * s.i2sSlots) 0#8)).irq .appc 11

/-- I2S_UNDERRUN: a frame with I2S_RD equal to I2S_WR. -/
def i2sUnderrunAt (s : State) : State :=
  if s.present .appc && s.getB .appc 0xB00 8 && decide (s.getN .appc 0xB10 = s.getN .appc 0xB14) then i2sEmpty s else s

/-- I2S_FRAME: the next samples leave the buffer. -/
def i2sFrameAt (s : State) : State :=
  if !s.present .appc ∨ !s.getB .appc 0xB00 8 then s
  else
    let rd := s.getN .appc 0xB10
    if rd = s.getN .appc 0xB14 then i2sEmpty s
    else
      let base := s.getN .appc 0xB04 + (s.getF .appc 0xB08 7 0) <<< 32
      let len := s.getN .appc 0xB0C
      let n := 2 * s.i2sSlots
      let bs := (List.range n).map (fun i => s.byte (base + (rd + i) % len))
      (s.answerBytes bs).setN .appc 0xB10 ((rd + n) % len)

/-! ### The APPC page (R1045) -/

/-- A write to a register of the APPC page that passed judgement. -/
def appcStore (off : Nat) (v mask : Word) (s : State) : State :=
  if off = 0x44 then clusterResetStore (Config.freeNat s.seq 0x2203 % 0x100000000) v s
  else if 0x50 ≤ off ∧ off < 0x60 then coreCtrl ((off - 0x50) / 4) v mask s
  else if 0x88 ≤ off ∧ off < 0x98 then ncWindowStore off v mask s
  else if 0xA0 ≤ off ∧ off < 0xC0 then mtcmpStore ((off - 0xA0) / 8) (off % 8 == 4) v mask s
  else if off = 0x800 then uartPush v s
  else if off = 0x904 then i2cCmdStore 0 v s
  else if off = 0xA04 then i2cCmdStore 1 v s
  else if off = 0x80C then uartIrq (plainStore .appc off v mask s)
  else plainStore .appc off v mask s

/-- What a read of the APPC page shows. APPC_IPw holds the sources that reach APP or XHOST (R1035-R1037). -/
def appcView (off : Nat) (s : State) : Word :=
  if 0x200 ≤ off ∧ off < 0x240 then
    let w := (off - 0x200) / 4
    wd (bitsOf 32 (fun i => pendingAt s domApp (32 * w + i) || pendingAt s domXhost (32 * w + i)))
  else if 0x440 ≤ off ∧ off < 0x450 then wd (claimOf s domApp (0x300 + 0x40 * ((off - 0x440) / 4)))
  else if off = 0x450 then wd s.xclaim
  else if off = 0x808 then
    wd (s.app.uartTx.length + s.app.uartRx.length * 0x100 + (!s.app.uartTx.isEmpty && s.getB .appc 0x804 24).toNat * 0x10000
      + s.getF .appc 0x808 20 17 * 0x20000)
  else if off = 0x904 ∨ off = 0xA04 then 0
  else if off = 0x90C ∨ off = 0xA0C then
    setFld (s.get .appc off) 12 8 (s.i2cFifo ((off - 0x900) / 0x100)).length
  else s.get .appc off

end Sys2Proof.Machine
end

