-- ==== Sys2Proof/Machine/Pins.lean ====
section
/-! DEFINITION. Pins (21): functions and conflicts, pads, output registers, owners, locks, interrupts, sleep states; and
the TAP (23), which takes the pads over. -/

namespace Sys2Proof.Machine

/-- Change the pads outside their registers. -/
def onPins (f : PinSt → PinSt) (s : State) : State := { s with pins := f s.pins }

/-- PM_PINn. -/
def State.pm (s : State) (n : Nat) : Word := s.get .pmux (0x100 + 4 * n)
/-- PM_PINn.FUNC. -/
def State.func (s : State) (n : Nat) : Nat := fld (s.pm n) 2 0
/-- A pin is locked. -/
def State.pinLocked (s : State) (n : Nat) : Bool := s.pins.locked.getLsbD n
/-- The bank rail of a pin (R989). -/
def bankRail (n : Nat) : Nat := if n < 40 then 10 else 1

/-! ### Functions (R992, R994-R996) -/

/-- FUNC names a function of the pin (R992). -/
def funcValid (n f : Nat) : Bool :=
  f == 0 || (decide (n < 4) && decide (f ≤ 3)) || (decide (4 ≤ n ∧ n < 8) && decide (f ≤ 2)) ||
    (decide ((8 ≤ n ∧ n < 16) ∨ (24 ≤ n ∧ n < 43)) && f == 1)

/-- The PM_CONFLICT bit of the input function that FUNC selects (R992, R994). -/
def inputBit (n f : Nat) : Option Nat :=
  if n < 4 ∧ f = 3 then some (8 + n)
  else if n = 5 ∧ f = 1 then some 0
  else if n = 7 ∧ f = 1 then some 1
  else if 4 ≤ n ∧ n < 8 ∧ f = 2 then some (8 + n)
  else if 8 ≤ n ∧ n < 12 ∧ f = 1 then some (2 + (n - 8))
  else if n = 13 ∧ f = 1 then some 0
  else if (n = 14 ∨ n = 15) ∧ f = 1 then some (4 + (n - 14))
  else if 32 ≤ n ∧ n < 40 ∧ f = 1 then some (8 + (n - 32))
  else none

/-- The pins that select an input function. -/
def State.selecting (s : State) (k : Nat) : List Nat := (List.range 48).filter (fun n => inputBit n (s.func n) == some k)

/-- PM_CONFLICT (R994). -/
def State.conflicts (s : State) : Word := wd (bitsOf 16 (fun k => decide (2 ≤ (s.selecting k).length)))

/-- One pin alone feeds an input function: its IE is 1 and its rail is good (R994). -/
def State.fed (s : State) (k : Nat) : Bool :=
  match s.selecting k with
  | [n] => bit (s.pm n) 4 && s.rail (bankRail n)
  | _ => false

/-- What an input function sees (R994). -/
def State.funcIn (s : State) (k : Nat) : Bool :=
  if s.fed k then s.pins.level.getLsbD ((s.selecting k).headD 0) else decide (k < 8)

/-- PM_CONFLICT follows the selections; a new conflict is recorded (R995). -/
def conflictUpdate (s : State) : State :=
  let old := s.get .pmux 0x40
  let new := s.conflicts
  let s1 := s.set .pmux 0x40 new
  (List.range 16).foldl (fun t k =>
    if bit new k && !bit old k then (t.irq .pmux 8).raise .pmux 0x7130 0 clsConfig [BitVec.ofNat 8 k] else t) s1

/-! ### Pads (R993, R996, R1005, R1010-R1015, R1076) -/

/-- The level a PWM output has now: PWM0-3 are 0-3, AO_PWM0-1 are 4, 5. -/
def State.pwmLevel (s : State) (n : Nat) : Bool := ((s.pins.pwm.get? n).map (·.2)).getD false

/-- The main-bank functions of the GPIO page run (R1005). -/
def State.gpioRuns (s : State) : Bool := s.present .gpio && s.enabled .gpio

/-- A level interrupt whose level holds sets its bit again (R1004). -/
def State.levelIrq (s : State) (n : Nat) : Bool :=
  let k := fld (s.pm n) 14 12
  (decide (40 ≤ n) || s.gpioRuns) && bit (s.pm n) 4 && s.rail (bankRail n)
    && ((k == 4 && s.pins.level.getLsbD n) || (k == 5 && !s.pins.level.getLsbD n))

/-- A pin whose level interrupt holds sets its bit (R1004). -/
def levelSet (n : Nat) (s : State) : State :=
  if s.levelIrq n then s.setB .gpio (0x68 + 4 * (n / 32)) (n % 32) true else s

/-- What the selected function drives; a clock's level is a free value (log entry 5). -/
def funcDrive (s : State) (n : Nat) : Option Bool :=
  let f := s.func n
  let od := bit (s.pm n) 8
  let on := s.gpioRuns
  if (inputBit n f).isSome then none
  else if n < 4 ∧ f = 1 then some (on && s.getB .gpio (0x90 + 4 * n) 0 && Config.freeBool s.seq (0x2300 + n))
  else if n < 4 then some (on && s.pwmLevel n)
  else if n = 4 then some true
  else if n = 6 then some (s.getB .appc 0x804 21 && decide (16 ≤ s.app.uartRx.length))
  else if n = 12 then if od then (if s.hostIrq then some false else none) else some s.hostIrq
  else if 24 ≤ n ∧ n < 32 then some (on && s.pins.evt.getLsbD (n - 24))
  else if n = 40 ∨ n = 41 then some (s.pwmLevel (n - 36))
  else if n = 42 then some (Config.freeBool s.seq 0x2310)
  else none

/-- What the configuration of a pin makes of its pad (R993); an I2C function turns the pull off (R1058). -/
def configPad (s : State) (n : Nat) : Pad :=
  let oe := s.getB .gpio (0x60 + 4 * (n / 32)) (n % 32)
  let out := s.getB .gpio (0x48 + 4 * (n / 32)) (n % 32)
  let drive := if s.func n ≠ 0 then funcDrive s n
               else if !oe ∨ (bit (s.pm n) 8 ∧ out = true) then none else some out
  let i2c := ((inputBit n (s.func n)).map (fun k => decide (2 ≤ k) && decide (k < 6))).getD false
  { drive := drive, pull := if i2c then 0 else fld (s.pm n) 6 5 }

/-- A sleep state of R1010, given what the pad presents at the moment of retention. -/
def sleepPad (code : Nat) (now : Pad) : Pad :=
  match code with
  | 2 => { drive := some false, pull := 0 }
  | 3 => { drive := some true, pull := 0 }
  | 4 => { drive := none, pull := 0 }
  | 5 => { drive := none, pull := 2 }
  | 6 => { drive := none, pull := 1 }
  | _ => now

/-- A pad with no drive and no pull. -/
def Pad.off : Pad := { drive := none, pull := 0 }

/-- What a pad presents. The TAP comes first (R1076), then a missing rail (R165), then a held sleep state (R1013). -/
def State.pad (s : State) (n : Nat) : Pad :=
  if !s.rail (bankRail n) then Pad.off
  else if s.tap.control = 3 then Pad.off
  else if s.tap.control ≠ 0 then { drive := some (s.tap.boundary.testBit n), pull := 0 }
  else
    match s.pins.held.get? n with
    | some p => p
    | none => configPad s n

/-- Pads latch their sleep states: the main bank, and AO pins that are not ACTIVE (R1011, R1012). -/
def latchPads (s : State) : State :=
  onPins (fun p => { p with held := (List.range 48).foldl (fun m n =>
    let code := fld (s.pm n) 18 16
    if code = 0 then m else m.put n (sleepPad code (s.pad n))) p.held }) s

/-- Pads of a rail that is lost leave the hold (R1015). -/
def dropHeld (r : Nat) (s : State) : State :=
  onPins (fun p => { p with held := p.held.filter (fun e => bankRail e.1 != r) }) s

/-- The rail of a bank returns: pads take their configuration (R1015). -/
def railPads (r : Nat) (s : State) : State :=
  if r = 1 then (List.range 8).foldl (fun t i => levelSet (40 + i) t) s
  else if r ≠ 10 then s
  else
    (List.range 40).foldl (fun t n =>
      levelSet n (if (t.pins.held.get? n).isNone then t.setB .gpio (0x70 + 4 * (n / 32)) (n % 32) false else t)) s

/-! ### Writes under a lock (R1001, R1002, R1008) -/

/-- Frozen bits of GP_OUT (`out`) or GP_OE from pin `base` on (R1008). -/
def State.frozen (s : State) (base : Nat) (out : Bool) : Word :=
  wd (bitsOf 32 (fun i => decide (base + i < 48) && s.pinLocked (base + i) && (!out || bit (s.pm (base + i)) 20)))

/-- A write to GP_OUT or GP_OE: `names` are the bits it names, `want` the value it asks for. -/
def outWrite (off names : Nat) (want frz : Word) (wrOff : Nat) (s : State) : State :=
  let old := s.get .gpio off
  let tries := decide ((want ^^^ old) &&& frz ≠ 0) || (decide (names ≠ 0) && decide (wd names &&& ~~~frz = 0))
  let s1 := s.set .gpio off (merge want old frz)
  if tries then s1.rejectD .gpio wrOff 0x07 else s1

/-- The first pin of the half of the bank that an offset names. -/
def pinBase (off : Nat) : Nat := if off % 8 = 0 then 0 else 32

/-- Bits of a register of the bank half. -/
def halfMask (off : Nat) : Word := if off % 8 = 0 then 0xFFFFFFFF#32 else 0xFFFF#32

/-- GP_OUT (R1001). -/
def gpOut (off : Nat) (v mask : Word) (s : State) : State :=
  let m := mask &&& halfMask off
  outWrite off m.toNat (merge (s.get .gpio off) v m) (s.frozen (pinBase off) true) off s

/-- GP_OE (R1001). -/
def gpOe (off : Nat) (v mask : Word) (s : State) : State :=
  let m := mask &&& halfMask off
  outWrite off m.toNat (merge (s.get .gpio off) v m) (s.frozen (pinBase off) false) off s

/-- GP_SET (R1002). -/
def gpSetBits (off : Nat) (v mask : Word) (s : State) : State :=
  let o := 0x48 + (off - 0x50)
  let m := v &&& mask &&& halfMask o
  outWrite o m.toNat (s.get .gpio o ||| m) (s.frozen (pinBase o) true) off s

/-- GP_CLR (R1002). -/
def gpClrBits (off : Nat) (v mask : Word) (s : State) : State :=
  let o := 0x48 + (off - 0x58)
  let m := v &&& mask &&& halfMask o
  outWrite o m.toNat (s.get .gpio o &&& ~~~m) (s.frozen (pinBase o) true) off s

/-- GP_IRQ W1C. -/
def gpIrqClear (off : Nat) (v mask : Word) (s : State) : State :=
  let base := if off = 0x68 then 0 else 32
  let s1 := plainStore .gpio off v mask s
  (List.range (if off = 0x68 then 32 else 16)).foldl (fun t i => levelSet (base + i) t) s1

/-- GP_HOLD W1C: the pad takes the configuration in force (R1013). -/
def gpHoldClear (off : Nat) (v mask : Word) (s : State) : State :=
  let base := if off = 0x70 then 0 else 32
  let m := v &&& mask &&& s.get .gpio off
  let s1 := s.andNot .gpio off m
  onPins (fun p => { p with held := p.held.filter (fun e => !(decide (base ≤ e.1) && decide (e.1 < base + 32) && bit m (e.1 - base))) }) s1

/-- A write to a function register of a locked home pin: frozen bits stay (R1008). -/
def homeWrite (off home : Nat) (v mask : Word) (high : Word) (s : State) : State :=
  let old := s.get .gpio off
  let frz := if !s.pinLocked home then 0 else if bit (s.pm home) 20 then 0xFFFFFFFF#32 else ~~~high
  let rw := wd (((rowAt .gpio off).map (·.rw)).getD 0) &&& mask
  let want := merge old v rw
  let s1 := s.set .gpio off (merge want old frz)
  if (want ^^^ old) &&& frz = 0 then s1 else s1.rejectD .gpio off 0x07

/-- GP_PWMn (4, 5: GP_AOPWMn): PERIOD and HIGH; AO_PWM counts AO ticks. -/
def State.pwmReg (s : State) (n : Nat) : Nat × Nat :=
  if n < 4 then (s.getF .gpio (0x80 + 4 * n) 15 0, s.getF .gpio (0x80 + 4 * n) 31 16)
  else (s.getF .gpio (0x120 + 4 * (n - 4)) 11 0, s.getF .gpio (0x120 + 4 * (n - 4)) 27 16)

/-- The count that a PWM runs on. -/
def State.pwmNow (s : State) (n : Nat) : Nat := if n < 4 then s.dt else s.time.a

/-- The output of a PWM at its count: 1 for HIGH units at the start of each PERIOD (R996). -/
def pwmAt (n : Nat) (s : State) : State :=
  let (per, high) := s.pwmReg n
  let now := s.pwmNow n
  let start := ((s.pins.pwm.get? n).map (·.1)).getD now
  if per = 0 then onPins (fun p => { p with pwm := p.pwm.put n (now, false) }) s
  else
    let ph := (now - start) % per
    onPins (fun p => { p with pwm := p.pwm.put n (now - ph, decide (ph < high)) }) s

/-- PWM_PERIOD: a period or high time expires. -/
def pwmPeriodAt (n : Nat) (s : State) : State :=
  if (n < 4 ∧ s.gpioRuns = true) ∨ (4 ≤ n ∧ s.rail 0 = true) then pwmAt n s else s

/-- A PWM register is written: its period starts anew (log entry 38). -/
def pwmStore (n off home : Nat) (v mask high : Word) (s : State) : State :=
  let s1 := homeWrite off home v mask high s
  pwmAt n (onPins (fun p => { p with pwm := p.pwm.del n }) s1)

/-- The GPIO page is enabled or stops: PWM and EVT outputs start from 0 (R1005). -/
def gpioStop (s : State) : State :=
  onPins (fun p => { p with evt := 0, pwm := p.pwm.filter (fun e => decide (4 ≤ e.1)) }) s

/-- The GPIO page starts (R1005): its PWMs begin, and levels that hold set their interrupts. -/
def gpioStart (s : State) : State :=
  (List.range 40).foldl (fun t n => levelSet n t) ((List.range 4).foldl (fun t n => pwmAt n t) (gpioStop s))

/-- A write to a register of the GPIO page that passed judgement. -/
def gpioStore (off : Nat) (v mask : Word) (s : State) : State :=
  if off = 0x48 ∨ off = 0x4C then gpOut off v mask s
  else if off = 0x60 ∨ off = 0x64 then gpOe off v mask s
  else if off = 0x50 ∨ off = 0x54 then gpSetBits off v mask s
  else if off = 0x58 ∨ off = 0x5C then gpClrBits off v mask s
  else if off = 0x68 ∨ off = 0x6C then gpIrqClear off v mask s
  else if off = 0x70 ∨ off = 0x74 then gpHoldClear off v mask s
  else if 0x80 ≤ off ∧ off < 0x90 then pwmStore ((off - 0x80) / 4) off ((off - 0x80) / 4) v mask 0xFFFF0000#32 s
  else if 0x90 ≤ off ∧ off < 0xA0 then homeWrite off ((off - 0x90) / 4) v mask 0 s
  else if 0xA0 ≤ off ∧ off < 0x120 ∧ off % 0x10 = 0 then homeWrite off (32 + (off - 0xA0) / 0x10) v mask 0 s
  else if off = 0x120 ∨ off = 0x124 then
    let n := (off - 0x120) / 4
    pwmStore (4 + n) off (40 + n) v mask 0x0FFF0000#32 s
  else plainStore .gpio off v mask s

/-- What a read of the GPIO page shows: GP_IN (R1003). -/
def gpioView (off : Nat) (s : State) : Word :=
  if off = 0x40 then wd (bitsOf 32 (fun n => s.enabled .gpio && s.pinIn n))
  else if off = 0x44 then wd (bitsOf 16 (fun i => (decide (8 ≤ i) || s.enabled .gpio) && s.pinIn (32 + i)))
  else s.get .gpio off

/-! ### Owners and locks (R998, R999, R1006, R1007) -/

/-- GL_OWNk (R999). -/
def ownStore (m : Master) (off : Nat) (v : Word) (s : State) : State :=
  let k := (off - 0x40) / 4
  let d := m.dom s
  let nib := fun (w : Word) (j : Nat) => fld w (4 * j + 3) (4 * j)
  let old := s.get .gown off
  let diff := (List.range 8).filter (fun j => nib v j != nib old j)
  let may := fun (j : Nat) => d == domSec || d == domMgmt || (decide (d ≠ 0) && nib old j == d) || (nib old j == 0 && nib v j == d)
  let mine := diff.filter may
  let free := mine.filter (fun j => !s.pinLocked (8 * k + j))
  if diff.any (fun j => decide (7 ≤ nib v j)) then s.rejectD .gown off 0x02
  else if !diff.isEmpty && mine.isEmpty then s.rejectD .gown off 0x06
  else
    let s1 := s.set .gown off (free.foldl (fun w j => setFld w (4 * j + 3) (4 * j) (nib v j)) old)
    if free.length < mine.length then s1.rejectD .gown off 0x07 else s1

/-- GL_KEY (R1006). -/
def keyStore (m : Master) (v : Word) (s : State) : State :=
  let st := (s.pins.keys.get? m.code).getD 0
  let k := fld v 15 0
  let new := if k = 0x5A5A then 1 else if k = 0xA5A5 ∧ st = 1 then 2 else 0
  if hasLatch m then onPins (fun p => { p with keys := p.keys.put m.code new }) s else s

/-- GL_LOCK_LO and GL_LOCK_HI (R1007). -/
def lockStore (m : Master) (off : Nat) (v : Word) (s : State) : State :=
  let base := if off = 0x64 then 0 else 32
  let n := if off = 0x64 then 32 else 16
  let d := m.dom s
  let want := (List.range n).filter (fun i => bit v i)
  let take := want.filter (fun i => s.pinMay d (base + i))
  let s0 := onPins (fun p => { p with keys := p.keys.put m.code 0 }) s
  if (s.pins.keys.get? m.code).getD 0 ≠ 2 then s0.reject .gown off 0x7020
  else if !want.isEmpty && take.isEmpty then s0.rejectD .gown off 0x06
  else onPins (fun p => { p with locked := take.foldl (fun w i => w ||| BitVec.ofNat 48 (2 ^ (base + i))) p.locked }) s0

/-- A write to a register of the owner and lock page that passed judgement. -/
def gownStore (m : Master) (off : Nat) (v mask : Word) (s : State) : State :=
  if 0x40 ≤ off ∧ off < 0x58 then ownStore m off v s
  else if off = 0x60 then keyStore m v s
  else if off = 0x64 ∨ off = 0x68 then lockStore m off v s
  else plainStore .gown off v mask s

/-- What a read of the owner and lock page shows. -/
def gownView (m : Master) (off : Nat) (s : State) : Word :=
  if off = 0x64 then s.pins.locked.setWidth 32
  else if off = 0x68 then (s.pins.locked >>> 32).setWidth 32
  else if off = 0x6C then wd ((s.pins.keys.get? m.code).getD 0)
  else s.get .gown off

/-! ### Pin configuration (R1000, R1008, R1020, R1021) -/

/-- A reserved encoding (R1021). -/
def pmReserved (n : Nat) (v : Word) : Bool :=
  !funcValid n (fld v 2 0) || fld v 6 5 == 3 || decide (6 ≤ fld v 14 12) || fld v 18 16 == 7 ||
    (decide (n < 40) && fld v 18 16 == 0)

/-- PM_PINn. -/
def pmStore (n : Nat) (v mask : Word) (s : State) : State :=
  let off := 0x100 + 4 * n
  let w := merge (s.get .pmux off) v (0x00177777#32 &&& mask)
  if pmReserved n v then s.rejectD .pmux off 0x02
  else if s.pinLocked n then (if w = s.get .pmux off then s else s.rejectD .pmux off 0x07)
  else levelSet n (conflictUpdate (s.set .pmux off w))

/-- A write to a register of the PINMUX page that passed judgement. -/
def pmuxStore (off : Nat) (v mask : Word) (s : State) : State :=
  if 0x100 ≤ off ∧ off < 0x1C0 then pmStore ((off - 0x100) / 4) v mask s else plainStore .pmux off v mask s

/-- What a read of the PINMUX page shows: LOCKED (R1020). -/
def pmuxView (off : Nat) (s : State) : Word :=
  if 0x100 ≤ off ∧ off < 0x1C0 then setBit (s.get .pmux off) 31 (s.pinLocked ((off - 0x100) / 4)) else s.get .pmux off

/-! ### Events (R991, R996, R1004) -/

/-- PIN_EVENT: the synchronised level changes; a selected edge or level sets GP_IRQ. -/
def pinEventAt (n : Nat) (level : Bool) (s : State) : State :=
  let old := s.pins.level.getLsbD n
  let s1 := onPins (fun p => { p with level := if level then p.level ||| BitVec.ofNat 48 (2 ^ n) else p.level &&& ~~~BitVec.ofNat 48 (2 ^ n) }) s
  let k := fld (s.pm n) 14 12
  let edge := (decide (k = 1 ∨ k = 3) && level && !old) || (decide (k = 2 ∨ k = 3) && !level && old)
  let live := bit (s.pm n) 4 && s.rail (bankRail n) && (decide (40 ≤ n) || s.gpioRuns)
  if live && edge then s1.setB .gpio (0x68 + 4 * (n / 32)) (n % 32) true else levelSet n s1

/-- TCAP_EDGE: a selected edge is stamped and counted (R996). -/
def tcapEdgeAt (n : Nat) (rising : Bool) (s : State) : State :=
  let o := 0xA0 + 0x10 * n
  let e := s.getF .gpio o 1 0
  if s.gpioRuns && s.fed (8 + n) && (e == 3 || (e == 1 && rising) || (e == 2 && !rising)) then
    ((s.set64 .gpio (o + 4) s.dt).count .gpio (o + 12) 1).irq .gpio (8 + n)
  else s

/-- UART_RX_BYTE: a character reaches UART0 where a pin feeds UART0_RX; otherwise the line stays 1 (R994, R1044). -/
def uartLineAt (ch : Byte) (frameErr parityErr brk : Bool) (s : State) : State :=
  if s.fed 0 then uartRxAt ch frameErr parityErr brk s else s

/-- EVTn toggles when comparator n fires (R996). -/
def evtToggle (n : Nat) (s : State) : State :=
  if s.gpioRuns then onPins (fun p => { p with evt := p.evt ^^^ BitVec.ofNat 8 (2 ^ n) }) s else s

/-! ### Resets, sleep and wake (R990, R1009, R1011, R1013, R1026) -/

/-- The bits of a register of the three pages that belong to a pin, by address; none for the others. -/
def pinFields (n : Nat) : List (Nat × Word) :=
  let b := BitVec.ofNat 32 (2 ^ (n % 32))
  let h := 4 * (n / 32)
  [(Blk.at .gown (0x40 + 4 * (n / 8)), fmask (4 * (n % 8) + 3) (4 * (n % 8))), (Blk.at .pmux (0x100 + 4 * n), 0xFFFFFFFF#32),
   (Blk.at .gpio (0x48 + h), b), (Blk.at .gpio (0x60 + h), b)] ++
  (if n < 4 then [(Blk.at .gpio (0x80 + 4 * n), 0xFFFFFFFF#32), (Blk.at .gpio (0x90 + 4 * n), 0xFFFFFFFF#32)] else []) ++
  (if 32 ≤ n ∧ n < 40 then [(Blk.at .gpio (0xA0 + 0x10 * (n - 32)), 0xFFFFFFFF#32)] else []) ++
  (if n = 40 ∨ n = 41 then [(Blk.at .gpio (0x120 + 4 * (n - 40)), 0xFFFFFFFF#32)] else [])

/-- GP_IRQ of an AO pin (R990). -/
def pinIrqField (n : Nat) : List (Nat × Word) := if 40 ≤ n then [(Blk.at .gpio 0x6C, BitVec.ofNat 32 (2 ^ (n - 32)))] else []

/-- The fields of a locked pin that are frozen (R1008). -/
def frozenFields (s : State) (n : Nat) : List (Nat × Word) :=
  (pinFields n).filterMap (fun p =>
    if p.1 = Blk.at .gpio (0x48 + 4 * (n / 32)) ∧ !bit (s.pm n) 20 then none else some p)

/-- Carry fields of `old` into `s`. -/
def carry (old : State) (fs : List (Nat × Word)) (s : State) : State :=
  fs.foldl (fun t p => t.setReg p.1 (merge (t.reg p.1) (old.reg p.1) p.2)) s

/-- Beside `pinFields`, the status fields of a pin: GP_IRQ and what its capture unit holds. -/
def statusFields (n : Nat) : List (Nat × Word) :=
  (Blk.at .gpio (0x68 + 4 * (n / 32)), BitVec.ofNat 32 (2 ^ (n % 32))) ::
    (if 32 ≤ n ∧ n < 40 then [4, 8, 12].map (fun o => (Blk.at .gpio (0xA0 + 0x10 * (n - 32) + o), 0xFFFFFFFF#32)) else [])

/-- SOFT_RST of a GPIO page (R1026); `clear` is the reset of its registers: locked pins and GP_HOLD stay, and so does a
conflict that stands. -/
def pinSoftReset (clear : State → State) (s : State) : State :=
  let pwm := fun (e : Nat × (Nat × Bool)) => decide (e.1 < 4) || s.pinLocked (36 + e.1)
  let s1 := onPins (fun p => { p with keys := [], pwm := p.pwm.filter pwm }) (clear s)
  let keep := (List.range 48).filter s.pinLocked
  let s2 := keep.foldl (fun t n => carry s (pinFields n ++ statusFields n) t) s1
  let s3 := carry s [(Blk.at .gpio 0x70, 0xFFFFFFFF#32), (Blk.at .gpio 0x74, 0xFF#32)] s2
  conflictUpdate (s3.set .pmux 0x40 (s.get .pmux 0x40))

/-- The pin fields after the registers of the main domain were reset at a wake: AO pins keep theirs, locked pins their
frozen fields, and unlocked main-bank pins their pads in hold (R990, R1011, R1013). -/
def pinWake (old : State) (s : State) : State :=
  let s1 := (List.range 8).foldl (fun t i => carry old (pinFields (40 + i) ++ pinIrqField (40 + i)) t) s
  let s2 := ((List.range 40).filter old.pinLocked).foldl (fun t n => carry old (frozenFields old n) t) s1
  let hold := fun (n : Nat) => decide (n < 40) && !old.pinLocked n && (old.pins.held.get? n).isSome
  let s3 := (s2.setN .gpio 0x70 (bitsOf 32 hold)).setN .gpio 0x74 (bitsOf 8 (fun i => hold (32 + i)))
  let s4 := s3.set .pmux 0x40 s3.conflicts
  onPins (fun p => { p with keys := [], cap := [], evt := 0, pwm := p.pwm.filter (fun e => decide (4 ≤ e.1)) }) s4

/-- RUN_READY: locked pads and AO pads follow their configuration (R1012, R1013). -/
def pinRun (s : State) : State :=
  onPins (fun p => { p with held := p.held.filter (fun e => decide (e.1 < 40) && !s.pinLocked e.1) }) s

/-! ### TAP (R1070-R1072, R1076) -/

/-- Change the TAP; it answers only with VDD_IO good. -/
def onTap (f : TapSt → TapSt) (s : State) : State := if s.rail 10 then { s with tap := f s.tap } else s

/-- What the boundary register captures; the cells of GPIOn stand at bit n (log entry 39). -/
def tapCapture (s : State) : List Word :=
  [wd (bitsOf 32 (fun n => s.rail 10 && s.pins.level.getLsbD n)),
   wd (bitsOf 16 (fun i => s.rail (bankRail (32 + i)) && s.pins.level.getLsbD (32 + i)))]

/-- IDCODE (R1072). -/
def idcodeWord (s : State) : Word := wd (0x10000000 + (s.part.code % 0x10000) * 0x1000 + 0x56B)

end Sys2Proof.Machine
end

