-- ==== Sys2Proof/Machine/Time.lean ====
section
/-! DEFINITION. Device time (03): tick edges, fine strobes, latches, comparators. -/

namespace Sys2Proof.Machine

/-! ### The counter (R131-R135, R157); the AO side runs from the release of its power-on reset -/

/-- The counter runs: the AO power-on reset is released. -/
def State.aoUp (s : State) : Bool := s.power.pstate != .off && s.power.pstate != .aoHeld

/-- An AO tick edge, real or synthesised: A increments, S and the accumulator return to 0 (R132, R133). -/
def tickEdge (t : TimeSt) : TimeSt := { t with a := t.a + 1, s := 0, acc := 0 }

/-- A real edge: AO_LOST clears, and sub-tick counting resumes once PLL_SOC has locked (R135, R157). -/
def realEdge (t : TimeSt) : TimeSt :=
  { tickEdge t with since := 0, sinceSy := 0, aoLost := false, fine := t.fine || t.resume, resume := false }

/-- The counter after AO_TICK. -/
def tickTime (s : State) : TimeSt := if s.aoUp then realEdge s.time else s.time

/-- The accumulator after the strobe that it reaches next: 41 on each SoC cycle, less 1,250 (R133). -/
def strobeAcc (acc : Nat) : Nat := acc + 41 * ((1250 - acc + 40) / 41) - 1250

/-- A fine strobe: S counts and holds at 999 (R133). -/
def strobe (t : TimeSt) : TimeSt :=
  { t with s := min (t.s + 1) 999, acc := strobeAcc t.acc, since := t.since + 1, sinceSy := t.sinceSy + 1 }

/-- The counter after FINE_STROBE: only while the SoC clock runs from a locked PLL_SOC (R133, R134). -/
def strobeTime (s : State) : TimeSt := if s.aoUp && s.time.fine then strobe s.time else s.time

/-- A synthesised tick is due (R157). -/
def TimeSt.lost (t : TimeSt) : Bool :=
  t.fine && (if t.aoLost then decide (1000 ≤ t.sinceSy) else decide (2048 ≤ t.since))

/-- The counter after SYNTHESISED_TICK, which sets AO_LOST (R157). -/
def lostTime (s : State) : TimeSt :=
  if s.aoUp && s.time.lost then { tickEdge s.time with sinceSy := 0, aoLost := true } else s.time

/-- SYNTHESISED_TICK: the first one raises a Gatehouse record, stamped with its tick (R157). -/
def synthesisedTickAt (s : State) : State :=
  if s.aoUp && s.time.lost && !s.time.aoLost then gateRec .gate 0x6035 clsTransient false { s with time := lostTime s } else s

/-- The SoC clock stops: S holds (R134). -/
def TimeSt.stop (t : TimeSt) : TimeSt := { t with fine := false, resume := false }

/-- PLL_SOC has locked: counting resumes at the next edge (R135). -/
def TimeSt.restart (t : TimeSt) : TimeSt := { t with resume := !t.fine }

/-! ### Latches (R141, R142) -/

/-- A read of TIME_DT_LO latches the upper half for the reader. -/
def dtLoRead (m : Master) (s : State) : State × Word :=
  (if hasLatch m then { s with latches := s.latches.put m.code (wd (s.dt >>> 32)) } else s, wd s.dt)

/-- A read of TIME_DT_HI: the reader's latch, or the live upper half. -/
def dtHiRead (m : Master) (s : State) : Word := (s.latches.get? m.code).getD (wd (s.dt >>> 32))

/-! ### Comparators (R149-R155) -/

/-- The first offset of comparator `n`. -/
def cmpOff (n : Nat) : Nat := 0x100 + 0x20 * n

/-- The compare value. -/
def State.cmpVal (s : State) (n : Nat) : Nat := s.get64 .time (cmpOff n)

/-- CMPn_LO clears ARMED (R151). -/
def cmpLoStore (n : Nat) (v mask : Word) (s : State) : State :=
  (plainStore .time (cmpOff n) v mask s).setB .time (cmpOff n + 0xC) 16 false

/-- CMPn_HI sets ARMED if EN is 1 (R151). -/
def cmpHiStore (n : Nat) (v mask : Word) (s : State) : State :=
  let s1 := plainStore .time (cmpOff n + 4) v mask s
  if s1.getB .time (cmpOff n + 0xC) 0 then s1.setB .time (cmpOff n + 0xC) 16 true else s1

/-- CMPn_PERIOD (R153). -/
def cmpPeriodStore (n : Nat) (v mask : Word) (s : State) : State :=
  if v.toNat < 32 ∧ s.getF .time (cmpOff n + 0xC) 1 0 = 3 then s.reject .time (cmpOff n + 8) 0x0420
  else plainStore .time (cmpOff n + 8) v mask s

/-- CMPn_CTRL (R151, R153). -/
def cmpCtrlStore (m : Master) (n : Nat) (v mask : Word) (s : State) : State :=
  let off := cmpOff n + 0xC
  let d := m.dom s
  let o := fld v 7 4
  if fld v 1 0 = 3 ∧ s.getN .time (cmpOff n + 8) < 32 then s.reject .time off 0x0420
  else if o ≠ 0 ∧ o ≠ d ∧ d ≠ domSec ∧ d ≠ domMgmt then s.reject .time off 0x0421
  else
    let s1 := plainStore .time off v mask s
    if bit v 0 then s1 else s1.setB .time off 16 false

/-- COMPARATOR_FIRE (R152). -/
def comparatorFireAt (n : Nat) (s : State) : State :=
  let c := s.get .time (cmpOff n + 0xC)
  let v := s.cmpVal n
  let per := s.getN .time (cmpOff n + 8)
  if !(s.present .time && bit c 16 && bit c 0 && decide (v ≤ s.dt)) then s
  else
    let s1 := evtToggle n (s.irq .time (8 + n))
    if !bit c 1 then s1.setB .time (cmpOff n + 0xC) 16 false
    else
      let k := (s.dt - v) / per + 1
      (s1.set64 .time (cmpOff n) (v + k * per)).countF .time (cmpOff n + 0x10) 7 0 (k - 1)

/-- A write to a register of the TIME page that passed judgement; PG_IRQ_EN [15:8] ignores writes (R148). -/
def timeStore (m : Master) (off : Nat) (v mask : Word) (s : State) : State :=
  let n := (off - 0x100) / 0x20
  let r := (off - 0x100) % 0x20
  if off = offEn then plainStore .time off v (mask &&& 0xFFFF00FF#32) s
  else if off < 0x100 then plainStore .time off v mask s
  else if r = 0 then cmpLoStore n v mask s
  else if r = 4 then cmpHiStore n v mask s
  else if r = 8 then cmpPeriodStore n v mask s
  else if r = 0xC then cmpCtrlStore m n v mask s
  else s

/-- What a read of the TIME page shows. -/
def timeView (m : Master) (off : Nat) (s : State) : Word :=
  if off = 0x40 then wd s.dt
  else if off = 0x44 then dtHiRead m s
  else if off = 0x48 then wd (s.time.fine.toNat + 2 * s.time.aoLost.toNat)
  else s.get .time off

end Sys2Proof.Machine
end

