-- ==== Sys2Proof/Machine/Power.lean ====
section
/-! DEFINITION. Supplies, resets, clocks, operating points, SLEEP and thermal rules (04). -/

namespace Sys2Proof.Machine

/-- Change the supplies. -/
def onPower (f : PowerSt → PowerSt) (s : State) : State := { s with power := f s.power }

/-- Change the PWR sleep record (R204). -/
def onKept (f : SleepRec → SleepRec) (s : State) : State := onPower (fun p => { p with kept := f p.kept }) s

/-! ### Clocks (R181-R184, R208-R212) -/

/-- The PLL that feeds a clock domain: 0 SOC, 1 NPU, 2 APP, 3 DDR, 4 VID, 5 PHY (R183). -/
def pllOf (d : Nat) : Nat :=
  if 7 ≤ d ∧ d ≤ 22 then 1
  else if 45 ≤ d ∧ d ≤ 49 then 2
  else if d = 33 ∨ d = 34 then 3
  else if 39 ≤ d ∧ d ≤ 43 then 4
  else if (35 ≤ d ∧ d ≤ 38) ∨ d = 55 then 5
  else 0

/-- A domain is requested. -/
def State.clkReq (s : State) (d : Nat) : Bool := s.getB .clk (if d < 32 then 0x48 else 0x4C) (d % 32)

/-- Set or clear the request of a domain. -/
def setClkReq (d : Nat) (v : Bool) (s : State) : State := s.setB .clk (if d < 32 then 0x48 else 0x4C) (d % 32) v

/-- Start or stop a domain. -/
def setClkOn (d : Nat) (v : Bool) (s : State) : State := s.setB .clk (if d < 32 then 0x60 else 0x64) (d % 32) v

/-- LOCKED of a PLL. -/
def State.pllLocked (s : State) (p : Nat) : Bool := s.getB .clk 0x40 p
/-- RUN of a PLL. -/
def State.pllRuns (s : State) (p : Nat) : Bool := s.getB .clk 0x40 (8 + p)

/-- A request of a domain: its PLL starts, or the domain runs. -/
def clkRequest (d : Nat) (s : State) : State :=
  let s1 := setClkReq d true s
  if s1.pllLocked (pllOf d) then setClkOn d true s1 else s1.setB .clk 0x40 (8 + pllOf d) true

/-- Domains that a word of CLK_SET or CLK_CLR names. -/
def clkNamed (s : State) (hi : Bool) (w : Word) : List Nat :=
  ((List.range 32).filter (bit w)).map (fun i => i + 32 * hi.toNat) |>.filter s.clkHas

/-- CLK_SET (R210). -/
def clkSetStore (hi : Bool) (v mask : Word) (s : State) : State :=
  (clkNamed s hi (v &&& mask)).foldl (fun t d => clkRequest d t) s

/-- The page that R183 names for a domain is enabled (R211). -/
def State.clkInUse (s : State) (d : Nat) : Bool :=
  match clockOwner d with
  | some b => s.enabled b
  | none => false

/-- CLK_CLR (R210, R211). -/
def clkClrStore (hi : Bool) (v mask : Word) (s : State) : State :=
  let l := (clkNamed s hi (v &&& mask)).filter (fun d => decide (2 ≤ d))
  let s1 := (l.filter (fun d => !s.clkInUse d)).foldl (fun t d => setClkOn d false (setClkReq d false t)) s
  if l.any s.clkInUse then s1.reject .clk (if hi then 0x5C else 0x58) 0x0320 else s1

/-- PLL_LOCK (R181). -/
def pllLockAt (p : Nat) (s : State) : State :=
  if s.present .clk ∧ s.pllRuns p = true ∧ s.pllLocked p = false then
    let s1 := s.setB .clk 0x40 p true
    ((List.range 60).filter (fun d => pllOf d == p && s1.clkReq d)).foldl (fun t d => setClkOn d true t) s1
  else s

/-- PLL_LOCK_FAIL (R182). -/
def pllLockFailAt (p : Nat) (s : State) : State :=
  if s.present .clk ∧ s.pllRuns p = true ∧ s.pllLocked p = false then
    ((s.setB .clk 0x40 (8 + p) false).setB .clk 0x40 (16 + p) true).raise .clk 0x0322 0 clsPermanent []
  else s

/-- PLL_STOP: no domain of the PLL is requested any more (R181). PLL_SOC runs throughout RUN. -/
def pllStopAt (p : Nat) (s : State) : State :=
  if s.present .clk ∧ p ≠ 0 ∧ s.pllRuns p = true ∧ (List.range 60).all (fun d => !(pllOf d == p && s.clkReq d)) then
    (s.setB .clk 0x40 (8 + p) false).setB .clk 0x40 p false
  else s

/-- A write to a register of the CLK page that passed judgement. -/
def clkStore (off : Nat) (v mask : Word) (s : State) : State :=
  if off = 0x50 ∨ off = 0x54 then clkSetStore (off == 0x54) v mask s
  else if off = 0x58 ∨ off = 0x5C then clkClrStore (off == 0x5C) v mask s
  else plainStore .clk off v mask s

/-- What a read of the CLK page shows: the mirror of the Gatehouse domains (R183, R209). -/
def clkView (off : Nat) (s : State) : Word :=
  if off = 0x4C ∨ off = 0x64 then setFld (s.get .clk off) 31 28 (s.getF .gate 0x48 3 0) else s.get .clk off

/-! ### Operating points (R170-R176, R205) -/

/-- PWR_NPU_OP or PWR_APP_OP. -/
def opOff (app : Bool) : Nat := if app then 0x4C else 0x48

/-- The target of a rail: the lower of REQ and CAP (R173). -/
def State.opTarget (s : State) (app : Bool) : Nat := min (s.getF .pwr (opOff app) 1 0) (s.getF .pwr (opOff app) 9 8)

/-- CUR. -/
def State.opCur (s : State) (app : Bool) : Nat := s.getF .pwr (opOff app) 17 16

/-- The change in progress on a rail. -/
def State.opNow (s : State) (app : Bool) : Option OpChange := if app then s.power.opApp else s.power.opNpu

/-- Set the change in progress and BUSY. -/
def setOp (app : Bool) (x : Option OpChange) (s : State) : State :=
  onPower (fun p => if app then { p with opApp := x } else { p with opNpu := x }) (s.setB .pwr (opOff app) 24 x.isSome)

/-- Drive a code on the select balls (R171). -/
def setVsel (app : Bool) (c : Nat) (s : State) : State :=
  onPower (fun p => if app then { p with vselApp := c } else { p with vselNpu := c }) s

/-- NPU_VSEL and APP_VSEL as the board sees them: high impedance while VDD_IO is absent (R165, R172). -/
def State.vselBall (s : State) (app : Bool) : Option Nat :=
  if s.rail 10 then some (if app then s.power.vselApp else s.power.vselNpu) else none

/-- PMIC_SLP as the board sees it: high impedance while VDD_AOIO is absent (R165). -/
def State.pmicBall (s : State) : Option Bool := if s.rail 1 then some s.power.pmicSlp else none

/-- Start a change to the target, unless one runs, or a sleep entry does (R173, R174, R214). -/
def opStart (app : Bool) (s : State) : State :=
  let t := s.opTarget app
  let c := s.opCur app
  if t = c ∨ (s.opNow app).isSome ∨ s.power.goDt.isSome then s
  else
    let s1 := setOp app (some { target := t, raise := decide (c < t), since := s.dt }) s
    if c < t then setVsel app t s1 else s1

/-- Store REQ, CAP and CEIL under R205; a change of the target starts a change (R173). -/
def opFields (app : Bool) (w : Word) (s : State) : State :=
  let old := s.opTarget app
  let ceil := fld w 13 12
  let s1 := s.set .pwr (opOff app) (setFld w 9 8 (min (fld w 9 8) ceil))
  let s2 := onKept (fun k => if app then { k with ceilApp := ceil } else { k with ceilNpu := ceil }) s1
  if s2.opTarget app = old then s2 else opStart app s2

/-- A write of PWR_NPU_OP or PWR_APP_OP. -/
def opStore (app : Bool) (v mask : Word) (s : State) : State :=
  opFields app (merge (s.get .pwr (opOff app)) v (0x3303#32 &&& mask)) s

/-- PWR_SETTLE of a rail. -/
def State.settle (s : State) (app : Bool) : Nat := if app then s.getF .pwr 0x50 27 16 else s.getF .pwr 0x50 11 0

/-- The time of the voltage wait has passed (R174). The live reading of the rail's monitor is the board's: a switch says
that it was reached, a timeout that it was not (log entry 43). -/
def State.opSettled (s : State) (app : Bool) (x : OpChange) : Bool :=
  !x.raise || decide (x.since + s.settle app ≤ s.dt)

/-- The clock switches; a target that changed meanwhile is taken up (R173). -/
def opSwitch (app : Bool) (x : OpChange) (s : State) : State :=
  let s1 := setVsel app x.target (setOp app none (s.setF .pwr (opOff app) 17 16 x.target))
  opStart app (s1.irq .pwr 10)

/-- NPU_CLOCK_SWITCH: no cluster has a command in body or commit (R174). -/
def npuSwitchAt (s : State) : State :=
  match s.power.opNpu with
  | none => s
  | some x =>
    if s.opSettled false x ∧ (List.range 4).all (fun k => s.csqPhase k != 1 && s.csqPhase k != 2) then opSwitch false x s
    else s

/-- APP_OP_SWITCH (R176); a cluster reset that waited takes effect (R1047). -/
def appSwitchAt (s : State) : State :=
  match s.power.opApp with
  | none => s
  | some x => if s.opSettled true x then opSwitch true x (clusterResetDue s) else s

/-- OP_RAISE_TIMEOUT (R175). -/
def opTimeoutAt (app : Bool) (s : State) : State :=
  match s.opNow app with
  | none => s
  | some x =>
    if x.raise = false ∨ s.dt < x.since + 2 * s.settle app then s
    else
      let s1 := setVsel app (s.opCur app) (setOp app none s)
      let s2 := (s1.irq .pwr 11).raise .pwr 0x0225 0 clsTransient []
      if s2.opTarget app = x.target then s2 else opStart app s2

/-! ### The thermal governor (R199-R201) -/

/-- The last published reading of a sensor in 1/8 degree. -/
def State.temp (s : State) (n : Nat) : Option Int :=
  let w := s.get .sens (0x40 + 4 * n)
  if bit w 31 then some (signed 16 (fld w 15 0)) else none

/-- The readings of the twelve sensors. -/
def State.temps (s : State) : List Int := (List.range 12).filterMap s.temp

/-- CAP by R199: `hist` are the highest readings, newest first. -/
def govCap (hist : List Int) (cap ceil : Nat) : Nat :=
  match hist with
  | [] => cap
  | t :: _ =>
    if 800 ≤ t then 0
    else if 760 ≤ t then cap - 1
    else if hist.length = 3 ∧ hist.all (fun x => decide (x ≤ 680)) then min (cap + 1) ceil
    else cap

/-- FW1 sets CAP of a rail. -/
def govSet (hist : List Int) (app : Bool) (s : State) : State :=
  let w := s.get .pwr (opOff app)
  opFields app (setFld w 9 8 (govCap hist (fld w 9 8) (fld w 13 12))) s

/-- The governor's period of 1 s has passed (R143). -/
def State.govDue (s : State) : Bool := s.fwRuns 1 && s.power.pstate == .run && decide (s.power.govDt + oneSecond ≤ s.dt)

/-- GOVERNOR_TICK (R199). -/
def governorAt (s : State) : State :=
  match s.temps with
  | [] => s
  | t :: ts =>
    if !s.govDue then s
    else
      let hist := (ts.foldl max t :: s.power.tmax).take 3
      govSet hist true (govSet hist false (onPower (fun p => { p with tmax := hist, govDt := s.dt }) s))

/-- THERMAL_TRIP: a sensor at 110 °C or above (R200). -/
def tripAt (n : Nat) (s : State) : State :=
  match s.temp n with
  | some t =>
    if s.present .pwr ∧ 880 ≤ t ∧ s.getB .pwr 0x6C 0 = false then
      (((s.setB .pwr 0x6C 0 true).setF .pwr 0x6C 11 8 n).irq .pwr 13).raise .pwr 0x0230 0 clsTransient []
    else s
  | none => s

/-- A write of PWR_THERM.TRIP (R200, R206). -/
def tripClearStore (v : Word) (s : State) : State :=
  if bit v 0 = false then s
  else if s.temps.any (fun t => decide (800 < t)) then s.reject .pwr 0x6C 0x0226
  else s.setB .pwr 0x6C 0 false

/-! ### The main domain goes down -/

/-- A register of the Gatehouse pages. -/
def isAoReg (a : Nat) : Bool :=
  match blkOf a with
  | some b => b.isAo
  | none => false

/-- Memory that SLEEP keeps: DRAM and Gatehouse SRAM (R34). -/
def sleepMem (m : SMap Byte) : SMap Byte :=
  m.filter (fun p => inWindow p.1 1 gtSram gtSramSize || decide (dramBase ≤ p.1))

/-- The register that lives outside the main domain: APPC_WAKE (R1043). -/
def carryRegs (old : State) (s : State) : State :=
  carry old ([0x80, 0x84].map (fun o => (Blk.at .appc o, 0xFFFFFFFF#32))) s

/-- CAP and CEIL after a reset or wake (R204, R205). -/
def loadCeil (s : State) : State :=
  let f := fun (app : Bool) (c : Nat) (t : State) =>
    t.set .pwr (opOff app) (setFld (setFld (t.get .pwr (opOff app)) 13 12 c) 9 8 (min 3 c))
  f true s.power.kept.ceilApp (f false s.power.kept.ceilNpu s)

/-- The pages show the retirement latches (R956, R957). -/
def loadRetired (s : State) : State :=
  let c := s.check
  let s1 := (List.range 16).foldl (fun t n => if c.retCore.getLsbD n then t.setB (.nc n) offStatus 4 true else t) s
  let s2 := (List.range 4).foldl (fun t k =>
    if c.retCl.getLsbD k then (t.setB (.csq k) offStatus 4 true).setB .err (0xA8 + 4 * k) 8 true else t) s1
  let s3 := (List.range 32).foldl (fun t x => if c.retCh.getLsbD x then t.setXcStat x 6 true else t) s2
  let s4 := (List.range 8).foldl (fun t g =>
    if (List.range 4).all (fun j => c.retCh.getLsbD (4 * g + j)) then t.setB (.xch g) offStatus 4 true else t) s3
  if c.retDisp then (s4.setB .disp offStatus 4 true).setB .err 0xA4 8 true else s4

/-- Checking hardware after the main domain went down: the latches of R957 stay. -/
def checkDown (c : CheckSt) : CheckSt :=
  { CheckSt.init with retCore := c.retCore, retCl := c.retCl, retCh := c.retCh, retDisp := c.retDisp, retPfu := c.retPfu }

/-- What the main domain holds outside registers, DRAM, firmware, serving and pins is lost. -/
def blocksDown (s : State) : State :=
  { s with
    jobs := s.jobs.filter (fun p => decide (0xA0 ≤ p.1) && decide (p.1 ≤ 0xA2))
    held := s.held.filter (fun h => isAoReg h.write.addr), keys := s.keys.filter (fun p => decide (0xA0 ≤ p) && decide (p ≤ 0xA2))
    latches := [], port := PortSt.init, ora := OraSt.init, chans := [], rings := [], check := checkDown s.check, cores := []
    seqs := [], coll := [], pfg := [], cams := [], params := [], vdec := [], vdecLast := 3, venc := VencSt.init, jpeg := none
    spl := [], splJob := none, splLast := 15, app := AppSt.init }

/-- Supplies after the main domain went down: both points 0 (R172). -/
def powerDown (p : PowerSt) (st : PState) : PowerSt :=
  { p with pstate := st, opNpu := none, opApp := none, vselNpu := 0, vselApp := 0, goDt := none, past := false, tmax := [] }

/-- Registers of the main domain at their reset values. -/
def regsDown (s : State) : State := { s with regs := s.regs.filter (fun p => isAoReg p.1) }

/-- What Dispatch keeps across SLEEP: images, the attachment, the heartbeat, and the heads it has read, whose deadlines keep
counting (R38, R563, R693, R698). -/
def dispSleep (s : State) : State :=
  { s with
    disp := { s.disp with
      loops := s.disp.loops.map (fun p => (p.1, { LoopSt.init with head := p.2.head })), ptr := 0, load := none, order := 0 }
    images := s.images.map (fun i => { i with placed := false, resident := false }) }

/-- What FW1 forgets across SLEEP: FW_SEL, the identity of the management network, the update (R940). -/
def fwSleep (s : State) : State :=
  onFw (fun f => { f with sel := [], report := none, snDt := 0, sensors := [], tid := 0, events := none, upd := UpdSt.init }) s

/-! ### Sleep entry (R185-R191) -/

/-- The first rule that refuses GO (R186). -/
def goRefusal (s : State) : Option Nat :=
  if (List.range 4).any (fun k => s.csqPhase k == 1 || s.csqPhase k == 2) then some 0x0220
  else if s.getN .xfe 0x44 ≠ 0 then some 0x0221
  else if s.power.opNpu.isSome ∨ s.power.opApp.isSome then some 0x0223
  else if s.power.goDt.isSome then some 0x0222
  else none

/-- A write of PWR_SLEEP_CTRL. -/
def goStore (v : Word) (s : State) : State :=
  if bit v 0 = false then s
  else
    match goRefusal s with
    | some c => s.reject .pwr 0x54 c
    | none => onPower (fun p => { p with goDt := some s.dt, past := false, wakePend := none, lostSlp := 0 }) (s.setF .pwr 0x58 2 0 1)

/-- The entry aborts (R189, R190); a point change that the entry held back starts. -/
def sleepAbort (result : Nat) (s : State) : State :=
  let s1 := onKept (fun k => { k with result := result }) (s.setF .pwr 0x58 2 0 0)
  let s2 := onPower (fun p => { p with goDt := none, wakePend := none }) s1
  opStart true (opStart false (s2.irq .pwr 12))

/-- The entry is in phase DRAIN. -/
def State.draining (s : State) : Bool := s.power.pstate == .run && s.power.goDt.isSome && !s.power.past

/-- SLEEP_DRAIN_DONE: both directions are drained (R863), and no wake event came first. -/
def drainDoneAt (s : State) : State :=
  if s.draining ∧ s.mqOcc = 0 ∧ s.power.wakePend = none then
    onPower (fun p => { p with past := true }) (s.setF .pwr 0x58 2 0 2)
  else s

/-- 50 µs in DT units (R145). -/
def drainLimit : Nat := 1639

/-- DRAIN_TIMEOUT (R190). -/
def drainTimeoutAt (s : State) : State :=
  if s.draining ∧ s.power.goDt.getD 0 + drainLimit ≤ s.dt then (sleepAbort 4 s).raise .pwr 0x0224 0 clsTransient [] else s

/-- WAKE_EVENT: the wake line is asserted for a source that is enabled (R189, R191, R193). -/
def wakeEventAt (s : State) : State :=
  match s.power.wakePend with
  | none => s
  | some d =>
    let s1 := onKept (fun k => { k with wakeDt := d }) s
    if s.draining then sleepAbort 3 s1
    else if s.power.pstate = .sleep ∨ (s.power.pstate = .run ∧ s.power.past = true) then s1
    else s

/-- Step 3 of the entry: queued requests complete, a last all-bank refresh in either mode, the retention record (R233,
R237); self-refresh keeps the array from here on (R239, R255). -/
def ddrSleep (s : State) : State :=
  let s1 := if s.ddrUp then refreshChan true 1 (refreshChan true 0 (ddrcStop s)) else lapse s
  onDdr (fun d => { d with offDt := none }) (if s.present .ddrphy then retainNow s1 else s1)

/-- The registers and pins as the wake will find them (R197, R1011-R1013). -/
def sleepRegs (s : State) : State := loadRetired (loadCeil (pinWake s (carryRegs s (blocksDown (regsDown s)))))

/-- The running entry is past its drain (R188). -/
def State.sleepDue (s : State) : Bool := s.power.pstate == .run && s.power.goDt.isSome && s.power.past

/-- The SoC clock stops in SLEEP (R134): S holds to the next tick, so that until then DT may be no multiple of 1,000
(R138; log entry 93). -/
def sleepTime (s : State) : TimeSt := if s.sleepDue then s.time.stop else s.time

/-- SLEEP_REACHED (R188 steps 3 to 5, R191). -/
def sleepReachedAt (s : State) : State :=
  if s.sleepDue then
    let s1 := latchPads (ddrSleep s)
    let s2 := fwSleep (dispSleep (sleepRegs s1))
    let s3 := { s2 with mem := sleepMem s2.mem }
    let zero := s.power.wakePend.isSome
    let s4 := onKept (fun k => { k with result := if zero then 2 else 1, count := (k.count + 1) % 65536 }) s3
    onPower (fun p => { powerDown p .sleep with pmicSlp := !zero }) s4
  else s

/-! ### Wake (R193-R197, R893, R894) -/

/-- DRAM leaves self-refresh with its pages restored, or stays in it after a bad record (R234, R235): true when DRAM
runs. A record without a training of its DDR_CFG leaves DRAM as it is (R232, log entry 97). -/
def ddrWake (recordBad : Bool) (s : State) : State × Bool :=
  match s.ddr.retain with
  | none => (s, false)
  | some r =>
    if !s.present .ddrc then (s, false)
    else if !r.usable then (s, false)
    else if recordBad ∨ r.ok = false then
      let s1 := onDdr (fun d => { d with retain := none }) ((s.setB .ddrc 0x48 3 true).setB .ddrc 0x48 1 true)
      (s1.raise .ddrphy 0x3027 0 clsTransient [], false)
    else
      let s1 := r.regs.foldl (fun t p => t.setReg p.1 p.2) s
      let s2 := (s1.setB .ddrc offStatus 0 true).setB .ddrphy offStatus 0 true
      let s3 := ((clkRequest 34 (clkRequest 33 s2)).setB .clk 0x40 3 true).setB .ddrphy 0x48 1 true
      let s4 := setClkOn 34 true (setClkOn 33 true s3)
      (onDdr (fun d => { freshDdr s d with trained := r.trained, tracked := r.tracked, trkA := 0, trkB := 0 }) s4, true)

/-- The components whose kept copies the fast path checks and copies (R893). -/
def State.resumeComps (s : State) : List Nat :=
  5 :: (1 :: [2, 3].filter (fun c => let st := (s.comp c).state; st == 1 || st == 2 || st == 3))

/-- The Boot ROM leaves its fast path: the components that only a resume copies have to be loaded anew. -/
def leaveFast (readFail : Bool) (s : State) : State :=
  let s1 := [2, 3, 5].foldl (fun t c => t.updComp c (fun x => { x with state := 0, started := none, kicks := [] })) s
  runFw0 readFail (onPower (fun p => { p with slowWake := true }) (s1.setF .fw offOwner 3 0 domMgmt))

/-- The resume path of R893 and R894; a copy that fails its CRC sends FW0 to the flash. -/
def resumeFw (readFail : Bool) (s : State) : State :=
  let s1 := s.setF .fw offOwner 3 0 domMgmt
  if s1.resumeComps.all s1.keptOk then s1.resumeComps.foldl (fun t c => loadCode (t.kept c) t) s1
  else leaveFast readFail (fwRecord 0x0835 clsTransient s1)

/-- A wake may start: an event is held, and the minimum RUN set is good (R194, R195, R201). -/
def State.wakeDue (s : State) : Bool :=
  s.power.wakePend.isSome && s.power.pstate == .sleep && s.rail 2 && s.rail 3 && !s.power.thermOff

/-- PLL_SOC locks during the wake sequence (R135, R194). -/
def wakeTime (s : State) : TimeSt := if s.wakeDue then s.time.restart else s.time

/-- WAKE_SEQUENCE_START (R194 steps 1 to 5, R195). -/
def wakeStartAt (recordBad readFail : Bool) (s : State) : State :=
  match s.power.wakePend with
  | none => s
  | some d =>
    if !s.wakeDue then s
    else
      let s1 := onPower (fun p => { p with
        pstate := .waking, pmicSlp := false, wakePend := none, wakeSeq := some s.dt, slowWake := false,
        kept := { p.kept with wakeDt := d } }) s
      let s2 := s1.setN .pwr 0x44 s.power.lostSlp.toNat
      let r := ddrWake recordBad s2
      if r.2 then resumeFw readFail r.1
      else if s2.present .ddrc = true ∧ ((s2.ddr.retain.map RetRec.usable).getD false) = true then
        leaveFast readFail r.1
      else resumeFw readFail r.1

/-- Registers of a ring that FW1 saves and restores (R185, R915). -/
def ringSaved : List Nat := [0x00, 0x04, 0x08, 0x0C, 0x10, 0x1C, 0x20, 0x24, 0x28, 0x30]

/-- Every enabled ring's configuration and pointers (R915). -/
def saveRings (s : State) : List (Nat × Word) :=
  (List.range 128).flatMap (fun q =>
    if s.rgOn q then ringSaved.map (fun r => ((rgBlk q).at (rgOff q r), s.rg q r)) else [])

/-- FW1 restores the rings, with their pages and clock on (R915, R417). -/
def restoreRings (s : State) : State :=
  let s1 := s.fw.saved.foldl (fun t p => t.setReg p.1 p.2) s
  let s2 := (List.range 128).foldl (fun t q =>
    if bit (t.rg q 0x10) 0 then
      (t.setRg q 0x14 (setBit (t.rg q 0x14) 0 true)).setB (rgBlk q) offStatus 0 true
    else t) s1
  onFw (fun f => { f with saved := [] }) (if s.fw.saved.isEmpty then s2 else clkRequest 32 s2)

/-- The loader checks kept images after a wake (R563). -/
def wakeImages (s : State) : State :=
  s.images.foldl (fun t i =>
    if copyOk i t then bindChans i true t
    else (putReport (loadReport 0x220C none 0) (unloadImage i.model t)).irq .disp 8) s

/-- Dispatch goes on with the attachment it had (R693); ATTACHED is 1 in ATTACHED alone (R113). -/
def dispWake (s : State) : State :=
  let s1 := (s.setF .disp 0x40 1 0 s.disp.attach).setB .sys 0x44 8 (s.disp.attach == 1)
  { s1 with disp := { s1.disp with hbDt := s.dt } }

/-- Every running component's timer starts anew. -/
def wakeKicks (s : State) : State :=
  { s with fw := { s.fw with comps := s.fw.comps.map (fun p =>
      (p.1, { p.2 with kicks := if p.2.state = 2 then freshKicks p.1 s.dt else []
                       started := p.2.started.map (fun _ => s.dt) })) } }

/-- FW1 resumes (R893, R897, R911, R915, R922). -/
def resumeRun (s : State) : State :=
  let s1 := restoreRings (mgmtRings (programFirewall (wakeKicks (s.setN .fw 0x48 s.policy))))
  promote 5 (dispWake (wakeImages s1))

/-- After a boot from flash nothing is resumed: Dispatch starts DETACHED, the request that asked for SLEEP is forgotten. -/
def slowRun (s : State) : State := leaveHost 0 (onFw (fun f => { f with saved := [], sleep := none }) s)

/-- RUN_READY (R194 step 6). -/
def runReadyAt (s : State) : State :=
  if s.power.pstate ≠ .waking ∨ (s.power.slowWake = true ∧ s.fwRuns 1 = false) then s
  else
    let s1 := onPower (fun p => { p with
      pstate := .run, wakeSeq := none, slowWake := false, govDt := s.dt, kept := { p.kept with readyDt := s.dt } }) s
    let s2 := if s.power.slowWake then slowRun s1 else resumeRun s1
    pinRun (appWake (linkRunReady s2))

/-! ### Resets (R9, R167-R169, R877) -/

/-- Firmware after a reset: the flash stays, and what is counted since power-on. -/
def fwReset (f : FwSt) : FwSt := { FwSt.init with flash := f.flash, flashLog := f.flashLog, counts := f.counts }

/-- The main-bank pins after a reset that leaves the AO bank alone (R990). -/
def pinsDown (p : PinSt) : PinSt :=
  { PinSt.init with
    level := p.level, locked := p.locked &&& 0xFF0000000000#48
    pwm := p.pwm.filter (fun e => decide (4 ≤ e.1)), held := p.held.filter (fun e => decide (40 ≤ e.1)) }

/-- The AO-bank fields of the pin pages are carried over. -/
def carryAo (old : State) (s : State) : State :=
  (List.range 8).foldl (fun t i => carry old (pinFields (40 + i) ++ pinIrqField (40 + i)) t) s

/-- The main domain is reset as a system reset does it, and stays held; the Gatehouse goes on (R167, R201). -/
def mainDown (s : State) : State :=
  let s1 := carryAo s (blocksDown (regsDown s))
  let s2 := { s1 with
    belvSec := true, fw := fwReset s.fw, disp := DispSt.init, images := [], ddr := DdrSt.init
    pins := pinsDown s.pins, mem := s1.mem.filter (fun p => inWindow p.1 1 gtSram gtSramSize) }
  onPower (fun p => { powerDown p .held with wakePend := none, wakeSeq := none, slowWake := false, pmicSlp := false }) s2

/-- The Gatehouse is reset; of its SRAM the retention area stays (R168, R877). -/
def gateDown (s : State) : State :=
  let s1 := { s with
    regs := [], gate := GateSt.init, jobs := [], held := [], keys := [], check := CheckSt.init, pins := { PinSt.init with level := s.pins.level } }
  (s1.undef gtSram 0x60000).undef (gtSram + 0x61000) 0x1F000

/-- The reset is held, and the minimum RUN set is good (R166, R201). -/
def State.mayRelease (s : State) : Bool :=
  s.power.pstate == .held && s.rail 0 && s.rail 2 && s.rail 3 && !s.power.thermOff

/-- The main-domain reset is released: straps are sampled (R86, R1074), HOST_SEL as low where VDD_IO is absent (log entry
94), the record is loaded (R204), FW0 runs. -/
def mainRelease (boot : Boot) (s : State) : State :=
  if s.mayRelease then
    let s1 := { s with hostSel := boot.hostSel && s.rail 10, regs := s.regs.filter (fun p => isAoReg p.1) }
    let s2 := carryAo s (onPower (fun p => { p with pstate := .run, govDt := s.dt }) s1)
    runFw0 boot.readFail (loadRetired (loadCeil s2))
  else s

/-- New flash contents (R882). -/
def putFlash (boot : Boot) (s : State) : State :=
  match boot.flash with
  | some l => onFw (fun f => { f with flash := l.foldl (fun m p => m.put p.1 p.2) [] }) s
  | none => s

/-- PLL_SOC has locked when the reset is released (R135, R169). -/
def releaseTime (s : State) : TimeSt := if s.mayRelease then s.time.restart else s.time

/-- MAIN_RESET_RELEASE (R169 step 6). -/
def mainReleaseAt (boot : Boot) (s : State) : State :=
  if s.mayRelease then mainRelease boot (putFlash boot s) else s

/-- The SoC clock runs: device time goes on through a system reset. -/
def State.socRuns (s : State) : Bool := s.power.pstate == .run || s.power.pstate == .waking

/-- A system reset from elsewhere locks PLL_SOC anew once the minimum RUN set is good, and holds S till then (R134,
R135). -/
def resetTime (s : State) : TimeSt :=
  if !s.aoUp ∨ s.socRuns = true then s.time
  else if s.rail 2 ∧ s.rail 3 then s.time.stop.restart
  else s.time.stop

/-- SYSTEM_RESET (R168). The SOC clock runs on. -/
def systemResetAt (boot : Boot) (s : State) : State :=
  if !s.aoUp then s
  else
    mainRelease boot (onPower (fun p => { p with thermOff := false }) (gateDown (mainDown s)))

/-- PWR_SYSRST (R168). -/
def sysrstStore (boot : Boot) (v : Word) (s : State) : State := if v = 0x5AFE#32 then systemResetAt boot s else s

/-- VDD_AO is lost: nothing but the flash, the supplies and the levels that others drive outlasts it (R167). -/
def powerOff (s : State) : State :=
  { State.reset with
    part := s.part, hostSel := s.hostSel, time := s.time, seq := s.seq, pending := s.pending
    fw := { FwSt.init with flash := s.fw.flash, flashLog := s.fw.flashLog }
    power := { PowerSt.init with rails := s.power.rails, pstate := .off }
    pins := { PinSt.init with level := s.pins.level }, tap := s.tap }

/-- VDD_AO_GOOD (R169 step 1). -/
def vddAoGoodAt (s : State) : State :=
  if s.power.pstate = .off then onPower (fun p => { p with rails := p.rails ||| 1#11, pstate := .aoHeld }) s else s

/-- Device time starts at 0 (R136). -/
def porTime (s : State) : TimeSt := if s.power.pstate = .aoHeld then TimeSt.init.stop else s.time

/-- AO_POR_RELEASE (R169 step 2). -/
def aoPorAt (s : State) : State :=
  if s.power.pstate = .aoHeld then onPower (fun p => { p with pstate := .held }) s else s

/-- A sensor reads 120 °C or above (R201). -/
def State.tooHot (s : State) (n : Nat) : Bool :=
  s.present .pwr && (match s.temp n with
    | some t => decide (960 ≤ t)
    | none => false)

/-- The main domain loses its clock. -/
def shutdownTime (n : Nat) (s : State) : TimeSt := if s.tooHot n then s.time.stop else s.time

/-- THERMAL_SHUTDOWN (R201): the Gatehouse records it (R872). -/
def shutdownAt (n : Nat) (s : State) : State :=
  if s.tooHot n then
    gateRec .gate 0x6036 clsPermanent false
      (onPower (fun p => { p with thermOff := true, kept := { p.kept with shutdown := true } }) (mainDown s))
  else s

/-! ### Rails (R162-R167, R256, R503, R752) -/

/-- A rail as one bit. -/
def railBit (r : Nat) : BitVec 11 := BitVec.ofNat 11 (2 ^ r)

/-- The pages that a rail feeds. -/
def railBlks (r : Nat) : List Blk := allBlks.filter (fun b => b.rails.contains r)

/-- A page is reset with its block's rail; its counts of rejections and collisions stay (R111). -/
def pageDown (b : Blk) (s : State) : State :=
  carry s [(b.at offErrcnt, 0xFFFFFFFF#32), (b.at offCollcnt, 0xFFFFFFFF#32)]
    { s.clearPage b with
      jobs := s.jobs.del b.pg, held := s.held.filter (fun h => h.page != b.pg), keys := s.keys.filter (fun p => p != b.pg) }

/-- Every core is reset: running commands are killed with cause 12 (R503, R616, R646). -/
def coresDown (s : State) : State :=
  let s1 := (List.range 4).foldl (fun t k => killCommand k 12 (Config.railLostCode % 65536) t) s
  let s2 := (List.range 16).foldl (fun t n => t.undef (tileBase n) tileSize) s1
  { s2 with cores := [], images := s2.images.map (fun i => { i with placed := false }) }

/-- The application cluster is reset; APPC_WAKE lives in retention (R1043). -/
def clusterDown (s : State) : State := abandon (fun k => decide (0x40 ≤ k) && decide (k ≤ 0x43)) { s with app := AppSt.init }

/-- What the loss of a rail does to the blocks it feeds, besides their pages. -/
def railBlocks (r : Nat) (s : State) : State :=
  if r = 4 then coresDown s
  else if r = 5 then clusterDown s
  else if r = 6 ∨ r = 7 ∨ r = 8 then dramLost s
  else if r = 9 then camRailLost (dramLost s)
  else if r = 10 then dropHeld 10 (abandon (fun k => k == 0x60) { camRailLost s with port := PortSt.init })
  else dropHeld r s

/-- The loss of VDD_SOC or VDD_SRAM takes the SoC clock with it. -/
def railTime (r : Nat) (s : State) : TimeSt :=
  if s.rail r = true ∧ (r = 2 ∨ r = 3) ∧ s.socRuns = true then s.time.stop else s.time

/-- RAIL_LOST (R164, R167, R215): past the point of no return no loss but that of VDD_AO stops the entry. -/
def railLostAt (r : Nat) (s : State) : State :=
  if !s.rail r then s
  else
    let s0 := onPower (fun p => { p with rails := p.rails &&& ~~~railBit r }) s
    if r = 0 then powerOff s0
    else if s.socRuns then
      if r = 2 ∨ r = 3 then
        if s.sleepDue then onPower (fun p => { p with lostSlp := p.lostSlp ||| railBit r }) s0 else mainDown s0
      else
        let s1 := (railBlks r).foldl (fun t b => pageDown b t) (railBlocks r s0)
        let s2 := loadRetired (carry s ([0x80, 0x84].map (fun o => (Blk.at .appc o, 0xFFFFFFFF#32))) s1)
        let s3 := onPower (fun p => { p with lostSlp := if s.sleepDue then p.lostSlp ||| railBit r else p.lostSlp }) s2
        ((s3.setB .pwr 0x44 r true).irq .pwr 8).raise .pwr (Config.railLostCode % 65536) 0 clsPermanent []
    else if 6 ≤ r ∧ r ≤ 9 then dramLost s0
    else dropHeld r s0

/-- A page whose block is powered anew reads ENABLED 0 (R163). -/
def pageUp (old s : State) (b : Blk) : State :=
  if s.present b && !old.present b && b.enabled0 then s.setB b offStatus 0 false else s

/-- RAIL_GOOD: the blocks whose last missing rail it was are powered (R163, R196). -/
def railGoodAt (r : Nat) (s : State) : State :=
  if r = 0 then vddAoGoodAt s
  else if s.rail r then s
  else
    let s1 := railPads r (onPower (fun p => { p with rails := p.rails ||| railBit r }) s)
    let s2 := if r = 10 then { s1 with tap := TapSt.init } else s1
    let up := (railBlks r).any (fun b => s2.present b)
    (railBlks r).foldl (pageUp s) (if up then s2.irq .pwr 9 else s2)

/-! ### The PWR page -/

/-- PWR_SETTLE has a range (R206). -/
def settleBad (v : Word) : Bool :=
  let bad := fun (n : Nat) => decide (n < 33) || decide (3277 < n)
  bad (fld v 11 0) || bad (fld v 27 16)

/-- A write to a register of the PWR page that passed judgement; a system reset by way of the generic row meets an
unchanged board. -/
def pwrStore (off : Nat) (v mask : Word) (s : State) : State :=
  if off = 0x48 ∨ off = 0x4C then opStore (off == 0x4C) v mask s
  else if off = 0x50 then if settleBad v then s.rejectD .pwr off 0x01 else plainStore .pwr off v mask s
  else if off = 0x54 then goStore v s
  else if off = 0x6C then tripClearStore v s
  else if off = 0x70 then sysrstStore { hostSel := s.hostSel, flash := none, readFail := false } v s
  else plainStore .pwr off v mask s

/-- What a read of the PWR page shows (R204). -/
def pwrView (off : Nat) (s : State) : Word :=
  let k := s.power.kept
  if off = 0x40 then s.power.rails.setWidth 32
  else if off = 0x58 then wd (s.phase + k.result * 0x100 + k.count * 0x10000)
  else if off = 0x5C then wd k.wakeDt
  else if off = 0x60 then wd (k.wakeDt >>> 32)
  else if off = 0x64 then wd k.readyDt
  else if off = 0x68 then wd (k.readyDt >>> 32)
  else if off = 0x6C then setBit (s.get .pwr off) 16 k.shutdown
  else s.get .pwr off

end Sys2Proof.Machine
end

