-- ==== Sys2Proof/Machine/Mgmt.lean ====
section
/-! DEFINITION. The management rings and the sensors (19): requests that FW1 answers, SLEEP, SENS publications. -/

namespace Sys2Proof.Machine

/-! ### Sensors (R881, R919) -/

/-- A monitored sensor outside its registers; ID is 1 to 12 for a temperature. -/
def State.sensor (s : State) (id : Nat) : SensorSt :=
  (s.fw.sensors.get? id).getD { off := false, event := true, level := 0, prev := 0 }

/-- The threshold level of a temperature in 1/8 degree (R919): 1 warning, 2 critical, 3 fatal. -/
def tempLevel (t : Int) : Nat := if 960 ≤ t then 3 else if 880 ≤ t then 2 else if 760 ≤ t then 1 else 0

/-- A numeric sensor's state code: 1 normal, 8 upper warning, 9 upper critical, 10 upper fatal (log entry 40). -/
def levelCode (l : Nat) : Nat := if l = 0 then 1 else 7 + l

/-- A crossing of a threshold is sent to the event receiver (R919). -/
def crossing (n : Nat) (s : State) : State :=
  match s.temp n with
  | none => s
  | some t =>
    let x := s.sensor (n + 1)
    let l := tempLevel t
    if x.off ∨ l = x.level then s
    else
      let s1 := onFw (fun f => { f with sensors := f.sensors.put (n + 1) { x with level := l, prev := x.level } }) s
      match s.fw.events with
      | none => s1
      | some d =>
        if x.event ∧ s.fwRuns 1 = true then
          sendMsg d 0x020A (leBytes (n + 1) 2 ++ leBytes (levelCode l) 1 ++ leBytes (levelCode x.level) 1 ++
            leBytes (s.getF .sens (0x40 + 4 * n) 15 0) 2) s1
        else s1

/-- The highest reading and its sensor: the lowest-numbered of the highest. -/
def hottest (ts : List Int) : Int × Nat :=
  ((ts.zip (List.range 12)).foldl (fun a p => match a with
    | none => some p
    | some b => if b.1 < p.1 then some p else a) none).getD (0, 0)

/-- SENSOR_SAMPLE: SENS publishes every sensor and monitor in one cycle (R881, R933). -/
def sensorSampleAt (temps : List Int) (mvs : List Nat) (s : State) : State :=
  if !s.present .sens then s
  else
    let t := fun (i : Nat) => temps.getD i 0
    let s1 := (List.range 12).foldl (fun u i => u.setN .sens (0x40 + 4 * i) (0x80000000 + unsigned 16 (t i))) s
    let s2 := (List.range 10).foldl (fun u i => u.setN .sens (0x80 + 4 * i) (0x80000000 + mvs.getD i 0 % 65536)) s1
    let h := hottest ((List.range 12).map t)
    let s3 := (s2.setN .sens 0xA8 (unsigned 16 h.1 + h.2 * 0x1000000)).setN .sens 0xAC s.dt
    (List.range 12).foldl (fun u i => crossing i u) (onFw (fun f => { f with snDt := s.dt }) s3)

/-! ### Requests (R912-R914) -/

/-- The request ring of a pair. -/
def reqRing (p : Nat) : Nat := 112 + 2 * p

/-- The request at the head of a pair's ring, when FW1 can take one: the response ring has room (R913). -/
def mgmtHead (s : State) (p : Nat) : Option (List Byte) :=
  let q := reqRing p
  if s.fwRuns 1 && s.rgOn q && decide (s.rgOcc q ≠ 0) && s.rgOn (q + 1) && !s.rgFull (q + 1) then some (s.rgFront q) else none

/-- A request entry that is no request: its check byte or its FMT is wrong (R912, R913). -/
def reqBad (e : List Byte) : Bool := !checkOk e || eByte e 0 != 0xD

/-- A list cut or padded with zeros to `n` bytes. -/
def pad (n : Nat) (bs : List Byte) : List Byte := (bs ++ List.replicate n 0#8).take n

/-- A response entry (R912). -/
def response (cmd status tag : Nat) (info data : List Byte) : List Byte :=
  withCheck (leBytes 0xE 1 ++ leBytes cmd 1 ++ leBytes status 1 ++ [0] ++ leBytes tag 4 ++ pad 7 info ++ pad 48 data)

/-- The answer to the request at the head: the response is published and the head moves in the same cycle (R913). -/
def mgmtAnswer (p status : Nat) (info data : List Byte) (e : List Byte) (s : State) : State :=
  let tag := if checkOk e then eNum e 4 4 else 0xFFFFFFFF
  freeHead .belvedere (reqRing p) (ringPutSw .belvedere (reqRing p + 1) (response (eByte e 1) status tag info data) s)

/-- A bad entry is reported when its check byte fails, and answered BAD_ENTRY (R391, R913). -/
def mgmtBad (p : Nat) (e : List Byte) (s : State) : State :=
  let q := reqRing p
  mgmtAnswer p 1 [] [] e (if checkOk e then s else badReport q (wd (s.rgHead q)) s)

/-- FW1 takes the next request of a pair, if it is one that `want` selects. -/
def mgmtServe (p : Nat) (want : Nat → Bool) (f : List Byte → State → State) (s : State) : State :=
  match mgmtHead s p with
  | none => s
  | some e => if reqBad e then mgmtBad p e s else if want (eByte e 1) then f e s else s

/-- The directory has a STAGED entry for a component. -/
def State.hasStaged (s : State) (c : Nat) : Bool := (s.entryIn c 2).isSome

/-- A component's flags: UNTESTED and STAGED (R914). -/
def compFlags (s : State) (c : Nat) : Nat := (s.comp c).untested.toNat + 2 * (s.hasStaged c).toNat

/-- The eight bytes of GET_FW for a component (R914). -/
def fwRow (s : State) (c : Nat) : List Byte :=
  let x := s.comp c
  [byteOf x.version 3, byteOf x.version 2] ++ leBytes x.version 2 ++
    [byteOf x.state 0, byteOf x.iface 1, byteOf x.iface 0, byteOf (compFlags s c) 0]

/-- GET_FW. -/
def getFwAt (p : Nat) (s : State) : State :=
  mgmtServe p (· == 1) (fun e t => mgmtAnswer p 0 (leBytes (t.getN .fw 0x48) 1) ((List.range 6).flatMap (fwRow t)) e t) s

/-- The digest of a running component other than FW0 (R910). -/
def State.digestOf (s : State) (c : Nat) : Option (List Byte) :=
  if 1 ≤ c ∧ c ≤ 5 ∧ (s.comp c).state = 2 then some (s.comp c).digest else none

/-- GET_DIGEST. -/
def getDigestAt (p : Nat) (s : State) : State :=
  mgmtServe p (· == 2) (fun e t => match t.digestOf (eByte e 8) with
    | some d => mgmtAnswer p 0 [] d e t
    | none => mgmtAnswer p 5 [] [] e t) s

/-- GET_SENSORS; the estimated power is open (log entry 5). -/
def getSensorsAt (p : Nat) (s : State) : State :=
  mgmtServe p (· == 3) (fun e t =>
    let ts := (List.range 12).flatMap (fun i => leBytes (t.getF .sens (0x40 + 4 * i) 15 0) 2)
    let vs := (List.range 10).flatMap (fun i => leBytes (t.getF .sens (0x80 + 4 * i) 15 0) 2)
    mgmtAnswer p 0 (leBytes t.fw.snDt 7) (ts ++ vs ++ leBytes (Config.freeNat t.seq 1) 2) e t) s

/-- A record of the RAM log is still there (R928). -/
def State.logHas (s : State) (i : Nat) : Bool :=
  let age := (s.logNext + 2 ^ 32 - i % 2 ^ 32) % 2 ^ 32
  decide (1 ≤ age) && decide (age ≤ 4096) && decide (age ≤ s.logNext)

/-- GET_LOG. -/
def getLogAt (p : Nat) (s : State) : State :=
  mgmtServe p (· == 4) (fun e t =>
    let i := eNum e 8 4
    if t.logHas i then mgmtAnswer p 0 (leBytes (i + 1) 4) (t.logRec i) e t else mgmtAnswer p 6 [] [] e t) s

/-- UNKNOWN_CMD; pair 2 may not ask for SLEEP (R914, R915). -/
def unknownCmdAt (p : Nat) (s : State) : State :=
  mgmtServe p (fun c => c == 0 || decide (6 ≤ c) || (c == 5 && p == 2)) (fun e t => mgmtAnswer p 2 [] [] e t) s

/-! ### SLEEP (R915, R938) -/

/-- Blocks that must be disabled, as INFO bits in ascending type ID: CSI, VDEC, VENC, JPEG, SPL. -/
def blocksOn (s : State) : Nat :=
  let csi := (List.range 4).any (fun p => (List.range 4).any (fun c => s.cxOn p c))
  let vdec := (List.range 4).any s.vsOn
  let spl := (List.range 16).any s.spOn
  csi.toNat + 2 * vdec.toNat + 4 * (s.enabled .venc).toNat + 8 * (s.enabled .jpeg).toNat + 16 * spl.toNat

/-- DISP_STAT.MODE reads QUIESCED, and every channel is idle. -/
def State.quiet (s : State) : Bool := s.getF .disp 0x40 1 0 == 3 && s.getN .xfe 0x44 == 0

/-- A ring lies in on-chip SRAM, which SLEEP loses (R34, R417). -/
def State.rgOnChip (s : State) (q : Nat) : Bool := s.rgOn q && decide (s.rgBase q < dramBase)

/-- No ring in on-chip SRAM holds an unconsumed entry (R417). -/
def State.chipRingsEmpty (s : State) : Bool := (List.range 128).all (fun q => !s.rgOnChip q || s.rgOcc q == 0)

/-- FW1 takes every Gatehouse message through the window (R862, R863). -/
def drainWindow (s : State) : State :=
  (List.range s.mqOcc).foldl (fun t _ => (takeMessage t.mqFront t).setF .gate 0x70 12 0 ((t.mqHead + 1) % 8192)) s

/-- FW1 pops and logs every record of the queue (R986). -/
def drainErrors (s : State) : State := (List.range s.check.queue.length).foldl (fun t _ => popAt .belvedere 1 t) s

/-- Answer the SLEEP request at the head of its pair's ring. -/
def sleepAnswer (p status : Nat) (info data : List Byte) (s : State) : State :=
  let s1 := onFw (fun f => { f with sleep := none }) s
  match mgmtHead s1 p with
  | some e => mgmtAnswer p status info data e s1
  | none => s1

/-- FW1 writes GO; a refusal is answered with STATUS 3 and the reason. -/
def sleepGo (r : SleepReq) (s : State) : State :=
  let s1 := drainErrors (if s.linkState = 0 then s else drainWindow s)
  match goRefusal s1 with
  | some c => sleepAnswer r.pair 3 ([0] ++ leBytes c 2) [] (clearQuiesce (goStore 1 s1))
  | none =>
    goStore 1 (onFw (fun f => { f with saved := saveRings s1, sleep := some { r with gone := true } }) s1)

/-- The request after the entry ended: aborted in RUN, or slept and awake again. -/
def sleepEnd (r : SleepReq) (s : State) : State :=
  let k := s.power.kept
  let aborted := k.result == 3 || k.result == 4
  let s1 := if aborted then onFw (fun f => { f with saved := [] }) (clearQuiesce s) else s
  sleepAnswer r.pair 0 (leBytes k.result 1)
    (leBytes k.wakeDt 8 ++ leBytes k.readyDt 8 ++ leBytes (s.getF .gate 0x64 5 0) 1) s1

/-- FW1 goes on with the pending SLEEP. It also waits until no ring in on-chip SRAM holds an entry (R417, log entry 102). -/
def sleepGoOn (r : SleepReq) (s : State) : State :=
  if r.gone then if s.power.goDt.isNone ∧ s.power.pstate = .run then sleepEnd r s else s
  else if s.quiet && s.chipRingsEmpty then sleepGo r s
  else if r.limit ≤ s.dt then sleepAnswer r.pair 7 [] [] (clearQuiesce s)
  else s

/-- A new SLEEP request. -/
def sleepStart (p : Nat) (e : List Byte) (s : State) : State :=
  if s.fw.sleep.isSome ∨ s.getF .belv 0x48 2 0 ≠ 0 then mgmtAnswer p 3 [] [] e s
  else if blocksOn s ≠ 0 then mgmtAnswer p 4 (leBytes (blocksOn s) 1) [] e s
  else
    let ms := if eNum e 8 2 = 0 then 1000 else eNum e 8 2
    dispQuiesce 1 (onFw (fun f => { f with sleep := some { pair := p, limit := s.dt + 32768 * ms, gone := false } }) s)

/-- SLEEP: FW1 takes the request of a pair, or goes on with the one it has taken. -/
def sleepAt (p : Nat) (s : State) : State :=
  match s.fw.sleep with
  | some r =>
    if r.pair = p then if s.fwRuns 1 then sleepGoOn r s else s
    else if p = 2 then unknownCmdAt 2 s
    else mgmtServe p (· == 5) (sleepStart p) s
  | none => if p = 2 then unknownCmdAt 2 s else mgmtServe p (· == 5) (sleepStart p) s

end Sys2Proof.Machine
end

