-- ==== Sys2Proof/Machine/Mctp.lean ====
section
/-! DEFINITION. The management network (19): MCTP control, PLDM, firmware update, vendor-defined messages. The spec names
the commands; their data layouts and codes are those of the DMTF documents (log entry 40). -/

namespace Sys2Proof.Machine

/-! ### Who answers (R892, R917) -/

/-- Answer a message: completion code, then data. -/
def mctpReply (code : Nat) (data : List Byte) (s : State) : State := s.answerBytes (leBytes code 1 ++ data)

/-- The management I3C is there, its pads on VDD_IO (R160). -/
def State.mctpUp (s : State) : Bool := s.present .mi3c && s.rail 10

/-- A message reaches the endpoint. FW1 answers it; in ROM recovery only what `rom` allows is answered (R892). -/
def mctpAt (rom : Bool) (f : State → State) (s : State) : State :=
  if !s.mctpUp then s
  else if s.fwRuns 1 then f s
  else if (s.comp 1).state = 7 then if rom then f s else mctpReply 0x05 [] s
  else s

/-- A PLDM message: it counts for the 120 s of R923 when the update's requester sent it. -/
def pldmAt (rom : Bool) (msg : Mctp) (f : State → State) (s : State) : State :=
  mctpAt rom (fun t =>
    f (if t.fw.upd.who = msg.src ∧ t.getF .belv 0x48 2 0 ≠ 0 then
        onFw (fun w => { w with upd := { w.upd with dt := t.dt } }) t else t)) s

/-- Bytes that no rule gives (log entry 5). -/
def openBytes (s : State) (k n : Nat) : List Byte := (List.range n).map (fun i => Config.freeByte s.seq (k + i))

/-! ### Control messages (R917) -/

/-- Set Endpoint ID: operations 0 and 1 set it, and its sender becomes the report destination. -/
def setEidAt (msg : Mctp) : State → State :=
  mctpAt true (fun s =>
    let op := at' msg.body 0 1 % 4
    let eid := at' msg.body 1 1
    if msg.body.length ≠ 2 then mctpReply 0x03 [] s
    else if 1 < op ∨ eid = 0 ∨ eid = 0xFF then mctpReply 0x02 [] s
    else
      let s1 := sendReport ((s.setF .belv 0x44 7 0 eid).setF .belv 0x44 15 8 msg.src)
      mctpReply 0 ([0] ++ leBytes eid 1 ++ [0]) s1)

/-- Get Endpoint ID: a simple endpoint with a dynamic ID. -/
def getEidAt : State → State := mctpAt true (fun s => mctpReply 0 (leBytes (s.getF .belv 0x44 7 0) 1 ++ [0, 0]) s)

/-- Get Endpoint UUID. -/
def getUuidAt : State → State := mctpAt true (mctpReply 0 (leBytes Config.uuid.toNat 16))

/-- Get MCTP Version Support, for the base, control, PLDM and vendor-defined types. -/
def getMctpVersionAt (msg : Mctp) : State → State :=
  mctpAt true (fun s =>
    let ty := at' msg.body 0 1
    if msg.body.length ≠ 1 then mctpReply 0x03 [] s
    else if [0xFF, 0x00, 0x01, 0x7F].contains ty then mctpReply 0 ([1] ++ leBytes (Config.mctpVersion ty).toNat 4) s
    else mctpReply 0x80 [] s)

/-- Get Message Type Support: PLDM and vendor-defined beside control. -/
def getTypesAt : State → State := mctpAt true (mctpReply 0 [2, 0x01, 0x7F])

/-- Get Vendor Defined Message Support: one vendor, by IANA number, most significant byte first (R924). -/
def getVdmSupportAt (msg : Mctp) : State → State :=
  mctpAt true (fun s =>
    if msg.body.length ≠ 1 then mctpReply 0x03 [] s
    else if at' msg.body 0 1 ≠ 0 then mctpReply 0x02 [] s
    else mctpReply 0 ([0xFF, 1] ++ beBytes Config.iana.toNat 4 ++ openBytes s 0 2) s)

/-! ### PLDM base (R918) -/

/-- GetTID. -/
def getTidAt (msg : Mctp) : State → State := pldmAt false msg (fun s => mctpReply 0 (leBytes s.fw.tid 1) s)

/-- SetTID. -/
def setTidAt (msg : Mctp) : State → State :=
  pldmAt false msg (fun s =>
    let t := at' msg.body 0 1
    if msg.body.length ≠ 1 then mctpReply 0x03 [] s
    else if t = 0 ∨ t = 0xFF then mctpReply 0x02 [] s
    else mctpReply 0 [] (onFw (fun f => { f with tid := t }) s))

/-- The PLDM types of R918. -/
def pldmTypes : List Nat := [0, 2, 5]

/-- GetPLDMVersion: one version with its CRC-32. -/
def getPldmVersionAt (msg : Mctp) : State → State :=
  pldmAt false msg (fun s =>
    let ty := at' msg.body 5 1
    let v := leBytes (Config.pldmVersion ty).toNat 4
    if msg.body.length ≠ 6 then mctpReply 0x03 [] s
    else if !pldmTypes.contains ty then mctpReply 0x83 [] s
    else mctpReply 0 (leBytes 0 4 ++ [5] ++ v ++ leBytes (crc32 v).toNat 4) s)

/-- GetPLDMTypes. -/
def getPldmTypesAt (msg : Mctp) : State → State :=
  pldmAt false msg (mctpReply 0 (leBytes (pldmTypes.foldl (fun a k => a + 2 ^ k) 0) 8))

/-- The command codes of a type that the endpoint answers. -/
def pldmCommands (ty : Nat) : List Nat :=
  if ty = 0 then [1, 2, 3, 4, 5]
  else if ty = 2 then [0x04, 0x10, 0x11, 0x50, 0x51]
  else if ty = 5 then [0x01, 0x02, 0x10, 0x13, 0x14, 0x1A, 0x1B, 0x1C, 0x1D]
  else []

/-- GetPLDMCommands. -/
def getPldmCommandsAt (msg : Mctp) : State → State :=
  pldmAt false msg (fun s =>
    let ty := at' msg.body 0 1
    if msg.body.length ≠ 5 then mctpReply 0x03 [] s
    else if !pldmTypes.contains ty then mctpReply 0x83 [] s
    else if at' msg.body 1 4 ≠ (Config.pldmVersion ty).toNat then mctpReply 0x84 [] s
    else mctpReply 0 (leBytes ((pldmCommands ty).foldl (fun a k => a + 2 ^ k) 0) 32) s)

/-! ### PLDM platform monitoring (R919) -/

/-- SetEventReceiver: asynchronous events over MCTP, or none. -/
def setEventReceiverAt (msg : Mctp) : State → State :=
  pldmAt false msg (fun s =>
    let en := at' msg.body 0 1
    if msg.body.length < 3 then mctpReply 0x03 [] s
    else if at' msg.body 1 1 ≠ 0 then mctpReply 0x80 [] s
    else if 1 < en then mctpReply 0x81 [] s
    else mctpReply 0 [] (onFw (fun f => { f with events := if en = 1 then some (at' msg.body 2 1) else none }) s))

/-- A sensor's data size code, bytes and reading; none while SENS has not published it. -/
def sensorValue (s : State) (id : Nat) : Nat × Nat × Option Nat :=
  let pub := fun (o : Nat) => if s.getB .sens o 31 then some (s.getF .sens o 15 0) else none
  if id ≤ 12 then (3, 2, pub (0x40 + 4 * (id - 1)))
  else if id ≤ 22 then (2, 2, pub (0x80 + 4 * (id - 13)))
  else if id = 23 then (2, 2, some (Config.freeNat s.seq 1 % 65536))
  else (4, 4, some (((s.fw.counts.get? (id - 24)).getD 0) % 2 ^ 32))

/-- GetSensorReading. -/
def getSensorReadingAt (msg : Mctp) : State → State :=
  pldmAt false msg (fun s =>
    let id := at' msg.body 0 2
    let x := s.sensor id
    let v := sensorValue s id
    if msg.body.length ≠ 3 then mctpReply 0x03 [] s
    else if id = 0 ∨ 28 < id then mctpReply 0x80 [] s
    else
      let op := if x.off then 1 else if v.2.2.isNone then 2 else 0
      let ev := if 12 < id then 0 else if x.event then 2 else 1
      mctpReply 0 (leBytes v.1 1 ++ leBytes op 1 ++ leBytes ev 1 ++ leBytes (levelCode x.level) 1 ++
        leBytes (levelCode x.prev) 1 ++ leBytes (levelCode x.level) 1 ++ leBytes (v.2.2.getD 0) v.2.1) s)

/-- SetNumericSensorEnable. -/
def setSensorEnableAt (msg : Mctp) : State → State :=
  pldmAt false msg (fun s =>
    let id := at' msg.body 0 2
    let op := at' msg.body 2 1
    let ev := at' msg.body 3 1
    if msg.body.length ≠ 4 then mctpReply 0x03 [] s
    else if id = 0 ∨ 28 < id then mctpReply 0x80 [] s
    else if 1 < op then mctpReply 0x81 [] s
    else if 2 < ev ∨ (ev = 2 ∧ 12 < id) then mctpReply 0x82 [] s
    else
      let x := s.sensor id
      let y := { x with off := op == 1, event := if ev = 0 then x.event else ev == 2 }
      mctpReply 0 [] (onFw (fun f => { f with sensors := f.sensors.put id y }) s))

/-- A numeric sensor PDR: its header, the sensor's ID, and contents that no rule gives. -/
def pdrRecord (s : State) (id : Nat) : List Byte :=
  leBytes id 4 ++ [1, 2] ++ openBytes s 0 2 ++ leBytes 64 2 ++ openBytes s 2 2 ++ leBytes id 2 ++ openBytes s 4 60

/-- GetPDRRepositoryInfo: 28 records (R919). -/
def getPdrInfoAt (msg : Mctp) : State → State :=
  pldmAt false msg (fun s =>
    mctpReply 0 ([0] ++ openBytes s 100 26 ++ leBytes 28 4 ++ leBytes (28 * 74) 4 ++ leBytes 74 4 ++ openBytes s 126 1) s)

/-- GetPDR: the record of a handle, 0 for the first. -/
def getPdrAt (msg : Mctp) : State → State :=
  pldmAt false msg (fun s =>
    let h := if at' msg.body 0 4 = 0 then 1 else at' msg.body 0 4
    if msg.body.length ≠ 13 then mctpReply 0x03 [] s
    else if 28 < h then mctpReply 0x82 [] s
    else mctpReply 0 (leBytes (if h = 28 then 0 else h + 1) 4 ++ leBytes 0 4 ++ [5] ++ leBytes 74 2 ++ pdrRecord s h) s)

/-! ### PLDM firmware update (R920-R923) -/

/-- The device may be updated in that component: all but FW0; in ROM recovery only component 1 (R892, R920). -/
def updatable (s : State) (c : Nat) : Bool := decide (1 ≤ c) && decide (c ≤ 5) && (s.fwRuns 1 || c == 1)

/-- QueryDeviceIdentifiers: IANA, and a vendor-defined descriptor with SYS_PART (R920). -/
def queryDeviceAt (msg : Mctp) : State → State :=
  pldmAt true msg (fun s =>
    let d := leBytes 1 2 ++ leBytes 4 2 ++ leBytes Config.iana.toNat 4 ++
      (leBytes 0xFFFF 2 ++ leBytes 6 2 ++ [1, 0] ++ leBytes (s.getN .sys 0x40) 4)
    mctpReply 0 (leBytes d.length 4 ++ [2] ++ d) s)

/-- A number in decimal ASCII. -/
def ascii (n : Nat) : List Byte := (toString n).toList.map (fun c => BitVec.ofNat 8 c.toNat)

/-- "major.minor.patch" (R920). -/
def versionText (v : Nat) : List Byte :=
  ascii (v / 0x1000000 % 256) ++ [0x2E] ++ ascii (v / 0x10000 % 256) ++ [0x2E] ++ ascii (v % 65536)

/-- A component's entry of GetFirmwareParameters: component 0 has no activation method (R920). -/
def paramEntry (s : State) (c : Nat) : List Byte :=
  let act := versionText (s.comp c).version
  let pend := match s.entryIn c 2 with
    | some e => versionText e.version
    | none => []
  openBytes s (100 * c) 2 ++ leBytes c 2 ++ openBytes s (100 * c + 2) 5 ++ [1] ++ leBytes act.length 1 ++
    (openBytes s (100 * c + 7) 12 ++ [1] ++ leBytes pend.length 1 ++ openBytes s (100 * c + 19) 8 ++
      (leBytes (if c = 0 then 0 else 0x2A) 2 ++ openBytes s (100 * c + 27) 4 ++ act ++ pend))

/-- GetFirmwareParameters. -/
def getParamsAt (msg : Mctp) : State → State :=
  pldmAt true msg (fun s =>
    mctpReply 0 (openBytes s 900 4 ++ leBytes 6 2 ++ [1, 0, 1, 0] ++ (List.range 6).flatMap (paramEntry s)) s)

/-- BELV_UPD state. -/
def State.updState (s : State) : Nat := s.getF .belv 0x48 2 0

/-- Move the update to a state. -/
def toState (n : Nat) (s : State) : State :=
  onFw (fun f => { f with upd := { f.upd with prev := s.updState } }) (s.setF .belv 0x48 2 0 n)

/-- RequestUpdate (R921, R936). -/
def requestUpdateAt (msg : Mctp) : State → State :=
  pldmAt true msg (fun s =>
    if msg.body.length < 11 then mctpReply 0x03 [] s
    else if s.updState ≠ 0 then mctpReply 0x81 [] s
    else if s.fw.sleep.isSome then mctpReply 0x04 [] s
    else if at' msg.body 0 4 < 32 then mctpReply 0x83 [] s
    else
      let s1 := onFw (fun f => { f with
        upd := { UpdSt.init with who := msg.src, dt := s.dt, xfer := min 1024 (at' msg.body 0 4) } }) s
      mctpReply 0 [0, 0, 0] (s1.setN .belv 0x48 1))

/-- Outside an update, and out of its order. -/
def updGuard (want : List Nat) (s : State) (f : State → State) : State :=
  if s.updState = 0 then mctpReply 0x80 [] s
  else if !want.contains s.updState then mctpReply 0x84 [] s
  else f s

/-- PassComponentTable; the last entry ends the table. -/
def passTableAt (msg : Mctp) : State → State :=
  pldmAt true msg (fun s => updGuard [1] s (fun s =>
    let flag := at' msg.body 0 1
    let ok := updatable s (at' msg.body 3 2)
    if msg.body.length < 12 then mctpReply 0x03 [] s
    else mctpReply 0 (if ok then [0, 0] else [1, 6]) (if flag = 4 ∨ flag = 5 then toState 2 s else s)))

/-- The next RequestFirmwareData (R921). -/
def askData (s : State) : State :=
  let u := s.fw.upd
  sendMsg u.who 0x0515 (leBytes u.got 4 ++ leBytes (min u.xfer (u.size - u.got)) 4) s

/-- UpdateComponent: the download begins. -/
def updateComponentAt (msg : Mctp) : State → State :=
  pldmAt true msg (fun s => updGuard [2] s (fun s =>
    let c := at' msg.body 2 2
    let size := at' msg.body 9 4
    if msg.body.length < 19 then mctpReply 0x03 [] s
    else if !updatable s c ∨ size = 0 ∨ 0x80000 < size then mctpReply 0 ([1, 6] ++ leBytes 0 4 ++ leBytes 0 2) s
    else
      let s1 := onFw (fun f => { f with upd := { f.upd with size := size, got := 0 } }) ((toState 3 s).setF .belv 0x48 10 8 c)
      askData (mctpReply 0 ([0, 0] ++ at4 msg.body ++ leBytes 0 2) s1)))
where
  /-- The option flags, as sent. -/
  at4 (b : List Byte) : List Byte := leBytes (at' b 13 4) 4

/-- The staging area (R886). -/
def stagingBase : Nat := 0x80280000

/-- The image in the staging area. -/
def staged (s : State) : List Byte := s.bytes stagingBase s.fw.upd.size

/-- Verification (R921): checks 1 to 5, and check 6 unless ACCEPT_UNTESTED is 1. -/
def stagedOk (s : State) (c : Nat) : Bool :=
  let b := staged s
  verifyImage c b == 0 && (s.acceptUntested || steppingOk s b)

/-- The bank an update writes (R921): neither ACTIVE nor STAGED, else PREVIOUS, else not ACTIVE. -/
def freeBank (s : State) (c : Nat) : Nat :=
  let st := fun (k : Nat) => ((s.dir.find? (fun e => e.comp == c && e.bank == k)).map (·.state)).getD 0
  let free := [0, 1].filter (fun k => st k != 1 && st k != 2)
  match free with
  | [k] => k
  | _ :: _ => (free.find? (fun k => st k == 3)).getD 0
  | [] => if st 0 = 1 then 1 else 0

/-- Where a bank keeps a component's image (R883): one MiB for each (log entry 41). -/
def bankOff (c k : Nat) : Nat := (if k = 0 then 0x100000 else 0x800000) + 0x100000 * (c - 1)

/-- The verified image goes to flash and the directory has it STAGED with three tries (R921). -/
def applyImage (c : Nat) (s : State) : State :=
  let b := staged s
  let k := freeBank s c
  let off := bankOff c k
  let s1 := flashPut off (b ++ List.replicate (roundUp b.length 4096 - b.length) 0xFF#8) s
  let s2 := setEntry c k (fun e => { e with
    comp := c, bank := k, state := 2, tries := 3, off := off, len := b.length, version := at' b 8 4 }) s1
  onFw (fun f => { f with digests := f.digests.put c (sha384 (imageBytes b)), upd := { f.upd with done := f.upd.done ++ [c] } }) s2

/-- The last byte has arrived: verification and, when it passes, the write. -/
def downloaded (s : State) : State :=
  let c := s.getF .belv 0x48 10 8
  let w := s.fw.upd.who
  let s1 := toState 4 (sendMsg w 0x0516 [0] s)
  if stagedOk s1 c then
    let s2 := toState 5 (sendMsg w 0x0517 [0] s1)
    toState 2 (sendMsg w 0x0518 [0, 0, 0] (applyImage c s2))
  else sendMsg w 0x0517 [1] s1

/-- REQUEST_FIRMWARE_DATA: the response with the piece asked for. -/
def firmwareDataAt (msg : Mctp) (s : State) : State :=
  let u := s.fw.upd
  let piece := msg.body.drop 1
  if !s.mctpUp ∨ s.updState ≠ 3 ∨ msg.src ≠ u.who then s
  else
    let s0 := onFw (fun f => { f with upd := { f.upd with dt := s.dt } }) s
    if at' msg.body 0 1 ≠ 0 ∨ piece.length ≠ min u.xfer (u.size - u.got) then s0
    else
      let s1 := s0.storeBytes (stagingBase + u.got) piece
      let s2 := onFw (fun f => { f with upd := { f.upd with got := u.got + piece.length } }) s1
      if u.got + piece.length = u.size then downloaded s2 else askData s2

/-- One staged component is activated: its kept copy, and its restart (R922). -/
def activateComp (c : Nat) (s : State) : State :=
  match s.entryIn c 2 with
  | none => s
  | some e =>
    let b := s.entryImage e
    let s1 := s.setComp c (imageComp s e b (s.comp c).state 0)
    let s2 := if (s1.comp c).untested then fwRecord 0x0834 clsUntested s1 else s1
    let s3 := keepCopy c (imageBytes b) s2
    if c = 5 then s3.updComp 5 (fun x => { x with state := 2 }) else restartComp c s3

/-- The image in flash still has the digest of its verification (R922). -/
def digestHolds (s : State) (c : Nat) : Bool :=
  match s.entryIn c 2, s.fw.digests.get? c with
  | some e, some d => sha384 (imageBytes (s.entryImage e)) == d
  | _, _ => false

/-- ActivateFirmware (R922); FW1 is restarted last, then the pairing rules apply again. -/
def activateAt (msg : Mctp) : State → State :=
  pldmAt true msg (fun s => updGuard [2] s (fun s =>
    let done := s.fw.upd.done
    if msg.body.length ≠ 1 then mctpReply 0x03 [] s
    else if done.isEmpty then mctpReply 0x85 [] s
    else
      let idle := fun (t : State) => onFw (fun f => { f with upd := UpdSt.init }) (t.setN .belv 0x48 0)
      if at' msg.body 0 1 ≠ 1 then mctpReply 0 [0, 0] (idle s)
      else if !done.all (digestHolds s) then mctpReply 0x01 [] s
      else
        let s1 := mctpReply 0 [0, 0] (idle s)
        pairAll (([5, 4, 2, 3, 1].filter done.contains).foldl (fun t c => activateComp c t) s1)))

/-- GetStatus. -/
def getStatusAt (msg : Mctp) : State → State :=
  pldmAt true msg (fun s =>
    let n := s.updState
    mctpReply 0 (leBytes n 1 ++ leBytes s.fw.upd.prev 1 ++ [if n ≤ 2 then 3 else 0, 0, 0x65, 0] ++ leBytes 0 4) s)

/-- CancelUpdateComponent: the staging area is discarded. -/
def cancelComponentAt (msg : Mctp) : State → State :=
  pldmAt true msg (fun s => updGuard [3, 4, 5] s (fun s =>
    mctpReply 0 [] ((toState 2 s).undef stagingBase 0x80000)))

/-- CancelUpdate: the update ends; entries already STAGED stay. -/
def cancelUpdateAt (msg : Mctp) : State → State :=
  pldmAt true msg (fun s => updGuard [1, 2, 3, 4, 5, 6] s (fun s =>
    let s1 := (s.setN .belv 0x48 0).undef stagingBase 0x80000
    mctpReply 0 (List.replicate 9 0#8) (onFw (fun f => { f with upd := UpdSt.init }) s1)))

/-- 120 s in DT units. -/
def updateLimit : Nat := 3932160000

/-- UPDATE_TIMEOUT (R923). -/
def updateTimeoutAt (s : State) : State :=
  if s.present .belv ∧ s.updState ≠ 0 ∧ s.fw.upd.dt + updateLimit ≤ s.dt then updAbandon s else s

/-! ### Vendor-defined messages (R924-R927) -/

/-- GET_LOG: records from INDEX on, as many as the log has. -/
def vdmGetLogAt (msg : Mctp) : State → State :=
  mctpAt false (fun s =>
    let i := at' msg.body 0 4
    let n := at' msg.body 4 1
    if msg.body.length ≠ 5 then mctpReply 0x03 [] s
    else if n = 0 ∨ 4 < n then mctpReply 0x02 [] s
    else if !s.logHas i then mctpReply 0x81 [] s
    else
      let l := (List.range n).filter (fun k => s.logHas (i + k))
      mctpReply 0 (leBytes l.length 1 ++ [0, 0, 0] ++ l.flatMap (fun k => s.logRec (i + k))) s)

/-- The sixteen bytes of GET_FW_STATE for a component (R925). -/
def stateRow (s : State) (c : Nat) : List Byte :=
  let x := s.comp c
  leBytes x.version 4 ++ leBytes x.iface 2 ++ leBytes x.state 1 ++ leBytes (compFlags s c) 1 ++
    (leBytes x.reason 2 ++ leBytes (min (s.restartsOf c) 255) 1 ++ leBytes x.bank 1 ++ [0, 0, 0, 0])

/-- GET_FW_STATE. -/
def getFwStateAt (msg : Mctp) : State → State :=
  mctpAt false (fun s =>
    if msg.body.length ≠ 0 then mctpReply 0x03 [] s else mctpReply 0 ((List.range 6).flatMap (stateRow s)) s)

/-- GET_DIGEST; a component without a digest is not ready. -/
def vdmGetDigestAt (msg : Mctp) : State → State :=
  mctpAt false (fun s =>
    let c := at' msg.body 0 1
    if msg.body.length ≠ 1 then mctpReply 0x03 [] s
    else if 5 < c then mctpReply 0x02 [] s
    else match s.digestOf c with
      | some d => mctpReply 0 d s
      | none => mctpReply 0x04 [] s)

/-- GET_POLICY. -/
def getPolicyAt (msg : Mctp) : State → State :=
  mctpAt false (fun s =>
    if msg.body.length ≠ 0 then mctpReply 0x03 [] s else mctpReply 0 (leBytes (s.getN .fw 0x48) 4) s)

/-- SET_POLICY: both copies are written, then FW_POLICY follows (R926, R935). -/
def setPolicyAt (msg : Mctp) : State → State :=
  mctpAt false (fun s =>
    let v := at' msg.body 0 4
    if msg.body.length ≠ 4 then mctpReply 0x03 [] s
    else if 3 < v then mctpReply 0x02 [] s
    else mctpReply 0 (leBytes v 4) ((putPolicy v s).setN .fw 0x48 v))

/-- RESTART: the response goes first. A quarantined component stays held (R901). -/
def restartAt (msg : Mctp) (boot : Boot) : State → State :=
  mctpAt false (fun s =>
    let c := at' msg.body 0 1
    if msg.body.length ≠ 1 then mctpReply 0x03 [] s
    else if c = 0xFF then mctpReply 0 [] (systemResetAt boot s)
    else if c = 0 ∨ 4 < c then mctpReply 0x02 [] s
    else if (s.comp c).state = 2 ∨ (s.comp c).state = 3 then mctpReply 0 [] (restartComp c s)
    else mctpReply 0x04 [] s)

/-- ERROR_REPORT: the manager's response. -/
def errorReportAt (msg : Mctp) (s : State) : State :=
  if s.mctpUp ∧ s.fwRuns 1 = true ∧ msg.src = s.reportDst then reportAckAt msg.body s else s

/-! ### The MI3C port (R916, R917) -/

/-- DYNAMIC_ADDRESS_ASSIGN: ENTDAA or SETDASA over I3C; an I2C bus reaches the static address (R916, R933). -/
def addressAt (a : Nat) (i3c : Bool) (s : State) : State :=
  if !s.mctpUp then s
  else if i3c then s.setN .mi3c 0x4C (a + 0x80 + 0x100)
  else if s.getB .mi3c 0x40 8 then s.setN .mi3c 0x4C 0x200 else s

/-- MCTP_PACKET_DROP (R917). -/
def mctpDropAt (s : State) : State := if s.mctpUp then s.count .belv 0x54 1 else s

end Sys2Proof.Machine
end

