-- ==== Sys2Proof/Machine/Bus.lean ====
section
/-! DEFINITION. The register crossbar: what an accepted write does on each page, enable checks, soft resets, held and
same-cycle writes, and reads with their side effects (R41-R77, R85-R89, R126-R128). -/

namespace Sys2Proof.Machine

/-! ### The host (R86-R89) -/

/-- An owner passes from the old host to the new one. -/
def passOn (old new d : Nat) : Nat := if d = old then new else d

/-- Pages that are not locked pass to the new host. -/
def movePages (old new : Nat) (s : State) : State :=
  allBlks.foldl (fun t b => if !s.pageLocked b && s.owner b == old then t.setF b offOwner 3 0 new else t) s

/-- Pins that are not locked pass to the new host. -/
def movePins (old new : Nat) (s : State) : State :=
  (List.range 48).foldl (fun t n =>
    if !s.pinLocked n && s.pinOwner n == old then t.setF .gown (0x40 + 4 * (n / 8)) (4 * (n % 8) + 3) (4 * (n % 8)) new
    else t) s

/-- Ring ends pass to the new host, on every RING page that is not locked (R415). -/
def moveRings (old new : Nat) (s : State) : State :=
  (List.range 128).foldl (fun t q =>
    let w := t.rg q 0xC
    if s.pageLocked (rgBlk q) then t
    else t.setRg q 0xC (setFld (setFld w 3 0 (passOn old new (fld w 3 0))) 7 4 (passOn old new (fld w 7 4)))) s

/-- HOST changes (R89). -/
def hostMove (old new : Nat) (s : State) : State :=
  if old = new then s else moveRings old new (movePins old new (movePages old new s))

/-- Why a permitted write of HOST_DOMAIN is rejected (R87, R88): the value is judged before ATTACHED (log entry 87). -/
def hostRefusal (v : Word) (s : State) : Option Nat :=
  if fld v 3 0 ≠ domApp ∧ fld v 3 0 ≠ domXhost then some (Blk.sys.type * 256 + 0x02)
  else if s.getB .sys 0x44 8 then some 0x0120
  else none

/-- HOST_DOMAIN (R87-R89). -/
def hostStore (v : Word) (s : State) : State :=
  if s.pageLocked .sys then s
  else
    match hostRefusal v s with
    | some c => s.reject .sys 0x44 c
    | none => hostMove s.host (fld v 3 0) (s.setF .sys 0x44 3 0 (fld v 3 0))

/-! ### Owners and locks (R52-R54) -/

/-- PG_OWNER.OWNER; judgement has met LOCKED. -/
def ownerStore (b : Blk) (v : Word) (s : State) : State :=
  if s.pageLocked b then s
  else if 7 ≤ fld v 3 0 then s.rejectD b offOwner 0x02
  else s.setF b offOwner 3 0 (fld v 3 0)

/-- PG_LOCK_KEY (R53). -/
def pageKey (b : Blk) (v : Word) (s : State) : State :=
  let others := s.keys.filter (fun p => p != b.pg)
  if fld v 15 0 = 0x5A5A then { s with keys := b.pg :: others }
  else if fld v 15 0 = 0xA5A5 ∧ s.keys.contains b.pg = true then ({ s with keys := others }).setB b offOwner 8 true
  else { s with keys := others }

/-! ### Stopping a block (R64, and the chapter of each page) -/

/-- Why ENABLE 0 is refused (R311, R497, R587). -/
def stopRefusal (b : Blk) (s : State) : Option Nat :=
  match b with
  | .ora => if oraBusy s then some 0x1220 else none
  | .nc n => if s.ncPhase n ≠ 0 then some 0x2028 else none
  | .csq k => if s.csqStep k then some 0x2122 else none
  | _ => none

/-- The block stops, as an accepted ENABLE 0 stops it. -/
def stopBlock (b : Blk) (s : State) : State :=
  match b with
  | .ring k => ringPageStop k s
  | .xch k => xchPageStop k s
  | .ora => invalidateAll s
  | .csi p => csiStop p s
  | .isp n => ispStop n s
  | .vdec => vdecPageStop s
  | .venc => vencStop s
  | .jpeg => jpegStop s
  | .spl => splStop s
  | .kws => kwsStop s
  | .gpio => gpioStop s
  | .ddrc => ddrcStop s
  | .ddrphy => phyStop s
  | .hport => winStop s
  | _ => s

/-- The block stops for a soft reset: what ENABLE 0 refuses is ended first (R501, R592, R829); the FIFO of the port is
discarded (R124). -/
def stopForReset (b : Blk) (s : State) : State :=
  match b with
  | .ora => oraSoftReset s
  | .cc => s.ora.jobs.foldl (fun t j => ccEnd j.ctx ccCancelled false t) s
  | .nc n => if s.ncPhase n = 0 then s else killCommand (clusterOf n) 13 0 s
  | .csq k => if s.csqStep k then abortSeq k s else s
  | .disp => (List.range 16).foldl (fun t l => loopDisableAt l t) s
  | .spl => splReset s
  | .hport => winEnd s
  | b => stopBlock b s

/-! ### The enable check (R58-R63, R128) -/

/-- The clock domains a page's check needs are on (R61 rule 3, R313). -/
def clocksUp (b : Blk) (s : State) : Bool :=
  match b with
  | .ora => (List.range (s.part.banks / 4)).all (fun g => s.clockOn (23 + g))
  | b => b.clocks.all s.clockOn

/-- The pages a page names as dependencies are enabled (R61 rule 4, R497, R780). -/
def depsUp (b : Blk) (s : State) : Bool :=
  match b with
  | .nc n => s.enabled (.csq (clusterOf n))
  | .csq _ => s.enabled .disp
  | b => codecRings s b

/-- A page's own rules (R61 rule 5). -/
def ownCheck (b : Blk) (s : State) : Option (Nat × Nat) :=
  match b with
  | .ddrc => ddrCheck s
  | .venc => vencCheck s
  | .kws => kwsCheck s
  | _ => none

/-- The first rule that a check fails, as code and offset (R61). FAULT is none of them: one that hardware raises during
the check ends it by itself (R128). -/
def enableCheck (b : Blk) (s : State) : Option (Nat × Nat) :=
  let c := fun (d : Nat) => some (b.type * 256 + d, offCtrl)
  if s.retiredB b then c 0x0A
  else if !b.rails.all s.rail then c 0x0B
  else if !clocksUp b s then c 0x09
  else if !depsUp b s then c 0x08
  else ownCheck b s

/-- The record of a refused check: Gatehouse units send theirs over the link (R60, R965). -/
def checkRecord (b : Blk) (code off : Nat) (s : State) : State :=
  if b.isAo then gateRec b code clsConfig false s else s.raise b code 0 clsConfig [byteOf off 0, byteOf off 1]

/-- A check refuses (R60). -/
def checkRefuse (b : Blk) (code off : Nat) (s : State) : State :=
  checkRecord b code off (s.refusePage b code off)

/-- FAULT is raised on a page: its interrupt, and the end of a check that runs (R110, R128). -/
def raiseFault (b : Blk) (s : State) : State :=
  let s1 := s.pageFault b
  if s1.jobs.get? b.pg = some .check then checkRefuse b (b.type * 256 + 0x0C) offCtrl (clearJob b s1) else s1

/-- The block starts. -/
def startBlock (b : Blk) (s : State) : State :=
  match b with
  | .ddrc => ddrStart s
  | .isp n => ispStart n s
  | .kws => kwsStart s
  | .gpio => gpioStart s
  | _ => s

/-- A check passes (R59). -/
def checkPass (b : Blk) (s : State) : State :=
  startBlock b (((s.setB b offStatus 0 true).setB b offStatus 1 false).set b offReason 0)

/-- The check of one context or stream of a page completes (R746, R782). -/
def unitCheck (b : Blk) (k : Nat) (s : State) : State :=
  match b with
  | .csi p => camEnable p k s
  | .vdec => vsEnable k s
  | _ => s

/-- The checks of contexts or streams complete. -/
def unitsDone (b : Blk) (ks : List Nat) (s : State) : State := ks.foldl (fun t k => unitCheck b k t) (clearJob b s)

/-- The check completes. -/
def checkDone (b : Blk) (s : State) : State :=
  let s1 := clearJob b s
  match enableCheck b s1 with
  | some (code, off) => checkRefuse b code off s1
  | none => checkPass b s1

/-- ENABLE written at 1 (R58, R63, R70); checks that started in the same cycle end on the page as it is, not enabled. -/
def enableStart (b : Blk) (s : State) : State :=
  let s1 := (s.setB b offCtrl 0 true).setB b offStatus 1 false
  if s.enabled b then s1
  else
    let s2 := match s1.jobs.get? b.pg with
      | some (.units ks) => unitsDone b ks s1
      | _ => s1
    { s2 with jobs := s2.jobs.put b.pg .check }

/-- ENABLE written at 0 (R64, R70): rejected where the block's chapter says so (R311, R497, R587). -/
def disableWrite (b : Blk) (s : State) : State :=
  match stopRefusal b s with
  | some code => s.reject b offCtrl code
  | none =>
    let s1 := (s.setB b offCtrl 0 false).setB b offStatus 1 false
    if s.enabled b then (stopBlock b s1).setB b offStatus 0 false else s1

/-! ### Soft reset (R66-R68) -/

/-- SOFT_RST written at 1: the block stops and the page is BUSY; `both`: ENABLE is 1 in the same write (R67). -/
def softStart (b : Blk) (both : Bool) (s : State) : State :=
  let s1 := stopForReset b s
  let s2 := if b.fixedEnable then s1 else s1.setB b offStatus 0 false
  let s3 := (s2.setB b offCtrl 0 false).setB b offStatus 1 false
  { s3 with jobs := s3.jobs.put b.pg (.reset both) }

/-- Offsets and bits that a chapter names as surviving. -/
def softKeep : Blk → List (Nat × Word)
  | .lock => (List.range 64).map (fun n => (lockOff n, 0xFFFFFFFF#32))
  | .ring _ =>
    (List.range 16).flatMap (fun i =>
      [(0x114 + 0x40 * i, 8#32), (0x134 + 0x40 * i, 0xFFFFFFFF#32), (0x138 + 0x40 * i, 0xFFFF0000#32)])
  | .xfe => [(0x4C, 0xFFFF0000#32)]
  | .xch _ =>
    (List.range 4).flatMap (fun j =>
      [(0x4C + 0x40 * j, 0x40#32), (0x68 + 0x40 * j, 0xFFFFFFFF#32), (0x6C + 0x40 * j, 0xFFFFFFFF#32)])
  | .nc _ => [(0x64, 0xFFFFFFFF#32), (0x70, 0xFFFFFFFF#32), (0x74, 0xFFFFFFFF#32), (0x8C, 0xFFFFFFFF#32)]
  | _ => []

/-- RWL fields of a page, by offset. -/
def lockedFields (b : Blk) : List (Nat × Word) :=
  ((rowsOf b).filter (fun r => r.lck ≠ 0)).flatMap (fun r => (List.range r.n).map (fun i => (r.off + r.step * i, wd r.lck)))

/-- Everything of a page that survives (R68). -/
def survivors (s : State) (b : Blk) : List (Nat × Word) :=
  [(offOwner, 0xFFFFFFFF#32), (offErrcnt, 0xFFFFFFFF#32), (offCollcnt, 0xFFFFFFFF#32), (offStatus, 0x10#32)]
    ++ (if s.pageLocked b then lockedFields b else []) ++ softKeep b

/-- The registers of a page return to their reset values. -/
def clearKeep (b : Blk) (s : State) : State :=
  let s1 := { s.clearPage b with keys := s.keys.filter (fun p => p != b.pg) }
  (survivors s b).foldl (fun t p => t.set b p.1 (merge (t.get b p.1) (s.get b p.1) p.2)) s1

/-- PWR after its registers were reset: CEIL stands in its record, and both rails are at point 0 (R9, R172). -/
def pwrReset (s : State) : State :=
  loadCeil (onPower (fun p => { p with opNpu := none, opApp := none, vselNpu := 0, vselApp := 0 }) s)

/-- What a soft reset does to the block besides its registers (R82, R124, R249, R358, R501, R646). -/
def resetBlock (b : Blk) (s : State) : State :=
  match b with
  | .pwr => pwrReset s
  | .hport => portReset s
  | .fw => onFw (fun f => { f with sel := [] }) s
  | .xfe => (List.range 32).foldl (fun t c => t.setXcStat c 7 false) { s with pfg := [] }
  | .ring k => (List.range 16).foldl (fun t i => roomSeen (16 * k + i) t) s
  | .xch k => abandon (fun c => decide (0x80 + 4 * k ≤ c) && decide (c < 0x84 + 4 * k)) s
  | .nc n =>
    let c := s.core n
    s.setCore n { CoreSt.init with imem := c.imem, vt := c.vt, resTimes := c.resTimes, imTimes := c.imTimes }
  | .isp n => ispForget n s
  | .csq k => abandon (fun c => c == 0x21 + k) s
  | .gate => abandon (fun c => c == 0x30) { s with gate := { s.gate with alarm := false, recs := [] } }
  | .aoi => { s with gate := { s.gate with polls := [], aiRx := [], aiTx := [] } }
  | .appc => abandon (fun c => decide (0x40 ≤ c) && decide (c ≤ 0x43)) (onApp (fun _ => AppSt.init) s)
  | _ => s

/-- A page and its block are reset, but for ERR, the pin pages and SYS. -/
def plainReset (b : Blk) (s : State) : State := resetBlock b (clearKeep b s)

/-- A soft reset completes (R66, R85, R985, R1026); DONE of the PHY means trained for the DDR_CFG that it changes
(R251). -/
def softReset (b : Blk) (s : State) : State :=
  match b with
  | .lock => clearKeep .lock (lockSoftReset s)
  | .ddrc => let s1 := plainReset .ddrc s; if s.getN .ddrc 0x40 = 0 then s1 else cfgChanged s1
  | .err => errSoftReset (clearKeep .err) s
  | .gpio => pinSoftReset (clearKeep .gpio) s
  | .gown => pinSoftReset (clearKeep .gown) s
  | .pmux => pinSoftReset (clearKeep .pmux) s
  | .sys => let s1 := clearKeep .sys s; hostMove s.host s1.host s1
  | b => plainReset b s

/-- Nothing that the soft reset ends is still ending (R501, R592). -/
def resetReady (b : Blk) (s : State) : Bool :=
  match b with
  | .nc n => s.ncPhase n == 0
  | .csq k => !s.csqStep k
  | _ => true

/-- A soft reset written together with ENABLE leaves the page disabled (R67), unless its ENABLED ignores writes or, on the
ORA page, ends at 1 (R315). -/
def endsDisabled (b : Blk) : Bool := !b.fixedEnable && b != .ora

/-- BUSY ends as the page's job has it. -/
def jobDone (b : Blk) (s : State) : State :=
  match s.jobs.get? b.pg with
  | some .check => checkDone b s
  | some (.units ks) => unitsDone b ks s
  | some (.reset both) =>
    if resetReady b s then
      let s1 := softReset b (clearJob b s)
      if both && endsDisabled b then s1.setB b offStatus 0 false else s1
    else s
  | none => s

/-! ### Writes -/

/-- PG_CTRL (R58, R63, R64, R66, R67). -/
def ctrlStore (b : Blk) (v : Word) (s : State) : State :=
  if bit v 1 then softStart b (bit v 0) s
  else if b.fixedEnable then s
  else if bit v 0 then enableStart b s
  else disableWrite b s

/-- The command that a compare-and-count job of a cluster sequencer belongs to (R274). -/
def jobAgent (m : Master) (s : State) : Option Nat :=
  match m with
  | .sequencer k => if s.csqPhase k.val = 1 then some (0x10 + k.val) else none
  | _ => none

/-- Pages of the control plane and memory. -/
def storeCtl (m : Master) (b : Blk) (off : Nat) (v mask : Word) (s : State) : State :=
  match b with
  | .sys => if off = 0x44 then hostStore v s else plainStore .sys off v mask s
  | .pwr => pwrStore off v mask s
  | .clk => clkStore off v mask s
  | .time => timeStore m off v mask s
  | .lock => if 0x100 ≤ off ∧ off < 0x200 then lockWrite m ((off - 0x100) / 4) v s else plainStore .lock off v mask s
  | .hport => hportStore off v mask s
  | .err => errStore m off v mask s
  | .fw => fwStore m off v mask s
  | .ora => oraStore off v mask s
  | .cc => ccStore (jobAgent m s) off v mask s
  | .st => if off = 0x44 then stCmd v s else plainStore .st off v mask s
  | .ddrc => ddrcStore off v mask s
  | .ddrphy => phyStore off v mask s
  | b => plainStore b off v mask s

/-- What an accepted write does (R57). -/
def applyReg (m : Master) (b : Blk) (off : Nat) (v mask : Word) (s : State) : State :=
  if off = offCtrl then ctrlStore b v s
  else if off = offOwner then ownerStore b v s
  else if off = offKey then pageKey b v s
  else
    match b with
    | .ring k => ringStore k off v mask s
    | .xfe => if off = 0x50 then pfgCtrl v s else plainStore .xfe off v mask s
    | .xch k => xchStore k off v mask s
    | .nc n => ncStore n off v mask s
    | .csq k => csqStore k off v mask s
    | .disp => dispStore off v mask s
    | .csi p => csiStore p off v mask s
    | .vdec => vdecStore off v mask s
    | .spl => splStore off v mask s
    | .gate => gateStore off v mask s
    | .kws => kwsStore off v mask s
    | .aoi => aoiStore off v mask s
    | .gpio => gpioStore off v mask s
    | .gown => gownStore m off v mask s
    | .pmux => pmuxStore off v mask s
    | .appc => appcStore off v mask s
    | b => storeCtl m b off v mask s

/-- The effect of a write once accepted. -/
def effect (w : BusWrite) (v mask : Word) (s : State) : State := applyReg w.master (blkOr w.addr) (pageOff w.addr) v mask s

/-- HP_STAT.REJECT: a write of the port was rejected at its page (R118). -/
def noteReject (w : BusWrite) (f : State → State) (s : State) : State :=
  let b := blkOr w.addr
  if w.master = .xspi ∧ (f (s.setF b offErrcnt 15 0 0)).getF b offErrcnt 15 0 ≠ 0 then hpSet 4 (f s) else f s

/-- A write that is judged as `vd` (R55, R56, R62). -/
def carryOut (w : BusWrite) (vd : Verdict) (s : State) : State := noteReject w (settle w vd (effect w)) s

/-- One write, judged now. -/
def busWrite (w : BusWrite) (s : State) : State := carryOut w (judge s w) s

/-- A full-word write of a master to a register of a page. -/
def writeAt (m : Master) (b : Blk) (off : Nat) (v : Word) (s : State) : State := busWrite (wr m (b.at off) v) s

/-- HELD_WRITE_APPLY: the oldest held write of a page (R62). -/
def heldApply (b : Blk) (s : State) : State :=
  if s.busy b then s
  else
    match s.held.find? (fun h => h.page == b.pg) with
    | some h => busWrite h.write { s with held := s.held.erase h }
    | none => s

/-! ### Same-cycle writes (R71-R77) -/

/-- Domain order, then core code (R72, R75). -/
def writeKey (s : State) (w : BusWrite) : Nat := w.master.dom s * 256 + w.master.code

/-- A write in its place. -/
def insertWrite (s : State) (w : BusWrite) : List BusWrite → List BusWrite
  | [] => [w]
  | x :: l => if writeKey s w < writeKey s x then w :: x :: l else x :: insertWrite s w l

/-- Writes in order. -/
def sortWrites (s : State) (l : List BusWrite) : List BusWrite := l.foldl (fun a w => insertWrite s w a) []

/-- What a cycle leaves for its end, hardware after software (R77): a write that is not applied, or a collision. -/
inductive Late where
  | settle (w : BusWrite) (vd : Verdict)
  | collision (addr n doms : Nat)
deriving DecidableEq, Repr

/-- A cycle in progress: the state, what is left for its end, and the accepted writes to the register being served. -/
structure Cycle where
  st   : State
  late : List Late
  took : List BusWrite
  /-- The domain of the last write served. -/
  dom  : Nat
deriving DecidableEq, Repr

/-- The bits of the domains of some writes. -/
def domBits (s : State) (g : List BusWrite) : Nat := bitsOf 8 (fun d => g.any (fun w => w.master.dom s == d))

/-- A collision is recorded (R74). -/
def collide (addr n doms : Nat) (s : State) : State :=
  let b := blkOr addr
  let s1 := ((s.setB b offStatus 5 true).irq b 2).countF b offCollcnt 15 0 (n - 1)
  (s1.setN .sys 0x50 (addr - regBase)).setN .sys 0x54 (0x80000000 + doms)

/-- A write of CLK_SET or CLK_CLR. -/
def isClkWrite (off : Nat) (w : BusWrite) : Bool := w.addr == Blk.at .clk off

/-- Bits of a clock release that keep their effect: a domain whose page is enabled keeps its request (R211). -/
def clkFree (s : State) (base : Nat) : Word := wd (bitsOf 32 (fun i => !s.clkInUse (base + i)))

/-- The domains that the write `w` of CLK_SET requests and that a later domain of R72 releases in the same cycle (R213). -/
def clkLater (ws : List BusWrite) (s : State) (w : BusWrite) (off : Nat) : Word :=
  ws.foldl (fun a x =>
    match judge s x with
    | .apply v mask _ =>
      if isClkWrite (off + 8) x && decide (w.master.dom s < x.master.dom s) then
        a ||| (v &&& mask &&& clkFree s (if off = 0x50 then 0 else 32))
      else a
    | _ => a) 0#32

/-- The verdict on a write of one cycle: R57, what the HOST field refuses, and R213 for a request of a clock domain. -/
def cycleVerdict (ws : List BusWrite) (s : State) (w : BusWrite) : Verdict :=
  match judge s w with
  | .apply v mask l =>
    if isClkWrite 0x50 w then .apply v (mask &&& ~~~(clkLater ws s w 0x50)) l
    else if isClkWrite 0x54 w then .apply v (mask &&& ~~~(clkLater ws s w 0x54)) l
    else if w.addr == Blk.at .sys 0x44 && !s.pageLocked .sys then
      match hostRefusal v s with
      | some c => .reject c
      | none => .apply v mask l
    else .apply v mask l
  | vd => vd

/-- A later write of one register: its page may have become BUSY (R62). -/
def heldNow (s : State) (w : BusWrite) (vd : Verdict) : Verdict :=
  let b := blkOr w.addr
  let off := pageOff w.addr
  match vd with
  | .apply _ _ false => if s.busy b ∧ off ≠ offRaw ∧ off ≠ offEn then .hold else vd
  | _ => vd

/-- One write to the register being served, `first` its verdict before the cycle. The first write of a domain keeps that
verdict (R72); a later one of that domain is judged on the state that the one before it left (R75). -/
def serveWrite (all : List BusWrite) (s0 : State) (c : Cycle) (w : BusWrite) : Cycle :=
  let d := w.master.dom s0
  let vd := if d = c.dom then cycleVerdict all c.st w else heldNow c.st w (cycleVerdict all s0 w)
  match vd with
  | .apply _ _ false =>
    if (rowAt (blkOr w.addr) (pageOff w.addr)).isSome then
      { c with st := carryOut w vd c.st, took := c.took ++ [w], dom := d }
    else { c with dom := d }
  | .apply _ _ true => { c with st := carryOut w vd c.st, dom := d }
  | _ => { c with late := c.late ++ [.settle w vd], dom := d }

/-- Accepted writes of two domains collide (R71). -/
def collides (s0 : State) (l : List BusWrite) : Bool :=
  match l with
  | [] => false
  | w :: rest => rest.any (fun x => x.master.dom s0 != w.master.dom s0)

/-- The writes of a cycle to one register, in the order of R72 and R75. -/
def serveReg (all g : List BusWrite) (s0 : State) (c : Cycle) : Cycle :=
  let r := (sortWrites s0 g).foldl (serveWrite all s0) { c with took := [], dom := 0 }
  match r.took with
  | [] => r
  | w :: _ =>
    if collides s0 r.took then
      { r with late := r.late ++ [.collision w.addr r.took.length (domBits s0 r.took)] }
    else r

/-- The different addresses of some writes, in order. -/
def addrsOf (l : List BusWrite) : List Nat := l.foldl (fun a w => if a.contains w.addr then a else a ++ [w.addr]) []

/-- The writes of `ws` that are served together, judged against the state in which that begins; `all`: the cycle's writes.
Registers are served, and their writes to a BUSY page held, in the order in which `ws` first names them (log entry 85). -/
def cycleWrites (all ws : List BusWrite) (c : Cycle) : Cycle :=
  (addrsOf ws).foldl (fun t a => serveReg all (ws.filter (fun w => w.addr == a)) c.st t) c

/-- What the end of a cycle does. -/
def lateStep (s : State) (x : Late) : State :=
  match x with
  | .settle w vd => carryOut w vd s
  | .collision a n doms => collide a n doms s

/-- A write that can only clear status bits: hardware sets them after it (R77, R414). -/
def clearsStatus (w : BusWrite) : Bool :=
  match blkOf w.addr with
  | some (.ring k) =>
    decide (pageOff w.addr % 0x40 = 0x2C) || (((rowAt (.ring k) (pageOff w.addr)).map (fun r => r.w1c != 0 && r.rw == 0)).getD false)
  | some b => ((rowAt b (pageOff w.addr)).map (fun r => r.w1c != 0 && r.rw == 0)).getD false
  | none => false

/-- The place of a write among those of its SoC cycle: HOST (R126), writes that clear status (R77), pin owners and then
pin locks (R1024), RG_CTRL before the pointers of its ring (R413) and its head before its tail (R411), GO before the
operating points (R214), releases of clock domains before requests (R213). -/
def cyclePhase (w : BusWrite) : Nat :=
  let off := pageOff w.addr
  if clearsStatus w then 1
  else
    match blkOf w.addr with
    | some .sys => if off = 0x44 then 0 else 4
    | some .gown => if off < 0x60 then 2 else if off = 0x64 ∨ off = 0x68 then 3 else 4
    | some (.ring _) =>
      if 0x100 ≤ off ∧ off < 0x500 then (if off % 0x40 = 0x10 then 2 else if off % 0x40 = 0x1C then 3 else 4) else 4
    | some .pwr => if off = 0x54 then 2 else 4
    | some .clk => if off = 0x58 ∨ off = 0x5C then 2 else 4
    | _ => 4

/-- All writes of one SoC cycle. -/
def sameCycle (ws : List BusWrite) (s : State) : State :=
  let c := (List.range 5).foldl (fun c k => cycleWrites ws (ws.filter (fun w => cyclePhase w == k)) c)
    { st := s, late := [], took := [], dom := 0 }
  c.late.foldl lateStep c.st

/-! ### Reads -/

/-- What a page shows at an offset, its PG_STATUS apart. -/
def pageView (m : Master) (b : Blk) (off : Nat) (s : State) : Word :=
  match b with
  | .pwr => pwrView off s
  | .clk => clkView off s
  | .time => timeView m off s
  | .lock => lockView m off s
  | .hport => hportView off s
  | .err => errView m off s
  | .fw => fwView m off s
  | .ring k => ringView k off s
  | .xfe => xfeView off s
  | .xch k => xchView k off s
  | .nc n => ncView n off s
  | .disp => dispView off s
  | .st => stView off s
  | .ddrc => ddrcView off s
  | .csi p => csiView p off s
  | .vdec => vdecView off s
  | .spl => splView off s
  | .gate => gateView off s
  | .gpio => gpioView off s
  | .gown => gownView m off s
  | .pmux => pmuxView off s
  | .appc => appcView off s
  | b => s.get b off

/-- What a register shows: BUSY in PG_STATUS (R110); write-only registers and reserved offsets read 0 (R8). -/
def busView (m : Master) (b : Blk) (off : Nat) (s : State) : Word :=
  if (rowAt b off).isNone then 0
  else if off = offStatus then setBit (pageView m b off s) 2 (s.busy b)
  else pageView m b off s

/-- GP_TCAPn_LO latches the upper half for its reader, and GP_TCAPn_HI shows it (R1017). -/
def tcapRead (m : Master) (n : Nat) (hi : Bool) (s : State) : State × Word :=
  let live := s.get .gpio (0xA8 + 0x10 * n)
  if hi then (s, (s.pins.cap.get? (8 * m.code + n)).getD live)
  else
    (if hasLatch m then onPins (fun p => { p with cap := p.cap.put (8 * m.code + n) live }) s else s,
      s.get .gpio (0xA4 + 0x10 * n))

/-- A read with its side effects, RC apart. -/
def readEffect (m : Master) (b : Blk) (off : Nat) (s : State) : State × Word :=
  let v := busView m b off s
  match b with
  | .time => if off = 0x40 then dtLoRead m s else (s, v)
  | .nc n =>
    if off = 0x60 then (imDataRead n s, v) else if off = 0x84 then (vtDataRead n s, v) else (s, v)
  | .aoi => if off = 0x48 then aiDataRead s else (s, v)
  | .appc =>
    if off = 0x800 then uartPop s
    else if off = 0x908 then i2cPop 0 s
    else if off = 0xA08 then i2cPop 1 s
    else (s, v)
  | .gpio =>
    if 0xA0 ≤ off ∧ off < 0x120 ∧ (off % 0x10 = 4 ∨ off % 0x10 = 8) then
      tcapRead m ((off - 0xA0) / 0x10) (off % 0x10 == 8) s
    else (s, v)
  | .hport => if off = 0x58 then winTake s else (s, v)
  | _ => (s, v)

/-- RC registers clear. -/
def readClear (b : Blk) (off : Nat) (s : State) : State :=
  if ((rowAt b off).map (·.rc)).getD false then s.set b off 0 else s

/-- A parity error on a register (R45, R978); a Gatehouse page's record crosses the link, its DETAIL 0 (R965). -/
def parityError (b : Blk) (addr : Nat) (inj : Bool) (s : State) : State :=
  let s1 := raiseFault b s
  (if b.isAo then gateRec b 0x0733 clsTransient inj s1
   else s1.raiseRec b 0x0733 0 clsTransient inj (leBytes addr 5)).busError

/-- The marked word is read (R972 KIND 3). -/
def parityMark (b : Blk) (addr : Nat) (s : State) : State :=
  if (s.check.parity.map (·.1)) = some addr then
    parityError b addr true (onCheck (fun k => { k with parity := none, armed := none }) s)
  else s

/-- A read of `size` bytes (R42, R43, R50, R56). -/
def busRead (m : Master) (addr size : Nat) (s : State) : State × Word :=
  match judgeRead s m addr size, blkOf addr with
  | .ok, some b =>
    let off := regOff addr
    let r := readEffect m b off s
    let s1 := parityMark b (addr - addr % 4) (readClear b off r.1)
    (s1, if size = 4 then r.2 else wd ((r.2.toNat >>> (8 * (addr % 4))) % 256 ^ size))
  | .reject c, some b => (s.reject b (regOff addr) c, 0)
  | .miss, _ => (regMiss s, 0)
  | _, _ => (s, 0)

/-- A read as a command: the word is the answer. -/
def readAt (m : Master) (addr size : Nat) (s : State) : State :=
  let r := busRead m addr size s
  r.1.answer [r.2]

/-- Reads of one SoC cycle, in order: the state and the words. -/
def cycleReads : List BusRead → State → State × List Word
  | [], s => (s, [])
  | r :: rs, s =>
    let a := busRead r.master r.addr r.size s
    let b := cycleReads rs a.1
    (b.1, a.2 :: b.2)

/-- One SoC cycle on the register crossbar: its writes, then its reads (R76). -/
def cycleAt (ws : List BusWrite) (rs : List BusRead) (s : State) : State :=
  let r := cycleReads rs (sameCycle ws s)
  r.1.answer r.2

/-- A read of 64 bits is two of 32 bits, the lower address first (R44). -/
def readWide (m : Master) (addr : Nat) (s : State) : State :=
  let r := busRead m addr 4 s
  let q := busRead m (addr + 4) 4 r.1
  q.1.answer [r.2, q.2]

end Sys2Proof.Machine
end

