-- ==== Sys2Proof/Machine/Port.lean ====
section
/-! DEFINITION. The commands of the xSPI host port (R90-R107, R118, R122-R124). -/

namespace Sys2Proof.Machine

/-- The port answers: its page is present. -/
def State.portUp (s : State) : Bool := s.present .hport

/-- A command ends what only the next one may use: held read data (R99) and RESET_ENABLE (R92). -/
def portNext (s : State) : State := onPort (fun p => { p with replay := none, armed := false }) s

/-- A command executes: HP_CMD_CNT (R117). -/
def portCount (s : State) : State := s.countWrap .hport 0x5C 1

/-- A command of `need` mode reaches a port that is up; in 1S-1S-1S the other commands are ignored (R90). -/
def portCmd (octal : Bool) (f : State → State) (s : State) : State :=
  if !s.portUp then s
  else if octal && !s.port.octal then portNext s
  else f s

/-- The address rule (R94): the range, and no page end crossed. It precedes detail 0x03 also where one misaligned word
would cross the end (log entry 91). -/
def portAddrBad (addr len : Nat) : Bool := !inRegSpace addr || decide (0x1000 < addr % 0x1000 + 4 * len)

/-- What a soft reset waits for comes to its end: the kill of the core's command (R501), the step of the sequencer
(R592). -/
def endsForReset (b : Blk) (s : State) : State :=
  match b with
  | .nc n => killCompleteAt (clusterOf n) s
  | .csq k => stepCloseAt k ((s.clustersOf (s.cseq k).loop).foldl (fun t j => killCompleteAt j t) s)
  | _ => s

/-- One page that holds a write of the port ends its job and takes its held writes (R62, R102). -/
def settleHeld (s : State) : State :=
  match s.held.find? (fun h => h.write.master == .xspi) with
  | none => s
  | some h =>
    match blkOfPage h.page with
    | none => s
    | some b =>
      let s1 := jobDone b (if resetReady b s then s else endsForReset b s)
      (List.range s.held.length).foldl (fun t _ => heldApply b t) s1

/-- Every earlier write of the port completes at its target (R102). -/
def portFlush (s : State) : State :=
  let s1 := winDrainAll s
  (List.range (s1.held.length + 1)).foldl (fun t _ => settleHeld t) s1

/-- The worse of two statuses: the first that is not OK stands. -/
def statusOf (old new : Nat) : Nat := if old = 0 then new else old

/-- The words of a REG_READ, and the status (R95, R98). -/
def readWords (addr : Nat) : Nat → State → State × List Word × Nat
  | 0, s => (s, [], 0)
  | n + 1, s =>
    let bad := match judgeRead s .xspi addr 4 with
      | .reject _ => 2
      | _ => 0
    let r := busRead .xspi addr 4 { s with resp := { s.resp with busErr := false } }
    let st := if bad = 0 ∧ r.1.resp.busErr = true then 4 else bad
    let rest := readWords (addr + 4) n r.1
    (rest.1, r.2 :: rest.2.1, statusOf st rest.2.2)

/-- A read response: status, data (0x00 unless OK), and the CRC trailer with its complement (R96, R98). -/
def respond (st : Nat) (ws : List Word) (crc : Bool) (s : State) : State :=
  let ds := if st = 0 then ws else ws.map (fun _ => 0)
  let c := crc8 (ds.flatMap (fun w => leBytes w.toNat 4))
  let s1 := ({ s with resp := { s.resp with busErr := false } }.status st).answer ds
  if crc then s1.answerBytes [c, ~~~ c] else s1

/-- A write of the port is still held, behind a soft reset that cannot end yet. -/
def State.portWaits (s : State) : Bool := s.held.any (fun h => h.write.master == .xspi)

/-- A REG_READ whose access is `f`: judged by R93 and R94, answered from held data (R99), or begun once every earlier write
has completed (R102, R104). Where one cannot complete, the answer is NOT_READY, and the next REG_READ begins again. -/
def portRead (addr len : Nat) (f : State → State) : State → State :=
  portCmd true (fun s =>
    let s1 := portNext s
    if lenBad len then hpSet 6 s1
    else if portAddrBad addr len then respond 6 (List.replicate len 0) true (portCount s1)
    else
      match s.port.replay.filter (fun r => r.1 == addr && r.2.1 == len) with
      | some r => respond 0 r.2.2 true (portCount s1)
      | none =>
        let s2 := portFlush (portCount s1)
        if s2.portWaits then respond 1 (List.replicate len 0) true s2 else f s2)

/-- The access of a REG_READ (R99). -/
def regReadNow (addr len : Nat) (late : Bool) (s : State) : State :=
  let r := readWords addr len s
  if late then respond 1 r.2.1 true (onPort (fun p => { p with replay := some (addr, len, r.2.1) }) r.1)
  else respond r.2.2 r.2.1 true r.1

/-- REG_READ. -/
def regReadAt (addr len : Nat) (late : Bool) : State → State := portRead addr len (regReadNow addr len late)

/-- The bytes a REG_WRITE's CRC covers: address, most significant byte first, LEN, data (R94-R96). -/
def writeCrc (addr : Nat) (len : Nat) (ws : List Word) : Byte :=
  crc8 ((leBytes addr 4).reverse ++ leBytes len 1 ++ ws.flatMap (fun w => leBytes w.toNat 4))

/-- The words of a REG_WRITE reach consecutive registers. -/
def writeWords (addr : Nat) : List Word → State → State
  | [], s => s
  | w :: ws, s => writeWords (addr + 4) ws (busWrite (wr .xspi addr w) s)

/-- An accepted REG_WRITE: words beyond the FIFO's space are dropped (R101), the rest follow the window's words (R102). -/
def regWriteNow (addr : Nat) (ws : List Word) (s : State) : State :=
  let n := s.fifoFree
  let s1 := if n < ws.length then hpReason 0x0625 (hpSet 1 s) else s
  writeWords addr (ws.take n) (winDrainAll s1)

/-- REG_WRITE. -/
def regWriteAt (addr len : Nat) (ws : List Word) (crc ncrc : Byte) : State → State :=
  portCmd true (fun s =>
    let s1 := portNext s
    if lenBad len then hpSet 6 s1
    else
      let c := writeCrc addr len ws
      let s2 := if crc ≠ c ∨ ncrc ≠ ~~~ c then hpSet 0 s1 else s1
      let s3 := if portAddrBad addr len then hpSet 5 s2 else s2
      if crc ≠ c ∨ ncrc ≠ ~~~ c ∨ portAddrBad addr len = true then s3 else regWriteNow addr ws (portCount s1))

/-- `n` words leave the prefetch buffer. -/
def winPopN : Nat → State → State × List Word
  | 0, s => (s, [])
  | n + 1, s =>
    let r := winPop s
    let q := winPopN n r.1
    (q.1, r.2 :: q.2)

/-- The status of a WIN_READ of `len` words (R98, R106): after a halt (R107) the failure, once the words before it are too
few. -/
def winStatus (len : Nat) (s : State) : Nat :=
  if !(s.winActive && !s.winWrites) && s.port.halted.isNone then 5
  else if len ≤ s.port.prefetch.length then 0
  else s.port.halted.getD 5

/-- WIN_READ (R98, R102, R106). -/
def winReadAt (len : Nat) : State → State :=
  portCmd true (fun s =>
    let s1 := portNext s
    if lenBad len then hpSet 6 s1
    else
      let s2 := portFlush (portCount s1)
      if s2.portWaits then respond 1 (List.replicate len 0) false s2
      else if winStatus len s2 = 0 then
        let r := winPopN len s2
        respond 0 r.2 false r.1
      else respond (winStatus len s2) (List.replicate len 0) false s2)

/-- WIN_WRITE (R122). -/
def winWriteAt (len : Nat) (ws : List Word) : State → State :=
  portCmd true (fun s =>
    let s1 := portNext s
    if lenBad len then hpSet 6 s1 else ws.foldl (fun t w => winPush w t) (portCount s1))

/-- STATUS_READ: HP_STAT and its CRC (R92, R96, R103). -/
def statusReadAt : State → State :=
  portCmd false (fun s =>
    let s1 := portCount (portNext s)
    let w := busView .xspi .hport 0x44 s1
    let c := crc8 (leBytes w.toNat 4)
    (s1.answer [w]).answerBytes [c, ~~~ c])

/-- ID_READ: SYS_PART, then the PG_ID of HPORT (R92). -/
def idReadAt : State → State :=
  portCmd false (fun s =>
    let s1 := portCount (portNext s)
    s1.answer [s1.get .sys 0x40, s1.get .hport 0])

/-- MODE_OCTAL (R90). -/
def modeOctalAt : State → State :=
  portCmd false (fun s => portCount (onPort (fun p => { p with octal := true }) (portNext s)))

/-- RESET_ENABLE (R92). -/
def resetEnableAt : State → State :=
  portCmd false (fun s => portCount (onPort (fun p => { p with armed := true }) (portNext s)))

/-- RESET, valid only directly after RESET_ENABLE (R92, R124). -/
def resetAt : State → State :=
  portCmd false (fun s => if s.port.armed then portReset s else portNext s)

/-- A command the port ignores (R91-R93). -/
def unknownOpcodeAt (op nop len nlen : Byte) : State → State :=
  portCmd false (fun s =>
    let s1 := portNext s
    if s.port.octal && nop != ~~~ op then hpSet 0 s1
    else if (portOp op.toNat).isNone then hpSet 6 s1
    else if s.port.octal && ((portOp op.toNat).map (·.hasLen)).getD false && (lenBad len.toNat || nlen != ~~~ len) then hpSet 6 s1
    else s)

/-- The record of a register access that the target page does not complete (R46); HP_STAT.TIMEOUT for the port (R118). -/
def timeoutRecord (m : Master) (s : State) : State :=
  let s1 := s.raise .sys 0x0111 0 clsTransient []
  if m = .xspi then hpSet 3 s1 else s1

/-- A write of the port that the target page does not complete: the command executes, the word is lost. -/
def portTimeoutWrite : State → State := portCmd true (fun s => timeoutRecord .xspi (portCount (portNext s)))

/-- BUS_TIMEOUT (R46, R98, R118); for the port, of the first register of a REG_READ of `len` words (log entry 92). -/
def busTimeoutAt (m : Master) (addr : Nat) (write : Bool) (len : Nat) (s : State) : State :=
  match blkOf addr with
  | none => s
  | some b =>
    if !reaches s m b then s
    else if m = .xspi then
      if write then portTimeoutWrite s
      else portRead addr len (fun t => respond 3 (List.replicate len 0) true (timeoutRecord .xspi t)) s
    else if write then timeoutRecord m s
    else ((timeoutRecord m s).answer [0]).busError

/-- A read that meets bad parity: the stored value, with a bus error (R45); a word that an injection has marked gives the one
error of the injection (R987). -/
def parityRead (m : Master) (addr : Nat) (s : State) : State × Word :=
  let r := busRead m addr 4 s
  let marked := (s.check.parity.map (·.1)) == some (addr - addr % 4)
  match judgeRead s m addr 4, blkOf addr with
  | .ok, some b => if marked then r else (parityError b addr false r.1, r.2)
  | _, _ => r

/-- PAGE_PARITY_ERROR: a read that meets bad parity (R45); the port answers BUS_ERROR (R98). -/
def parityReadAt (m : Master) (addr : Nat) (s : State) : State :=
  if m = .xspi then
    portRead addr 1 (fun t =>
      let r := parityRead .xspi addr t
      respond (if r.1.resp.busErr then 4 else if judgeRead t .xspi addr 4 = .ok then 0 else 2) [r.2] true r.1) s
  else
    let r := parityRead m addr s
    r.1.answer [r.2]

/-- A write whose effect takes more than the value: `f` in place of the register's own effect. -/
def writeWith (m : Master) (b : Blk) (off : Nat) (v : Word) (f : Word → Word → State → State) (s : State) : State :=
  let w := wr m (b.at off) v
  noteReject w (guarded w f) s

/-- An access that R220, R223, R262, R287, R312 or R836 turns away, if that is what becomes of it. A read returns the data of
a failed read; on a channel it is an address fault (R342) or an access error (R340). -/
def turnedAway (p : Acc → Bool) (g : Agent) (a : Nat) (write : Bool) (s : State) : State :=
  let c := accJudge s g a write
  if p c then
    match g with
    | .cpu (.channel n) => if (s.chan n.val).active.isSome ∨ s.xcRuns n.val = true then accFault n.val a write c s else s
    | _ => let s1 := accFail g a write c s; if write then s1 else s1.answerBytes (c.data 4)
  else s

/-- A DRAM request that reaches a controller which is disabled, or an address beyond DDR_SIZE, is turned away (R220, R254,
R255); any other joins the queue. -/
def requestAt (r : DdrReq) (s : State) : State :=
  let c := accJudge s (reqAgent r) r.addr r.data.isSome
  if c == .miss || c == .ddrOff then turnedAway (fun d => d == c) (reqAgent r) r.addr r.data.isSome s else ddrRequest r s

/-- The master of an access to the register space (R219, R222): such an access is a register access. -/
def regMaster (g : Agent) (a : Nat) : Option Master :=
  match g with
  | .cpu m => if inRegSpace a && reachesRegion g .registers then some m else none
  | _ => none

/-- A load of an agent: the bytes read are the answer, or the words of registers (R44). -/
def loadAt (g : Agent) (a n : Nat) (s : State) : State :=
  match regMaster g a with
  | some m => if n = 8 then readWide m a s else readAt m a n s
  | none =>
    let r := memRead g a n s
    match r.2 with
    | some bs => r.1.answerBytes bs
    | none => r.1.answerBytes (((firstFail s g a n false).map (fun f => f.2.data n)).getD [])

/-- A store; one of 8 bytes to registers is two writes, lower address first (R44). -/
def storeAt (g : Agent) (a : Nat) (bs : List Byte) (s : State) : State :=
  match regMaster g a with
  | some m =>
    if bs.length = 8 then
      busWrite (wr m (a + 4) (wd (leNat (bs.drop 4)))) (busWrite (wr m a (wd (leNat (bs.take 4)))) s)
    else busWrite { master := m, addr := a, size := bs.length, value := wd (leNat bs) } s
  | none => (memWrite g a bs s).1

/-- MEMORY_ACCESS in each of its forms. -/
def memoryAt (x : MemAccess) (s : State) : State :=
  match x with
  | .load g a n => loadAt g a n s
  | .store g a bs => storeAt g a bs s
  | .window => winMove s
  | .elements c n => atAccess c.val false (chanMove c.val n) s
  | .request r => requestAt r s
  | .serve ch => ddrServe ch.val s

/-- CC_JOB_START: a job of a command that a trap ends kills the command (R283, R288). -/
def ccStartAt (s : State) : State :=
  let r := ccStart s
  match r.2 with
  | some agent => slotOrderKill (agent - 0x10) r.1
  | none => r.1

end Sys2Proof.Machine
end

