-- ==== Sys2Proof/Machine/RowsControl.lean ====
section
/-! DEFINITION. The commands of the control plane and of device time (02, 03). Each command has a meaning of its own. -/

namespace Sys2Proof.Machine

/-- The address of a register of a page number. -/
def pageReg (page off : Nat) : Nat := regBase + page * 0x1000 + off

/-- A page's job ends, if it is a check (`check`) or a soft reset, and the page is present. -/
def pageJobDone (check : Bool) (page : Nat) (s : State) : State :=
  match blkOfPage page, s.jobs.get? page with
  | some b, some .check => if check && s.present b then jobDone b s else s
  | some b, some (.units _) => if check && s.present b then jobDone b s else s
  | some b, some (.reset _) => if !check && s.present b then jobDone b s else s
  | _, _ => s

/-- The oldest held write of a page, by page number. -/
def pageHeldApply (page : Nat) (s : State) : State :=
  match blkOfPage page with
  | some b => heldApply b s
  | none => s

/-- A register read of 8, 16, 32 or 64 bits. -/
def regReadCmd (m : Master) (addr size : Nat) (s : State) : State :=
  if size = 8 then readWide m addr s else readAt m addr size s

/-- REGISTER_WRITE (R57, R71-R77). -/
def execRegisterWrite (x : BusCycle) (s : State) : Host.Outcome State Fault Refusal :=
  run (cycleAt x.writes x.reads) s

/-- ENABLE (R58, R63, R70). -/
def execEnable (m : Master) (page : Nat) (s : State) : Host.Outcome State Fault Refusal :=
  run (busWrite (wr m (pageReg page offCtrl) 1)) s

/-- The check of a page or its contexts, a channel, a ring or a sample stream completes. -/
def checkUnitDone (x : CheckUnit) (s : State) : State :=
  match x with
  | .page n => pageJobDone true n s
  | .channel c => chanCheckDone c.val s
  | .ring q => ringCheckDone q.val s
  | .stream i => spCheckDone i.val s

/-- ENABLE_CHECK_DONE (R59-R61, R128, R361, R399, R746, R782, R822). -/
def execEnableCheckDone (x : CheckUnit) (s : State) : Host.Outcome State Fault Refusal :=
  run (checkUnitDone x) s

/-- DISABLE (R64). -/
def execDisable (m : Master) (page : Nat) (s : State) : Host.Outcome State Fault Refusal :=
  run (busWrite (wr m (pageReg page offCtrl) 0)) s

/-- SOFT_RST (R66, R67). -/
def execSoftRst (m : Master) (page : Nat) (v : Word) (s : State) : Host.Outcome State Fault Refusal :=
  run (busWrite (wr m (pageReg page offCtrl) (v ||| 2))) s

/-- SOFT_RST_DONE (R66, R68). -/
def execSoftRstDone (page : Nat) (s : State) : Host.Outcome State Fault Refusal :=
  run (pageJobDone false page) s

/-- HELD_WRITE_APPLY (R62). -/
def execHeldWriteApply (page : Nat) (s : State) : Host.Outcome State Fault Refusal :=
  run (pageHeldApply page) s

/-- OWNER_WRITE (R52, R54). -/
def execOwnerWrite (m : Master) (page : Nat) (v : Word) (s : State) : Host.Outcome State Fault Refusal :=
  run (busWrite (wr m (pageReg page offOwner) v)) s

/-- LOCK_KEY (R53). -/
def execLockKey (m : Master) (page : Nat) (v : Word) (s : State) : Host.Outcome State Fault Refusal :=
  run (busWrite (wr m (pageReg page offKey) v)) s

/-- BUS_TIMEOUT (R46). -/
def execBusTimeout (m : Master) (addr : Nat) (x : LateAccess) (s : State) : Host.Outcome State Fault Refusal :=
  run (busTimeoutAt m addr x.write x.len) s

/-- PAGE_PARITY_ERROR (R45). -/
def execPageParityError (m : Master) (addr : Nat) (s : State) : Host.Outcome State Fault Refusal :=
  run (parityReadAt m addr) s

/-- ACQUIRE (R78). -/
def execAcquire (m : Master) (n : Fin 64) (s : State) : Host.Outcome State Fault Refusal :=
  run (writeAt m .lock (lockOff n.val) 0x100) s

/-- RELEASE (R80, R84). -/
def execRelease (m : Master) (n : Fin 64) (s : State) : Host.Outcome State Fault Refusal :=
  run (writeAt m .lock (lockOff n.val) 0x200) s

/-- ACK (R80, R83). -/
def execAck (m : Master) (n : Fin 64) (s : State) : Host.Outcome State Fault Refusal :=
  run (writeAt m .lock (lockOff n.val) 0x400) s

/-- HOST_DOMAIN_WRITE (R87-R89). -/
def execHostDomainWrite (m : Master) (v : Word) (s : State) : Host.Outcome State Fault Refusal :=
  run (writeAt m .sys 0x44 v) s

/-- REG_READ (R94, R98, R99, R102). -/
def execRegRead (addr : Word) (len : Nat) (late : Bool) (s : State) : Host.Outcome State Fault Refusal :=
  run (regReadAt addr.toNat len late) s

/-- REG_WRITE (R94-R97, R101). -/
def execRegWrite (addr : Word) (len : Nat) (data : List Word) (crc ncrc : Byte) (s : State) : Host.Outcome State Fault Refusal :=
  run (regWriteAt addr.toNat len data crc ncrc) s

/-- WIN_READ (R106). -/
def execWinRead (len : Nat) (s : State) : Host.Outcome State Fault Refusal :=
  run (winReadAt len) s

/-- WIN_WRITE (R101, R122). -/
def execWinWrite (len : Nat) (data : List Word) (s : State) : Host.Outcome State Fault Refusal :=
  run (winWriteAt len data) s

/-- STATUS_READ (R103). -/
def execStatusRead (s : State) : Host.Outcome State Fault Refusal :=
  run statusReadAt s

/-- ID_READ (R92). -/
def execIdRead (s : State) : Host.Outcome State Fault Refusal :=
  run idReadAt s

/-- MODE_OCTAL (R90). -/
def execModeOctal (s : State) : Host.Outcome State Fault Refusal :=
  run modeOctalAt s

/-- RESET_ENABLE (R92). -/
def execResetEnable (s : State) : Host.Outcome State Fault Refusal :=
  run resetEnableAt s

/-- RESET (R124). -/
def execReset (s : State) : Host.Outcome State Fault Refusal :=
  run resetAt s

/-- XSPI_UNKNOWN_OPCODE (R91-R93). -/
def execXspiUnknownOpcode (op nop len nlen : Byte) (s : State) : Host.Outcome State Fault Refusal :=
  run (unknownOpcodeAt op nop len nlen) s

/-- WINDOW_START (R106, R120, R121). -/
def execWindowStart (m : Master) (v : Word) (s : State) : Host.Outcome State Fault Refusal :=
  run (writeAt m .hport 0x54 v) s

/-- WINDOW_STOP (R123). -/
def execWindowStop (m : Master) (v : Word) (s : State) : Host.Outcome State Fault Refusal :=
  run (writeAt m .hport 0x54 (v ||| 4)) s

/-- HP_WIN_DATA_WRITE (R122). -/
def execHpWinDataWrite (m : Master) (v : Word) (s : State) : Host.Outcome State Fault Refusal :=
  run (writeAt m .hport 0x58 v) s

/-- HP_WIN_DATA_READ (R106, R118). -/
def execHpWinDataRead (m : Master) (s : State) : Host.Outcome State Fault Refusal :=
  run (readAt m (Blk.hport.at 0x58) 4) s

/-- WINDOW_ACCESS_FAIL (R107). -/
def execWindowAccessFail (why : WinFail) (s : State) : Host.Outcome State Fault Refusal :=
  run (winFailAt why) s

/-- WINDOW_COUNT_DONE (R122). -/
def execWindowCountDone (s : State) : Host.Outcome State Fault Refusal :=
  run winDoneAt s

/-- REGISTER_READ (R43, R44, R50, R56). -/
def execRegisterRead (m : Master) (addr size : Nat) (s : State) : Host.Outcome State Fault Refusal :=
  run (regReadCmd m addr size) s

/-- AO_TICK (R132). -/
def execAoTick (s : State) : Host.Outcome State Fault Refusal :=
  runTime tickTime id s

/-- FINE_STROBE (R133). -/
def execFineStrobe (s : State) : Host.Outcome State Fault Refusal :=
  runTime strobeTime id s

/-- SYNTHESISED_TICK (R157). -/
def execSynthesisedTick (s : State) : Host.Outcome State Fault Refusal :=
  runTime lostTime synthesisedTickAt s

/-- TIME_DT_LO_READ (R141). -/
def execTimeDtLoRead (m : Master) (s : State) : Host.Outcome State Fault Refusal :=
  run (readAt m (Blk.time.at 0x40) 4) s

/-- TIME_DT_HI_READ (R142). -/
def execTimeDtHiRead (m : Master) (s : State) : Host.Outcome State Fault Refusal :=
  run (readAt m (Blk.time.at 0x44) 4) s

/-- CMP_LO_WRITE (R151). -/
def execCmpLoWrite (m : Master) (n : Fin 8) (v : Word) (s : State) : Host.Outcome State Fault Refusal :=
  run (writeAt m .time (cmpOff n.val) v) s

/-- CMP_HI_WRITE (R151). -/
def execCmpHiWrite (m : Master) (n : Fin 8) (v : Word) (s : State) : Host.Outcome State Fault Refusal :=
  run (writeAt m .time (cmpOff n.val + 4) v) s

/-- CMP_CTRL_WRITE (R149, R151, R153). -/
def execCmpCtrlWrite (m : Master) (n : Fin 8) (v : Word) (s : State) : Host.Outcome State Fault Refusal :=
  run (writeAt m .time (cmpOff n.val + 0xC) v) s

/-- CMP_PERIOD_WRITE (R153). -/
def execCmpPeriodWrite (m : Master) (n : Fin 8) (v : Word) (s : State) : Host.Outcome State Fault Refusal :=
  run (writeAt m .time (cmpOff n.val + 8) v) s

/-- COMPARATOR_FIRE (R152-R155). -/
def execComparatorFire (n : Fin 8) (s : State) : Host.Outcome State Fault Refusal :=
  run (comparatorFireAt n.val) s

/-- CMP_STAT_READ (R149). -/
def execCmpStatRead (m : Master) (n : Fin 8) (s : State) : Host.Outcome State Fault Refusal :=
  run (readAt m (Blk.time.at (cmpOff n.val + 0x10)) 4) s

end Sys2Proof.Machine
end

