-- ==== Sys2Proof/Machine/RowsFirmware.lean ====
section
/-! DEFINITION. The commands of firmware, management and checking (19, 20). Each command has a meaning of its own. -/

namespace Sys2Proof.Machine

/-- A message whose body has no effect on its answer. -/
def answerMctp (f : State → State) (_msg : Mctp) (s : State) : State := f s

/-- SENSOR_SAMPLE (R881). -/
def execSensorSample (temps : List Int) (mvs : List Nat) (s : State) : Host.Outcome State Fault Refusal :=
  run (sensorSampleAt temps mvs) s

/-- WATCHDOG_KICK (R899). -/
def execWatchdogKick (m : Master) (v : Word) (s : State) : Host.Outcome State Fault Refusal :=
  run (writeAt m .fw 0xB0 v) s

/-- WATCHDOG_EXPIRY (R900). -/
def execWatchdogExpiry (c : Fin 6) (pair : Fin 4) (s : State) : Host.Outcome State Fault Refusal :=
  run (watchdogAt c.val pair.val) s

/-- FW_READY (R890). -/
def execFwReady (m : Master) (v : Word) (s : State) : Host.Outcome State Fault Refusal :=
  run (writeAt m .fw 0xB4 v) s

/-- FW_SEL_WRITE (R909). -/
def execFwSelWrite (m : Master) (v : Word) (s : State) : Host.Outcome State Fault Refusal :=
  run (writeAt m .fw 0x4C v) s

/-- GET_FW (R914). -/
def execGetFw (p : Fin 4) (s : State) : Host.Outcome State Fault Refusal :=
  run (getFwAt p.val) s

/-- GET_DIGEST (R914). -/
def execGetDigest (p : Fin 4) (s : State) : Host.Outcome State Fault Refusal :=
  run (getDigestAt p.val) s

/-- GET_SENSORS (R914). -/
def execGetSensors (p : Fin 4) (s : State) : Host.Outcome State Fault Refusal :=
  run (getSensorsAt p.val) s

/-- GET_LOG (R914). -/
def execGetLog (p : Fin 4) (s : State) : Host.Outcome State Fault Refusal :=
  run (getLogAt p.val) s

/-- SLEEP (R915). -/
def execSleep (p : Fin 4) (s : State) : Host.Outcome State Fault Refusal :=
  run (sleepAt p.val) s

/-- UNKNOWN_CMD (R914). -/
def execUnknownCmd (p : Fin 4) (s : State) : Host.Outcome State Fault Refusal :=
  run (unknownCmdAt p.val) s

/-- SET_ENDPOINT_ID (R917). -/
def execSetEndpointId (msg : Mctp) (s : State) : Host.Outcome State Fault Refusal :=
  run (setEidAt msg) s

/-- GET_ENDPOINT_ID (R917). -/
def execGetEndpointId (msg : Mctp) (s : State) : Host.Outcome State Fault Refusal :=
  run (answerMctp getEidAt msg) s

/-- GET_ENDPOINT_UUID (R917). -/
def execGetEndpointUuid (msg : Mctp) (s : State) : Host.Outcome State Fault Refusal :=
  run (answerMctp getUuidAt msg) s

/-- GET_MCTP_VERSION_SUPPORT (R917). -/
def execGetMctpVersionSupport (msg : Mctp) (s : State) : Host.Outcome State Fault Refusal :=
  run (getMctpVersionAt msg) s

/-- GET_MESSAGE_TYPE_SUPPORT (R917). -/
def execGetMessageTypeSupport (msg : Mctp) (s : State) : Host.Outcome State Fault Refusal :=
  run (answerMctp getTypesAt msg) s

/-- GET_VENDOR_DEFINED_MESSAGE_SUPPORT (R917). -/
def execGetVendorDefinedMessageSupport (msg : Mctp) (s : State) : Host.Outcome State Fault Refusal :=
  run (getVdmSupportAt msg) s

/-- GET_TID (R918). -/
def execGetTid (msg : Mctp) (s : State) : Host.Outcome State Fault Refusal :=
  run (getTidAt msg) s

/-- SET_TID (R918). -/
def execSetTid (msg : Mctp) (s : State) : Host.Outcome State Fault Refusal :=
  run (setTidAt msg) s

/-- GET_PLDM_VERSION (R918). -/
def execGetPldmVersion (msg : Mctp) (s : State) : Host.Outcome State Fault Refusal :=
  run (getPldmVersionAt msg) s

/-- GET_PLDM_TYPES (R918). -/
def execGetPldmTypes (msg : Mctp) (s : State) : Host.Outcome State Fault Refusal :=
  run (getPldmTypesAt msg) s

/-- GET_PLDM_COMMANDS (R918). -/
def execGetPldmCommands (msg : Mctp) (s : State) : Host.Outcome State Fault Refusal :=
  run (getPldmCommandsAt msg) s

/-- SET_EVENT_RECEIVER (R918). -/
def execSetEventReceiver (msg : Mctp) (s : State) : Host.Outcome State Fault Refusal :=
  run (setEventReceiverAt msg) s

/-- GET_SENSOR_READING (R919). -/
def execGetSensorReading (msg : Mctp) (s : State) : Host.Outcome State Fault Refusal :=
  run (getSensorReadingAt msg) s

/-- SET_NUMERIC_SENSOR_ENABLE (R918). -/
def execSetNumericSensorEnable (msg : Mctp) (s : State) : Host.Outcome State Fault Refusal :=
  run (setSensorEnableAt msg) s

/-- GET_PDR_REPOSITORY_INFO (R918). -/
def execGetPdrRepositoryInfo (msg : Mctp) (s : State) : Host.Outcome State Fault Refusal :=
  run (getPdrInfoAt msg) s

/-- GET_PDR (R919). -/
def execGetPdr (msg : Mctp) (s : State) : Host.Outcome State Fault Refusal :=
  run (getPdrAt msg) s

/-- QUERY_DEVICE_IDENTIFIERS (R920). -/
def execQueryDeviceIdentifiers (msg : Mctp) (s : State) : Host.Outcome State Fault Refusal :=
  run (queryDeviceAt msg) s

/-- GET_FIRMWARE_PARAMETERS (R920). -/
def execGetFirmwareParameters (msg : Mctp) (s : State) : Host.Outcome State Fault Refusal :=
  run (getParamsAt msg) s

/-- REQUEST_UPDATE (R921). -/
def execRequestUpdate (msg : Mctp) (s : State) : Host.Outcome State Fault Refusal :=
  run (requestUpdateAt msg) s

/-- PASS_COMPONENT_TABLE (R918). -/
def execPassComponentTable (msg : Mctp) (s : State) : Host.Outcome State Fault Refusal :=
  run (passTableAt msg) s

/-- UPDATE_COMPONENT (R921). -/
def execUpdateComponent (msg : Mctp) (s : State) : Host.Outcome State Fault Refusal :=
  run (updateComponentAt msg) s

/-- REQUEST_FIRMWARE_DATA (R921). -/
def execRequestFirmwareData (msg : Mctp) (s : State) : Host.Outcome State Fault Refusal :=
  run (firmwareDataAt msg) s

/-- ACTIVATE_FIRMWARE (R922). -/
def execActivateFirmware (msg : Mctp) (s : State) : Host.Outcome State Fault Refusal :=
  run (activateAt msg) s

/-- GET_STATUS (R918). -/
def execGetStatus (msg : Mctp) (s : State) : Host.Outcome State Fault Refusal :=
  run (getStatusAt msg) s

/-- CANCEL_UPDATE_COMPONENT (R918). -/
def execCancelUpdateComponent (msg : Mctp) (s : State) : Host.Outcome State Fault Refusal :=
  run (cancelComponentAt msg) s

/-- CANCEL_UPDATE (R918). -/
def execCancelUpdate (msg : Mctp) (s : State) : Host.Outcome State Fault Refusal :=
  run (cancelUpdateAt msg) s

/-- UPDATE_TIMEOUT (R923). -/
def execUpdateTimeout (s : State) : Host.Outcome State Fault Refusal :=
  run updateTimeoutAt s

/-- ERROR_REPORT (R927). -/
def execErrorReport (msg : Mctp) (s : State) : Host.Outcome State Fault Refusal :=
  run (errorReportAt msg) s

/-- ERROR_REPORT_RESEND (R927). -/
def execErrorReportResend (s : State) : Host.Outcome State Fault Refusal :=
  run reportResendAt s

/-- VDM_GET_LOG (R925). -/
def execVdmGetLog (msg : Mctp) (s : State) : Host.Outcome State Fault Refusal :=
  run (vdmGetLogAt msg) s

/-- GET_FW_STATE (R925). -/
def execGetFwState (msg : Mctp) (s : State) : Host.Outcome State Fault Refusal :=
  run (getFwStateAt msg) s

/-- VDM_GET_DIGEST (R925). -/
def execVdmGetDigest (msg : Mctp) (s : State) : Host.Outcome State Fault Refusal :=
  run (vdmGetDigestAt msg) s

/-- GET_POLICY (R925). -/
def execGetPolicy (msg : Mctp) (s : State) : Host.Outcome State Fault Refusal :=
  run (getPolicyAt msg) s

/-- SET_POLICY (R926). -/
def execSetPolicy (msg : Mctp) (s : State) : Host.Outcome State Fault Refusal :=
  run (setPolicyAt msg) s

/-- RESTART (R925). -/
def execRestart (msg : Mctp) (boot : Boot) (s : State) : Host.Outcome State Fault Refusal :=
  run (restartAt msg boot) s

/-- DYNAMIC_ADDRESS_ASSIGN (R916). -/
def execDynamicAddressAssign (addr : Fin 128) (i3c : Bool) (s : State) : Host.Outcome State Fault Refusal :=
  run (addressAt addr.val i3c) s

/-- MCTP_PACKET_DROP (R917). -/
def execMctpPacketDrop (s : State) : Host.Outcome State Fault Refusal :=
  run mctpDropAt s

/-- OUTPUT_DIVERGENCE (R947). -/
def execOutputDivergence (pair : Fin 6) (group : Fin 3) (main chk : Word) (s : State) : Host.Outcome State Fault Refusal :=
  run (outputDivergenceAt pair.val group.val main chk) s

/-- SCRUB_POINT (R949). -/
def execScrubPoint (pair : Fin 6) (diff : Option (Fin 41 × Word × Word)) (s : State) : Host.Outcome State Fault Refusal :=
  run (scrubAt pair.val (diff.map (fun d => (d.1.val, d.2)))) s

/-- ERROR_RECORD_ENTRY (R964). -/
def execErrorRecordEntry (s : State) : Host.Outcome State Fault Refusal :=
  run recordEntryAt s

/-- MIRROR_ENTRY (R969). -/
def execMirrorEntry (s : State) : Host.Outcome State Fault Refusal :=
  run mirrorEntryAt s

/-- POP (R968). -/
def execPop (m : Master) (v : Word) (s : State) : Host.Outcome State Fault Refusal :=
  run (writeAt m .err 0x4C v) s

/-- RAISE_GO (R971). -/
def execRaiseGo (m : Master) (v : Word) (s : State) : Host.Outcome State Fault Refusal :=
  run (writeAt m .err 0x90 v) s

/-- ERR_INJ_ARM (R972). -/
def execErrInjArm (m : Master) (v : Word) (s : State) : Host.Outcome State Fault Refusal :=
  run (writeAt m .err 0xC0 v) s

/-- INJECTION_FIRE (R972). -/
def execInjectionFire (s : State) : Host.Outcome State Fault Refusal :=
  run injectionFireAt s

/-- CONTROL_MEMORY_PARITY (R979). -/
def execControlMemoryParity (g : Agent) (addr : Nat) (s : State) : Host.Outcome State Fault Refusal :=
  run (controlParityAt g addr) s

end Sys2Proof.Machine
end

