-- ==== Sys2Proof/Machine/RowsGate.lean ====
section
/-! DEFINITION. The commands of the Gatehouse (18). Each command has a meaning of its own. -/

namespace Sys2Proof.Machine

/-- KWS_HOP (R845). -/
def execKwsHop (s : State) : Host.Outcome State Fault Refusal :=
  run kwsHopAt s

/-- AUDIO_FRAME (R838). -/
def execAudioFrame (ch0 ch1 : List Bool) (s : State) : Host.Outcome State Fault Refusal :=
  run (audioFrameAt ch0 ch1) s

/-- KWS_ENABLE (R870). -/
def execKwsEnable (m : Master) (v : Word) (s : State) : Host.Outcome State Fault Refusal :=
  run (writeAt m .kws 0x40 v) s

/-- KWS_DISABLE (R870). -/
def execKwsDisable (m : Master) (v : Word) (s : State) : Host.Outcome State Fault Refusal :=
  run (writeAt m .kws 0x40 v) s

/-- FW_WAKE (R849). -/
def execFwWake (m : Master) (v : Word) (s : State) : Host.Outcome State Fault Refusal :=
  run (writeAt m .gate 0x58 v) s

/-- GPIO_WAKE_EDGE (R849). -/
def execGpioWakeEdge (i : Fin 8) (rising : Bool) (s : State) : Host.Outcome State Fault Refusal :=
  run (gpioWakeAt i.val rising) s

/-- ALARM_ARM (R850). -/
def execAlarmArm (m : Master) (v : Word) (s : State) : Host.Outcome State Fault Refusal :=
  run (writeAt m .gate 0x60 v) s

/-- WAKE_ALARM (R850). -/
def execWakeAlarm (s : State) : Host.Outcome State Fault Refusal :=
  run wakeAlarmAt s

/-- WAKE_REASON_RECORD (R852). -/
def execWakeReasonRecord (s : State) : Host.Outcome State Fault Refusal :=
  run wakeRecordAt s

/-- LINK_MESSAGE (R857). -/
def execLinkMessage (toMain intact : Bool) (s : State) : Host.Outcome State Fault Refusal :=
  run (linkMessageAt toMain intact) s

/-- LINK_TRANSFER_TIMEOUT (R858). -/
def execLinkTransferTimeout (toMain : Bool) (s : State) : Host.Outcome State Fault Refusal :=
  run (linkTimeoutAt toMain) s

/-- LINK_TOKEN (R859). -/
def execLinkToken (toMain : Bool) (s : State) : Host.Outcome State Fault Refusal :=
  run (linkTokenAt toMain) s

/-- LINK_TOKEN_PERIOD (R859). -/
def execLinkTokenPeriod (toMain : Bool) (s : State) : Host.Outcome State Fault Refusal :=
  run (linkPeriodAt toMain) s

/-- LINK_RESET_ATTEMPT (R860). -/
def execLinkResetAttempt (s : State) : Host.Outcome State Fault Refusal :=
  run linkAttemptAt s

/-- LINK_ATTEMPT_END (R860). -/
def execLinkAttemptEnd (ok : Bool) (s : State) : Host.Outcome State Fault Refusal :=
  run (linkEndAt ok) s

/-- GT_LINK_RESET (R868). -/
def execGtLinkReset (m : Master) (v : Word) (s : State) : Host.Outcome State Fault Refusal :=
  run (writeAt m .gate 0x6C v) s

/-- MQ_APPEND (R857). -/
def execMqAppend (m : Master) (v : Word) (s : State) : Host.Outcome State Fault Refusal :=
  run (writeAt m .gate 0x74 v) s

/-- MQ_HEAD_WRITE (R862). -/
def execMqHeadWrite (m : Master) (v : Word) (s : State) : Host.Outcome State Fault Refusal :=
  run (writeAt m .gate 0x70 v) s

/-- GATEHOUSE_CORE_RESET (R837). -/
def execGatehouseCoreReset (m : Master) (v : Word) (s : State) : Host.Outcome State Fault Refusal :=
  run (writeAt m .gate 0x44 v) s

/-- PROTECTED_SRAM_WRITE (R836). -/
def execProtectedSramWrite (g : Agent) (addr : Nat) (s : State) : Host.Outcome State Fault Refusal :=
  run (turnedAway (fun c => c == .gate) g addr true) s

/-- AOI3C_POLL (R865, R866). -/
def execAoi3cPoll (slot : Fin 8) (data : Option (List Byte)) (s : State) : Host.Outcome State Fault Refusal :=
  run (aiPollAt slot.val data) s

/-- AOI3C_IBI (R865). -/
def execAoi3cIbi (slot : Fin 8) (s : State) : Host.Outcome State Fault Refusal :=
  run (aiIbiAt slot.val) s

/-- AI_CMD (R864). -/
def execAiCmd (m : Master) (v : Word) (reply : Option (List Byte)) (s : State) : Host.Outcome State Fault Refusal :=
  run (writeWith m .aoi 0x44 v (fun _ _ => aiCmdAt reply)) s

end Sys2Proof.Machine
end

