-- ==== Sys2Proof/Machine/RowsMedia.lean ====
section
/-! DEFINITION. The commands of the camera, the codecs and the sample pipeline (15-17). Each command has a meaning of its own. -/

namespace Sys2Proof.Machine

/-- A start-of-transmission error on a lane that the port uses. -/
def laneErrorAt (p lane : Nat) (s : State) : State :=
  if lane < 2 ^ s.getF (.csi p) 0x40 1 0 then sotErrorAt p s else s

/-- A short packet; its virtual channel makes no difference. -/
def shortPacketAt (p _vc dt : Nat) (s : State) : State := genericShortAt p dt s

/-- FRAME_START (R728). -/
def execFrameStart (p : Fin 4) (vc : Fin 16) (num : Nat) (fixed : Bool) (s : State) : Host.Outcome State Fault Refusal :=
  run (frameStartAt p.val vc.val num fixed) s

/-- FRAME_END (R729). -/
def execFrameEnd (p : Fin 4) (vc : Fin 16) (_num : Nat) (fixed : Bool) (s : State) : Host.Outcome State Fault Refusal :=
  run (frameEndAt p.val vc.val fixed) s

/-- LONG_PACKET (R726). -/
def execLongPacket (p : Fin 4) (pk : LongPacket) (s : State) : Host.Outcome State Fault Refusal :=
  run (longPacketAt p.val pk) s

/-- HEADER_UNCORRECTABLE (R725). -/
def execHeaderUncorrectable (p : Fin 4) (s : State) : Host.Outcome State Fault Refusal :=
  run (headerBadAt p.val) s

/-- FRAME_TIMEOUT (R729). -/
def execFrameTimeout (p c : Fin 4) (s : State) : Host.Outcome State Fault Refusal :=
  run (frameTimeoutAt p.val c.val) s

/-- FRAME_PUBLISH (R730). -/
def execFramePublish (p c : Fin 4) (s : State) : Host.Outcome State Fault Refusal :=
  run (framePublishAt p.val c.val) s

/-- CONTEXT_ENABLE (R746). -/
def execContextEnable (m : Master) (p c : Fin 4) (v : Word) (s : State) : Host.Outcome State Fault Refusal :=
  run (writeAt m (.csi p.val) (cxOff c.val 0) v) s

/-- CONTEXT_DISABLE (R729). -/
def execContextDisable (m : Master) (p c : Fin 4) (v : Word) (s : State) : Host.Outcome State Fault Refusal :=
  run (writeAt m (.csi p.val) (cxOff c.val 0) v) s

/-- DPHY_SOT_ERROR (R748). -/
def execDphySotError (p lane : Fin 4) (s : State) : Host.Outcome State Fault Refusal :=
  run (laneErrorAt p.val lane.val) s

/-- DESKEW_SEQUENCE (R720). -/
def execDeskewSequence (p : Fin 4) (s : State) : Host.Outcome State Fault Refusal :=
  run (deskewAt p.val) s

/-- ULPS_ENTRY (R720). -/
def execUlpsEntry (p : Fin 4) (s : State) : Host.Outcome State Fault Refusal :=
  run (ulpsAt p.val true) s

/-- ULPS_EXIT (R720). -/
def execUlpsExit (p : Fin 4) (s : State) : Host.Outcome State Fault Refusal :=
  run (ulpsAt p.val false) s

/-- GENERIC_SHORT_PACKET (R722): the same on every virtual channel. -/
def execGenericShortPacket (p : Fin 4) (vc : Fin 16) (dt : Fin 64) (s : State) : Host.Outcome State Fault Refusal :=
  run (shortPacketAt p.val vc.val dt.val) s

/-- BITSTREAM_CHUNK (R760). -/
def execBitstreamChunk (units : Nat) (part : Option PictureOut) (s : State) : Host.Outcome State Fault Refusal :=
  run (atEntry 96 (bitstreamChunkAt units part)) s

/-- PICTURE_DECODE (R758). -/
def execPictureDecode (i : Fin 4) (o : PictureOut) (s : State) : Host.Outcome State Fault Refusal :=
  run (pictureDecodeAt i.val o) s

/-- DECODED_FRAME_PUBLISH (R763). -/
def execDecodedFramePublish (i : Fin 4) (s : State) : Host.Outcome State Fault Refusal :=
  run (decodedPublishAt i.val) s

/-- VDEC_STREAM_ENABLE (R782). -/
def execVdecStreamEnable (m : Master) (i : Fin 4) (v : Word) (s : State) : Host.Outcome State Fault Refusal :=
  run (writeAt m .vdec (vsOff i.val 0) v) s

/-- VDEC_STREAM_DISABLE (R787). -/
def execVdecStreamDisable (m : Master) (i : Fin 4) (v : Word) (s : State) : Host.Outcome State Fault Refusal :=
  run (writeAt m .vdec (vsOff i.val 0) v) s

/-- SOURCE_FRAME (R771). -/
def execSourceFrame (s : State) : Host.Outcome State Fault Refusal :=
  run (atEntry 101 sourceFrameAt) s

/-- ENCODED_UNIT (R771). -/
def execEncodedUnit (u : UnitOut) (s : State) : Host.Outcome State Fault Refusal :=
  run (encodedUnitAt u) s

/-- JPEG_JOB (R776). -/
def execJpegJob (s : State) : Host.Outcome State Fault Refusal :=
  run (atEntry 103 jpegJobAt) s

/-- JPEG_JOB_DONE (R779). -/
def execJpegJobDone (o : JpegOut) (s : State) : Host.Outcome State Fault Refusal :=
  run (jpegDoneAt o) s

/-- SAMPLE_TAKE (R796). -/
def execSampleTake (i : Fin 16) (s : State) : Host.Outcome State Fault Refusal :=
  run (atEntry (s.spSrc i.val) (sampleTakeAt i.val)) s

/-- SAMPLE_COMPLETE (R811). -/
def execSampleComplete (i : Fin 16) (s : State) : Host.Outcome State Fault Refusal :=
  run (sampleCompleteAt i.val) s

/-- BATCH_TIMEOUT (R811). -/
def execBatchTimeout (i : Fin 16) (s : State) : Host.Outcome State Fault Refusal :=
  run (batchTimeoutAt i.val) s

/-- BATCH_PUBLISH (R815). -/
def execBatchPublish (i : Fin 16) (s : State) : Host.Outcome State Fault Refusal :=
  run (batchPublishAt i.val) s

/-- DROP_RECORD_PUBLISH (R816). -/
def execDropRecordPublish (i : Fin 16) (s : State) : Host.Outcome State Fault Refusal :=
  run (dropPublishAt i.val) s

/-- DROP_RUN_TIMEOUT (R816). -/
def execDropRunTimeout (i : Fin 16) (s : State) : Host.Outcome State Fault Refusal :=
  run (dropRunTimeoutAt i.val) s

/-- SPL_STREAM_ENABLE (R822). -/
def execSplStreamEnable (m : Master) (i : Fin 16) (v : Word) (s : State) : Host.Outcome State Fault Refusal :=
  run (writeAt m .spl (spOff i.val 0) v) s

/-- SPL_STREAM_DISABLE (R825). -/
def execSplStreamDisable (m : Master) (i : Fin 16) (v : Word) (s : State) : Host.Outcome State Fault Refusal :=
  run (writeAt m .spl (spOff i.val 0) v) s

end Sys2Proof.Machine
end

