-- ==== Sys2Proof/Machine/RowsMemory.lean ====
section
/-! DEFINITION. The commands of memory, DRAM, the Orangery, the transfer engine and the rings (05-08). Each command has a meaning of its own. -/

namespace Sys2Proof.Machine

/-- A denial of the firewall. -/
def isDeny (c : Acc) : Bool :=
  match c with
  | .deny _ => true
  | _ => false

/-- A narrow-only burst of the bank that holds an offset, its group in WIDEFIRST mode, counted in ORA_FORCE_CNT. -/
def narrowAt (off : Nat) (s : State) : State :=
  if s.present .ora && s.enabled .ora && decide (off < s.part.oraSize) && s.getB .ora 0x48 (oraGroup (oraBank s.part off)) then
    s.count .ora 0x64 1
  else s

/-- DECODE_MISS (R220, R254). -/
def execDecodeMiss (g : Agent) (addr : Nat) (write : Bool) (s : State) : Host.Outcome State Fault Refusal :=
  run (turnedAway (fun c => c == .miss || c == .ddrOff) g addr write) s

/-- FIREWALL_DENY (R223, R896). -/
def execFirewallDeny (g : Agent) (addr : Nat) (write : Bool) (s : State) : Host.Outcome State Fault Refusal :=
  run (turnedAway isDeny g addr write) s

/-- TRAINING_START (R252). -/
def execTrainingStart (m : Master) (v : Word) (s : State) : Host.Outcome State Fault Refusal :=
  run (writeAt m .ddrphy 0x40 v) s

/-- TRAINING_END (R231-R233). -/
def execTrainingEnd (e : TrainEnd) (s : State) : Host.Outcome State Fault Refusal :=
  run (trainingEndAt e) s

/-- TRACKING_RUN (R236). -/
def execTrackingRun (ch : Fin 2) (inside : Bool) (s : State) : Host.Outcome State Fault Refusal :=
  run (trackingAt ch.val inside) s

/-- REFRESH (R237). -/
def execRefresh (ch : Fin 2) (s : State) : Host.Outcome State Fault Refusal :=
  run (refreshAt ch.val) s

/-- MR4_READ (R238). -/
def execMr4Read (code : Fin 8) (s : State) : Host.Outcome State Fault Refusal :=
  run (mr4At code.val) s

/-- POWER_DOWN_ENTRY (R239). -/
def execPowerDownEntry (ch : Fin 2) (s : State) : Host.Outcome State Fault Refusal :=
  run (powerDownAt ch.val) s

/-- AGE_PROMOTION (R244). -/
def execAgePromotion (i : Nat) (s : State) : Host.Outcome State Fault Refusal :=
  run (agePromoteAt i) s

/-- ORANGERY_OUT_OF_RANGE (R262, R312). -/
def execOrangeryOutOfRange (g : Agent) (off : Nat) (write : Bool) (s : State) : Host.Outcome State Fault Refusal :=
  run (turnedAway (fun c => c == .oraMiss || c == .oraOff) g (oraBase + off) write) s

/-- MODEL_CACHE_PROTECT (R287). -/
def execModelCacheProtect (g : Agent) (off : Nat) (s : State) : Host.Outcome State Fault Refusal :=
  run (turnedAway (fun c => c == .protect) g (oraBase + off) true) s

/-- NARROW_FORCE (R261, R267, R296). -/
def execNarrowForce (off : Nat) (s : State) : Host.Outcome State Fault Refusal :=
  run (narrowAt off) s

/-- ST_LOAD (R300). -/
def execStLoad (m : Master) (v : Word) (s : State) : Host.Outcome State Fault Refusal :=
  run (writeAt m .st 0x44 v) s

/-- ST_STORE (R300). -/
def execStStore (m : Master) (v : Word) (s : State) : Host.Outcome State Fault Refusal :=
  run (writeAt m .st 0x44 v) s

/-- ST_INVAL (R300). -/
def execStInval (m : Master) (v : Word) (s : State) : Host.Outcome State Fault Refusal :=
  run (writeAt m .st 0x44 v) s

/-- CC_CLAIM (R304). -/
def execCcClaim (m : Master) (c : Fin 4) (v : Word) (s : State) : Host.Outcome State Fault Refusal :=
  run (writeAt m .cc (ccOff c.val 0) v) s

/-- CC_GO (R305). -/
def execCcGo (m : Master) (c : Fin 4) (v : Word) (s : State) : Host.Outcome State Fault Refusal :=
  run (writeAt m .cc (ccOff c.val 0x18) v) s

/-- CC_CANCEL (R306). -/
def execCcCancel (m : Master) (c : Fin 4) (v : Word) (s : State) : Host.Outcome State Fault Refusal :=
  run (writeAt m .cc (ccOff c.val 0x18) v) s

/-- CC_JOB_START (R288, R294). -/
def execCcJobStart (s : State) : Host.Outcome State Fault Refusal :=
  run ccStartAt s

/-- CC_JOB_DONE (R290-R292). -/
def execCcJobDone (c : Fin 4) (s : State) : Host.Outcome State Fault Refusal :=
  run (ccDone c.val) s

/-- DESCRIPTOR_FETCH (R327-R329, R334-R337). -/
def execDescriptorFetch (c : Fin 32) (s : State) : Host.Outcome State Fault Refusal :=
  run (atEntry c.val (descFetch c.val)) s

/-- DESCRIPTOR_COMPLETE (R331). -/
def execDescriptorComplete (c : Fin 32) (s : State) : Host.Outcome State Fault Refusal :=
  run (chanComplete c.val) s

/-- ACCESS_NO_RESPONSE (R340). -/
def execAccessNoResponse (c : Fin 32) (e : AccErr) (s : State) : Host.Outcome State Fault Refusal :=
  run (atAccess c.val true (channelErr c.val 0 e)) s

/-- ACCESS_ERROR (R343, R344, R348). -/
def execAccessError (c : Fin 32) (e : AccErr) (s : State) : Host.Outcome State Fault Refusal :=
  run (atAccess c.val true (channelErr c.val 0 e)) s

/-- PROGRESS_TIMEOUT (R341). -/
def execProgressTimeout (c : Fin 32) (e : AccErr) (s : State) : Host.Outcome State Fault Refusal :=
  run (progressExpire c.val e) s

/-- PREFETCH_ERROR (R346). -/
def execPrefetchError (x : LineError) (s : State) : Host.Outcome State Fault Refusal :=
  run (prefetchErr x.addr 0 x.held) s

/-- PFG_RESUME (R347, R358). -/
def execPfgResume (m : Master) (v : Word) (s : State) : Host.Outcome State Fault Refusal :=
  run (writeAt m .xfe 0x50 v) s

/-- CHANNEL_ENABLE (R361). -/
def execChannelEnable (m : Master) (c : Fin 32) (v : Word) (s : State) : Host.Outcome State Fault Refusal :=
  run (writeAt m (chanBlk c.val) (chanOff c.val + 8) v) s

/-- PAUSE (R350, R351). -/
def execPause (m : Master) (c : Fin 32) (v : Word) (s : State) : Host.Outcome State Fault Refusal :=
  run (writeAt m (chanBlk c.val) (chanOff c.val + 8) v) s

/-- PAUSE_DRAINED (R350). -/
def execPauseDrained (c : Fin 32) (count : Nat) (s : State) : Host.Outcome State Fault Refusal :=
  run (pauseDrain c.val count) s

/-- XC_RESUME (R350, R354). -/
def execXcResume (m : Master) (c : Fin 32) (v : Word) (s : State) : Host.Outcome State Fault Refusal :=
  run (writeAt m (chanBlk c.val) (chanOff c.val + 8) v) s

/-- XC_DISABLE (R353). -/
def execXcDisable (m : Master) (c : Fin 32) (v : Word) (s : State) : Host.Outcome State Fault Refusal :=
  run (writeAt m (chanBlk c.val) (chanOff c.val + 8) v) s

/-- SKIP (R354). -/
def execSkip (m : Master) (c : Fin 32) (v : Word) (s : State) : Host.Outcome State Fault Refusal :=
  run (writeAt m (chanBlk c.val) (chanOff c.val + 8) v) s

/-- TAIL_WRITE (R382, R383). -/
def execTailWrite (m : Master) (q : Fin 128) (v : Word) (s : State) : Host.Outcome State Fault Refusal :=
  run (writeAt m (rgBlk q.val) (rgOff q.val 0x20) v) s

/-- HEAD_WRITE (R385). -/
def execHeadWrite (m : Master) (q : Fin 128) (v : Word) (s : State) : Host.Outcome State Fault Refusal :=
  run (writeAt m (rgBlk q.val) (rgOff q.val 0x1C) v) s

/-- COALESCE_TIMEOUT (R395). -/
def execCoalesceTimeout (q : Fin 128) (s : State) : Host.Outcome State Fault Refusal :=
  run (coalesce q.val) s

/-- BAD_ENTRY_REPORT (R391). -/
def execBadEntryReport (m : Master) (q : Fin 128) (v : Word) (s : State) : Host.Outcome State Fault Refusal :=
  run (writeAt m (rgBlk q.val) (rgOff q.val 0x38) v) s

/-- RING_ENABLE (R399). -/
def execRingEnable (m : Master) (q : Fin 128) (v : Word) (s : State) : Host.Outcome State Fault Refusal :=
  run (writeAt m (rgBlk q.val) (rgOff q.val 0x10) v) s

/-- RING_DISABLE (R401). -/
def execRingDisable (m : Master) (q : Fin 128) (v : Word) (s : State) : Host.Outcome State Fault Refusal :=
  run (writeAt m (rgBlk q.val) (rgOff q.val 0x10) v) s

/-- MEMORY_ACCESS (R222, R242, R331). -/
def execMemoryAccess (a : MemAccess) (s : State) : Host.Outcome State Fault Refusal :=
  run (memoryAt a) s

end Sys2Proof.Machine
end

