-- ==== Sys2Proof/Machine/RowsNeural.lean ====
section
/-! DEFINITION. The commands of the neural cores, the sequencers and Dispatch (10-14). Each command has a meaning of its own. -/

namespace Sys2Proof.Machine

/-- An access of a window data port: a write, or a read. -/
def portAccess (m : Master) (b : Blk) (off : Nat) (v : Option Word) (s : State) : State :=
  match v with
  | some w => writeAt m b off w s
  | none => readAt m (b.at off) 4 s

/-- MATMUL (R464). -/
def execMatmul (n : Fin 16) (faults : List ArrayFault) (s : State) : Host.Outcome State Fault Refusal :=
  run (matmulAt n.val faults) s

/-- VCHAIN (R527). -/
def execVchain (n : Fin 16) (faults : List LaneFault) (s : State) : Host.Outcome State Fault Refusal :=
  run (vchainAt n.val faults) s

/-- SLOT_LD (R472). -/
def execSlotLd (n : Fin 16) (s : State) : Host.Outcome State Fault Refusal :=
  run (slotAt n.val 3) s

/-- SLOT_ST (R472). -/
def execSlotSt (n : Fin 16) (s : State) : Host.Outcome State Fault Refusal :=
  run (slotAt n.val 4) s

/-- HALO_SEND (R608). -/
def execHaloSend (n : Fin 16) (s : State) : Host.Outcome State Fault Refusal :=
  run (haloAt n.val false) s

/-- HALO_RECV (R610). -/
def execHaloRecv (n : Fin 16) (s : State) : Host.Outcome State Fault Refusal :=
  run (haloAt n.val true) s

/-- HALO_RENDEZVOUS (R604). -/
def execHaloRendezvous (n : Fin 16) (s : State) : Host.Outcome State Fault Refusal :=
  run (rendezvous n.val) s

/-- SYNC (R478). -/
def execSync (n : Fin 16) (s : State) : Host.Outcome State Fault Refusal :=
  run (syncAt n.val) s

/-- COMMIT (R479). -/
def execCommit (n : Fin 16) (s : State) : Host.Outcome State Fault Refusal :=
  run (commitAt n.val) s

/-- ILLEGAL_INSTRUCTION (R489). -/
def execIllegalInstruction (n : Fin 16) (s : State) : Host.Outcome State Fault Refusal :=
  run (illegalAt n.val) s

/-- IMEM_CHECK_FAIL (R489). -/
def execImemCheckFail (n : Fin 16) (s : State) : Host.Outcome State Fault Refusal :=
  run (imemFail n.val) s

/-- NC_IM_ADDR_WRITE (R495, R496). -/
def execNcImAddrWrite (m : Master) (n : Fin 16) (v : Word) (s : State) : Host.Outcome State Fault Refusal :=
  run (writeAt m (.nc n.val) 0x5C v) s

/-- NC_IM_DATA_ACCESS (R495). -/
def execNcImDataAccess (m : Master) (n : Fin 16) (v : Option Word) (s : State) : Host.Outcome State Fault Refusal :=
  run (portAccess m (.nc n.val) 0x60 v) s

/-- NC_INJ_ARM (R494). -/
def execNcInjArm (m : Master) (n : Fin 16) (v : Word) (s : State) : Host.Outcome State Fault Refusal :=
  run (writeAt m (.nc n.val) 0x78 v) s

/-- NC_VT_ADDR_WRITE (R535, R536). -/
def execNcVtAddrWrite (m : Master) (n : Fin 16) (v : Word) (s : State) : Host.Outcome State Fault Refusal :=
  run (writeAt m (.nc n.val) 0x80 v) s

/-- NC_VT_DATA_ACCESS (R535). -/
def execNcVtDataAccess (m : Master) (n : Fin 16) (v : Option Word) (s : State) : Host.Outcome State Fault Refusal :=
  run (portAccess m (.nc n.val) 0x84 v) s

/-- IMAGE_LOAD (R694). -/
def execImageLoad (m : Master) (v : Word) (s : State) : Host.Outcome State Fault Refusal :=
  run (writeAt m .disp 0x70 v) s

/-- LOAD_REPORT (R559). -/
def execLoadReport (s : State) : Host.Outcome State Fault Refusal :=
  run loadReportAt s

/-- UNLOAD (R695). -/
def execUnload (m : Master) (v : Word) (s : State) : Host.Outcome State Fault Refusal :=
  run (writeAt m .disp 0x70 v) s

/-- COMMAND_START (R565). -/
def execCommandStart (k : Fin 4) (clock : Nat) (s : State) : Host.Outcome State Fault Refusal :=
  run (commandStartAt k.val clock) s

/-- COLLECTIVE_START (R622, R623). -/
def execCollectiveStart (k : Fin 4) (clock : Nat) (s : State) : Host.Outcome State Fault Refusal :=
  run (collectiveStartAt k.val clock) s

/-- PUBLISH (R570). -/
def execPublish (k : Fin 4) (cycles : Nat) (s : State) : Host.Outcome State Fault Refusal :=
  run (publishAt k.val cycles) s

/-- COMMIT_OVERRUN (R583). -/
def execCommitOverrun (k : Fin 4) (s : State) : Host.Outcome State Fault Refusal :=
  run (commitOverrunAt k.val) s

/-- BODY_TIMEOUT (R581). -/
def execBodyTimeout (k : Fin 4) (s : State) : Host.Outcome State Fault Refusal :=
  run (bodyTimeoutAt k.val) s

/-- COMMAND_KILL (R573, R574). -/
def execCommandKill (k : Fin 4) (cause : Fin 32) (code : Nat) (s : State) : Host.Outcome State Fault Refusal :=
  run (commandKillAt k.val cause.val code) s

/-- KILL_COMPLETE (R573-R576). -/
def execKillComplete (k : Fin 4) (s : State) : Host.Outcome State Fault Refusal :=
  run (killCompleteAt k.val) s

/-- PREEMPT (R580). -/
def execPreempt (m : Master) (k : Fin 4) (v : Word) (s : State) : Host.Outcome State Fault Refusal :=
  run (writeAt m (.csq k.val) 0x5C v) s

/-- ABORT (R579). -/
def execAbort (m : Master) (k : Fin 4) (v : Word) (s : State) : Host.Outcome State Fault Refusal :=
  run (writeAt m (.csq k.val) 0x5C v) s

/-- STEP_CLOSE (R584). -/
def execStepClose (k : Fin 4) (s : State) : Host.Outcome State Fault Refusal :=
  run (stepCloseAt k.val) s

/-- SCHEDULER_DECISION (R668-R680). -/
def execSchedulerDecision (s : State) : Host.Outcome State Fault Refusal :=
  run decideAt s

/-- BOUNDARY_PREEMPT (R676). -/
def execBoundaryPreempt (k : Fin 4) (s : State) : Host.Outcome State Fault Refusal :=
  run (boundaryPreemptAt k.val) s

/-- ATTACH (R687). -/
def execAttach (m : Master) (v : Word) (s : State) : Host.Outcome State Fault Refusal :=
  run (writeAt m .disp 0x54 v) s

/-- DETACH (R690). -/
def execDetach (m : Master) (v : Word) (s : State) : Host.Outcome State Fault Refusal :=
  run (writeAt m .disp 0x54 v) s

/-- HEARTBEAT (R689). -/
def execHeartbeat (m : Master) (v : Word) (s : State) : Host.Outcome State Fault Refusal :=
  run (writeAt m .disp 0x4C v) s

/-- ORPHAN (R689). -/
def execOrphan (s : State) : Host.Outcome State Fault Refusal :=
  run orphanAt s

/-- ORPHAN_ABANDON (R692). -/
def execOrphanAbandon (s : State) : Host.Outcome State Fault Refusal :=
  run orphanAbandonAt s

/-- QUIESCE_REQUEST (R697). -/
def execQuiesceRequest (m : Master) (v : Word) (s : State) : Host.Outcome State Fault Refusal :=
  run (writeAt m .disp 0x9C v) s

/-- QUIESCED (R697). -/
def execQuiesced (s : State) : Host.Outcome State Fault Refusal :=
  run quiescedAt s

/-- QUIESCE_END (R699). -/
def execQuiesceEnd (m : Master) (v : Word) (s : State) : Host.Outcome State Fault Refusal :=
  run (writeAt m .disp 0x9C v) s

/-- LOOP_ENABLE (R704). -/
def execLoopEnable (m : Master) (l : Fin 16) (v : Word) (s : State) : Host.Outcome State Fault Refusal :=
  run (writeAt m .disp (lpOff l.val 0) v) s

/-- LOOP_DISABLE (R706). -/
def execLoopDisable (m : Master) (l : Fin 16) (v : Word) (s : State) : Host.Outcome State Fault Refusal :=
  run (writeAt m .disp (lpOff l.val 0) v) s

end Sys2Proof.Machine
end

