-- ==== Sys2Proof/Machine/RowsPins.lean ====
section
/-! DEFINITION. The commands of the pins, the application cluster and the TAP (21-23). Each command has a meaning of its own. -/

namespace Sys2Proof.Machine

/-- SAMPLE/PRELOAD captures the pads and loads the register. -/
def sampleAt (load : Nat) (s : State) : State :=
  if s.rail 10 then onTap (fun t => { t with ir := 1, boundary := load }) (s.answer (tapCapture s)) else s

/-- IDCODE is selected and read. -/
def idcodeAt (s : State) : State :=
  if s.rail 10 then onTap (fun t => { t with ir := 2 }) (s.answer [idcodeWord s]) else s

/-- An encoding that is no other instruction selects BYPASS. -/
def bypassAt (code : Nat) (s : State) : State := if code < 5 then s else onTap (fun t => { t with ir := code }) s

/-- GP_OUT_WRITE (R1001). -/
def execGpOutWrite (m : Master) (hi : Bool) (v : Word) (s : State) : Host.Outcome State Fault Refusal :=
  run (writeAt m .gpio (if hi then 0x4C else 0x48) v) s

/-- GP_OE_WRITE (R1001). -/
def execGpOeWrite (m : Master) (hi : Bool) (v : Word) (s : State) : Host.Outcome State Fault Refusal :=
  run (writeAt m .gpio (if hi then 0x64 else 0x60) v) s

/-- GP_SET (R1002). -/
def execGpSet (m : Master) (hi : Bool) (v : Word) (s : State) : Host.Outcome State Fault Refusal :=
  run (writeAt m .gpio (if hi then 0x54 else 0x50) v) s

/-- GP_CLR (R1002). -/
def execGpClr (m : Master) (hi : Bool) (v : Word) (s : State) : Host.Outcome State Fault Refusal :=
  run (writeAt m .gpio (if hi then 0x5C else 0x58) v) s

/-- GL_OWN_WRITE (R999). -/
def execGlOwnWrite (m : Master) (k : Fin 6) (v : Word) (s : State) : Host.Outcome State Fault Refusal :=
  run (writeAt m .gown (0x40 + 4 * k.val) v) s

/-- GL_KEY (R1006). -/
def execGlKey (m : Master) (v : Word) (s : State) : Host.Outcome State Fault Refusal :=
  run (writeAt m .gown 0x60 v) s

/-- GL_LOCK (R1007). -/
def execGlLock (m : Master) (hi : Bool) (v : Word) (s : State) : Host.Outcome State Fault Refusal :=
  run (writeAt m .gown (if hi then 0x68 else 0x64) v) s

/-- PM_PIN_WRITE (R1021). -/
def execPmPinWrite (m : Master) (n : Fin 48) (v : Word) (s : State) : Host.Outcome State Fault Refusal :=
  run (writeAt m .pmux (0x100 + 4 * n.val) v) s

/-- PIN_EVENT (R1004). -/
def execPinEvent (n : Fin 48) (level : Bool) (s : State) : Host.Outcome State Fault Refusal :=
  run (pinEventAt n.val level) s

/-- GP_HOLD_RELEASE (R1013). -/
def execGpHoldRelease (m : Master) (hi : Bool) (v : Word) (s : State) : Host.Outcome State Fault Refusal :=
  run (writeAt m .gpio (if hi then 0x74 else 0x70) v) s

/-- TCAP_EDGE (R996). -/
def execTcapEdge (n : Fin 8) (rising : Bool) (s : State) : Host.Outcome State Fault Refusal :=
  run (tcapEdgeAt n.val rising) s

/-- TCAP_LO_READ (R1017). -/
def execTcapLoRead (m : Master) (n : Fin 8) (s : State) : Host.Outcome State Fault Refusal :=
  run (readAt m (Blk.gpio.at (0xA4 + 0x10 * n.val)) 4) s

/-- PWM_PERIOD (R996). -/
def execPwmPeriod (n : Fin 6) (s : State) : Host.Outcome State Fault Refusal :=
  run (pwmPeriodAt n.val) s

/-- CLUSTER_RESET (R1040, R1046). -/
def execClusterReset (m : Master) (v : Word) (dirty : Nat) (s : State) : Host.Outcome State Fault Refusal :=
  run (writeWith m .appc 0x44 v (fun w _ => clusterResetStore dirty w)) s

/-- CORE_RUN (R1039). -/
def execCoreRun (m : Master) (c : Fin 4) (v : Word) (s : State) : Host.Outcome State Fault Refusal :=
  run (writeAt m .appc (0x50 + 4 * c.val) v) s

/-- MTCMP_WRITE (R1038). -/
def execMtcmpWrite (m : Master) (c : Fin 4) (hi : Bool) (v : Word) (s : State) : Host.Outcome State Fault Refusal :=
  run (writeAt m .appc ((if hi then 0xA4 else 0xA0) + 8 * c.val) v) s

/-- MACHINE_TIMER (R1038). -/
def execMachineTimer (c : Fin 4) (s : State) : Host.Outcome State Fault Refusal :=
  run (machineTimerAt c.val) s

/-- UART_TX_PUSH (R1044). -/
def execUartTxPush (m : Master) (v : Word) (s : State) : Host.Outcome State Fault Refusal :=
  run (writeAt m .appc 0x800 v) s

/-- UART_RX_POP (R1044). -/
def execUartRxPop (m : Master) (s : State) : Host.Outcome State Fault Refusal :=
  run (readAt m (Blk.appc.at 0x800) 4) s

/-- UART_RX_BYTE (R994, R1044). -/
def execUartRxByte (ch : Byte) (frameErr parityErr brk : Bool) (s : State) : Host.Outcome State Fault Refusal :=
  run (uartLineAt ch frameErr parityErr brk) s

/-- UART_RX_TIMEOUT (R1044). -/
def execUartRxTimeout (s : State) : Host.Outcome State Fault Refusal :=
  run uartTimeoutAt s

/-- UART_TX_BYTE_SENT (R1044). -/
def execUartTxByteSent (s : State) : Host.Outcome State Fault Refusal :=
  run uartSentAt s

/-- I2C_CMD (R1044). -/
def execI2cCmd (m : Master) (x : Fin 2) (v : Word) (s : State) : Host.Outcome State Fault Refusal :=
  run (writeAt m .appc (i2cOff x.val + 4) v) s

/-- I2C_BYTE_COMPLETE (R1044). -/
def execI2cByteComplete (x : Fin 2) (nack arbLost : Bool) (data : Option Byte) (s : State) : Host.Outcome State Fault Refusal :=
  run (i2cDoneAt x.val nack arbLost data) s

/-- I2S_UNDERRUN (R1044). -/
def execI2sUnderrun (s : State) : Host.Outcome State Fault Refusal :=
  run i2sUnderrunAt s

/-- I2S_FRAME (R1044). -/
def execI2sFrame (s : State) : Host.Outcome State Fault Refusal :=
  run i2sFrameAt s

/-- EXTEST (R1070, R1071). -/
def execExtest (s : State) : Host.Outcome State Fault Refusal :=
  run (onTap (fun t => { t with ir := 0, control := 1 })) s

/-- SAMPLE_PRELOAD (R1070, R1071). -/
def execSamplePreload (load : Nat) (s : State) : Host.Outcome State Fault Refusal :=
  run (sampleAt load) s

/-- IDCODE (R1072). -/
def execIdcode (s : State) : Host.Outcome State Fault Refusal :=
  run idcodeAt s

/-- CLAMP (R1070, R1076). -/
def execClamp (s : State) : Host.Outcome State Fault Refusal :=
  run (onTap (fun t => { t with ir := 3, control := 2 })) s

/-- HIGHZ (R1070, R1076). -/
def execHighz (s : State) : Host.Outcome State Fault Refusal :=
  run (onTap (fun t => { t with ir := 4, control := 3 })) s

/-- BYPASS (R1070). -/
def execBypass (code : Fin 32) (s : State) : Host.Outcome State Fault Refusal :=
  run (bypassAt code.val) s

/-- TAP_RESET (R1070, R1076). -/
def execTapReset (s : State) : Host.Outcome State Fault Refusal :=
  run (onTap (fun _ => TapSt.init)) s

end Sys2Proof.Machine
end

