-- ==== Sys2Proof/Machine/RowsPower.lean ====
section
/-! DEFINITION. The commands of supplies, clocks and sleep (04). Each command has a meaning of its own. -/

namespace Sys2Proof.Machine

/-- RAIL_GOOD (R163). -/
def execRailGood (r : Fin 11) (s : State) : Host.Outcome State Fault Refusal :=
  run (railGoodAt r.val) s

/-- RAIL_LOST (R164, R167). -/
def execRailLost (r : Fin 11) (s : State) : Host.Outcome State Fault Refusal :=
  runTime (railTime r.val) (railLostAt r.val) s

/-- VDD_AO_GOOD (R169). -/
def execVddAoGood (s : State) : Host.Outcome State Fault Refusal :=
  run vddAoGoodAt s

/-- AO_POR_RELEASE (R169). -/
def execAoPorRelease (s : State) : Host.Outcome State Fault Refusal :=
  runTime porTime aoPorAt s

/-- MAIN_RESET_RELEASE (R169, R890). -/
def execMainResetRelease (boot : Boot) (s : State) : Host.Outcome State Fault Refusal :=
  runTime releaseTime (mainReleaseAt boot) s

/-- SYSTEM_RESET (R168). -/
def execSystemReset (boot : Boot) (s : State) : Host.Outcome State Fault Refusal :=
  runTime resetTime (systemResetAt boot) s

/-- PWR_SYSRST (R168). -/
def execPwrSysrst (m : Master) (v : Word) (boot : Boot) (s : State) : Host.Outcome State Fault Refusal :=
  run (writeWith m .pwr 0x70 v (fun w _ => sysrstStore boot w)) s

/-- OPERATING_POINT_CHANGE (R173, R205). -/
def execOperatingPointChange (m : Master) (app : Bool) (v : Word) (s : State) : Host.Outcome State Fault Refusal :=
  run (writeAt m .pwr (opOff app) v) s

/-- NPU_CLOCK_SWITCH (R174). -/
def execNpuClockSwitch (s : State) : Host.Outcome State Fault Refusal :=
  run npuSwitchAt s

/-- OP_RAISE_TIMEOUT (R176). -/
def execOpRaiseTimeout (app : Bool) (s : State) : Host.Outcome State Fault Refusal :=
  run (opTimeoutAt app) s

/-- APP_OP_SWITCH (R175). -/
def execAppOpSwitch (s : State) : Host.Outcome State Fault Refusal :=
  run appSwitchAt s

/-- PLL_LOCK (R181). -/
def execPllLock (p : Fin 6) (s : State) : Host.Outcome State Fault Refusal :=
  run (pllLockAt p.val) s

/-- PLL_LOCK_FAIL (R182). -/
def execPllLockFail (p : Fin 6) (s : State) : Host.Outcome State Fault Refusal :=
  run (pllLockFailAt p.val) s

/-- PLL_STOP (R181). -/
def execPllStop (p : Fin 6) (s : State) : Host.Outcome State Fault Refusal :=
  run (pllStopAt p.val) s

/-- CLK_SET (R210). -/
def execClkSet (m : Master) (hi : Bool) (v : Word) (s : State) : Host.Outcome State Fault Refusal :=
  run (writeAt m .clk (if hi then 0x54 else 0x50) v) s

/-- CLK_CLR (R210, R211). -/
def execClkClr (m : Master) (hi : Bool) (v : Word) (s : State) : Host.Outcome State Fault Refusal :=
  run (writeAt m .clk (if hi then 0x5C else 0x58) v) s

/-- GO (R186, R187). -/
def execGo (m : Master) (v : Word) (s : State) : Host.Outcome State Fault Refusal :=
  run (writeAt m .pwr 0x54 v) s

/-- SLEEP_DRAIN_DONE (R188). -/
def execSleepDrainDone (s : State) : Host.Outcome State Fault Refusal :=
  run drainDoneAt s

/-- DRAIN_TIMEOUT (R188). -/
def execDrainTimeout (s : State) : Host.Outcome State Fault Refusal :=
  run drainTimeoutAt s

/-- SLEEP_REACHED (R188, R191). -/
def execSleepReached (s : State) : Host.Outcome State Fault Refusal :=
  runTime sleepTime sleepReachedAt s

/-- WAKE_EVENT (R189, R193). -/
def execWakeEvent (s : State) : Host.Outcome State Fault Refusal :=
  run wakeEventAt s

/-- WAKE_SEQUENCE_START (R194, R234, R235). -/
def execWakeSequenceStart (recordBad readFail : Bool) (s : State) : Host.Outcome State Fault Refusal :=
  runTime wakeTime (wakeStartAt recordBad readFail) s

/-- RUN_READY (R194). -/
def execRunReady (s : State) : Host.Outcome State Fault Refusal :=
  run runReadyAt s

/-- GOVERNOR_TICK (R199). -/
def execGovernorTick (s : State) : Host.Outcome State Fault Refusal :=
  run governorAt s

/-- THERMAL_TRIP (R200). -/
def execThermalTrip (sensor : Fin 12) (s : State) : Host.Outcome State Fault Refusal :=
  run (tripAt sensor.val) s

/-- TRIP_CLEAR (R206). -/
def execTripClear (m : Master) (v : Word) (s : State) : Host.Outcome State Fault Refusal :=
  run (writeAt m .pwr 0x6C v) s

/-- THERMAL_SHUTDOWN (R201). -/
def execThermalShutdown (sensor : Fin 12) (s : State) : Host.Outcome State Fault Refusal :=
  runTime (shutdownTime sensor.val) (shutdownAt sensor.val) s

end Sys2Proof.Machine
end

