-- ==== Sys2Proof/Machine/Dispatch.lean ====
section
/-! DEFINITION. One arm for each command, each one call of its meaning. -/

namespace Sys2Proof.Machine

/-- The effect of a command on everything but the queue. -/
def exec (i : Instr) (s : State) : Host.Outcome State Fault Refusal :=
  match i with
  | .registerWrite a => Sys2Proof.Machine.execRegisterWrite a s
  | .enable a b => Sys2Proof.Machine.execEnable a b s
  | .enableCheckDone a => Sys2Proof.Machine.execEnableCheckDone a s
  | .disable a b => Sys2Proof.Machine.execDisable a b s
  | .softRst a b c => Sys2Proof.Machine.execSoftRst a b c s
  | .softRstDone a => Sys2Proof.Machine.execSoftRstDone a s
  | .heldWriteApply a => Sys2Proof.Machine.execHeldWriteApply a s
  | .ownerWrite a b c => Sys2Proof.Machine.execOwnerWrite a b c s
  | .lockKey a b c => Sys2Proof.Machine.execLockKey a b c s
  | .busTimeout a b c => Sys2Proof.Machine.execBusTimeout a b c s
  | .pageParityError a b => Sys2Proof.Machine.execPageParityError a b s
  | .acquire a b => Sys2Proof.Machine.execAcquire a b s
  | .release a b => Sys2Proof.Machine.execRelease a b s
  | .ack a b => Sys2Proof.Machine.execAck a b s
  | .hostDomainWrite a b => Sys2Proof.Machine.execHostDomainWrite a b s
  | .regRead a b c => Sys2Proof.Machine.execRegRead a b c s
  | .regWrite a b c d e => Sys2Proof.Machine.execRegWrite a b c d e s
  | .winRead a => Sys2Proof.Machine.execWinRead a s
  | .winWrite a b => Sys2Proof.Machine.execWinWrite a b s
  | .statusRead => Sys2Proof.Machine.execStatusRead s
  | .idRead => Sys2Proof.Machine.execIdRead s
  | .modeOctal => Sys2Proof.Machine.execModeOctal s
  | .resetEnable => Sys2Proof.Machine.execResetEnable s
  | .reset => Sys2Proof.Machine.execReset s
  | .xspiUnknownOpcode a b c d => Sys2Proof.Machine.execXspiUnknownOpcode a b c d s
  | .windowStart a b => Sys2Proof.Machine.execWindowStart a b s
  | .windowStop a b => Sys2Proof.Machine.execWindowStop a b s
  | .hpWinDataWrite a b => Sys2Proof.Machine.execHpWinDataWrite a b s
  | .hpWinDataRead a => Sys2Proof.Machine.execHpWinDataRead a s
  | .windowAccessFail a => Sys2Proof.Machine.execWindowAccessFail a s
  | .windowCountDone => Sys2Proof.Machine.execWindowCountDone s
  | .aoTick => Sys2Proof.Machine.execAoTick s
  | .fineStrobe => Sys2Proof.Machine.execFineStrobe s
  | .synthesisedTick => Sys2Proof.Machine.execSynthesisedTick s
  | .timeDtLoRead a => Sys2Proof.Machine.execTimeDtLoRead a s
  | .timeDtHiRead a => Sys2Proof.Machine.execTimeDtHiRead a s
  | .cmpLoWrite a b c => Sys2Proof.Machine.execCmpLoWrite a b c s
  | .cmpHiWrite a b c => Sys2Proof.Machine.execCmpHiWrite a b c s
  | .cmpCtrlWrite a b c => Sys2Proof.Machine.execCmpCtrlWrite a b c s
  | .cmpPeriodWrite a b c => Sys2Proof.Machine.execCmpPeriodWrite a b c s
  | .comparatorFire a => Sys2Proof.Machine.execComparatorFire a s
  | .cmpStatRead a b => Sys2Proof.Machine.execCmpStatRead a b s
  | .railGood a => Sys2Proof.Machine.execRailGood a s
  | .railLost a => Sys2Proof.Machine.execRailLost a s
  | .vddAoGood => Sys2Proof.Machine.execVddAoGood s
  | .aoPorRelease => Sys2Proof.Machine.execAoPorRelease s
  | .mainResetRelease a => Sys2Proof.Machine.execMainResetRelease a s
  | .systemReset a => Sys2Proof.Machine.execSystemReset a s
  | .pwrSysrst a b c => Sys2Proof.Machine.execPwrSysrst a b c s
  | .operatingPointChange a b c => Sys2Proof.Machine.execOperatingPointChange a b c s
  | .npuClockSwitch => Sys2Proof.Machine.execNpuClockSwitch s
  | .opRaiseTimeout a => Sys2Proof.Machine.execOpRaiseTimeout a s
  | .appOpSwitch => Sys2Proof.Machine.execAppOpSwitch s
  | .pllLock a => Sys2Proof.Machine.execPllLock a s
  | .pllLockFail a => Sys2Proof.Machine.execPllLockFail a s
  | .pllStop a => Sys2Proof.Machine.execPllStop a s
  | .clkSet a b c => Sys2Proof.Machine.execClkSet a b c s
  | .clkClr a b c => Sys2Proof.Machine.execClkClr a b c s
  | .go a b => Sys2Proof.Machine.execGo a b s
  | .sleepDrainDone => Sys2Proof.Machine.execSleepDrainDone s
  | .drainTimeout => Sys2Proof.Machine.execDrainTimeout s
  | .sleepReached => Sys2Proof.Machine.execSleepReached s
  | .wakeEvent => Sys2Proof.Machine.execWakeEvent s
  | .wakeSequenceStart a b => Sys2Proof.Machine.execWakeSequenceStart a b s
  | .runReady => Sys2Proof.Machine.execRunReady s
  | .governorTick => Sys2Proof.Machine.execGovernorTick s
  | .thermalTrip a => Sys2Proof.Machine.execThermalTrip a s
  | .tripClear a b => Sys2Proof.Machine.execTripClear a b s
  | .thermalShutdown a => Sys2Proof.Machine.execThermalShutdown a s
  | .decodeMiss a b c => Sys2Proof.Machine.execDecodeMiss a b c s
  | .firewallDeny a b c => Sys2Proof.Machine.execFirewallDeny a b c s
  | .trainingStart a b => Sys2Proof.Machine.execTrainingStart a b s
  | .trainingEnd a => Sys2Proof.Machine.execTrainingEnd a s
  | .trackingRun a b => Sys2Proof.Machine.execTrackingRun a b s
  | .refresh a => Sys2Proof.Machine.execRefresh a s
  | .mr4Read a => Sys2Proof.Machine.execMr4Read a s
  | .powerDownEntry a => Sys2Proof.Machine.execPowerDownEntry a s
  | .agePromotion a => Sys2Proof.Machine.execAgePromotion a s
  | .orangeryOutOfRange a b c => Sys2Proof.Machine.execOrangeryOutOfRange a b c s
  | .modelCacheProtect a b => Sys2Proof.Machine.execModelCacheProtect a b s
  | .narrowForce a => Sys2Proof.Machine.execNarrowForce a s
  | .stLoad a b => Sys2Proof.Machine.execStLoad a b s
  | .stStore a b => Sys2Proof.Machine.execStStore a b s
  | .stInval a b => Sys2Proof.Machine.execStInval a b s
  | .ccClaim a b c => Sys2Proof.Machine.execCcClaim a b c s
  | .ccGo a b c => Sys2Proof.Machine.execCcGo a b c s
  | .ccCancel a b c => Sys2Proof.Machine.execCcCancel a b c s
  | .ccJobStart => Sys2Proof.Machine.execCcJobStart s
  | .ccJobDone a => Sys2Proof.Machine.execCcJobDone a s
  | .descriptorFetch a => Sys2Proof.Machine.execDescriptorFetch a s
  | .descriptorComplete a => Sys2Proof.Machine.execDescriptorComplete a s
  | .accessNoResponse a b => Sys2Proof.Machine.execAccessNoResponse a b s
  | .accessError a b => Sys2Proof.Machine.execAccessError a b s
  | .progressTimeout a b => Sys2Proof.Machine.execProgressTimeout a b s
  | .prefetchError a => Sys2Proof.Machine.execPrefetchError a s
  | .pfgResume a b => Sys2Proof.Machine.execPfgResume a b s
  | .channelEnable a b c => Sys2Proof.Machine.execChannelEnable a b c s
  | .pause a b c => Sys2Proof.Machine.execPause a b c s
  | .pauseDrained a b => Sys2Proof.Machine.execPauseDrained a b s
  | .xcResume a b c => Sys2Proof.Machine.execXcResume a b c s
  | .xcDisable a b c => Sys2Proof.Machine.execXcDisable a b c s
  | .skip a b c => Sys2Proof.Machine.execSkip a b c s
  | .tailWrite a b c => Sys2Proof.Machine.execTailWrite a b c s
  | .headWrite a b c => Sys2Proof.Machine.execHeadWrite a b c s
  | .coalesceTimeout a => Sys2Proof.Machine.execCoalesceTimeout a s
  | .badEntryReport a b c => Sys2Proof.Machine.execBadEntryReport a b c s
  | .ringEnable a b c => Sys2Proof.Machine.execRingEnable a b c s
  | .ringDisable a b c => Sys2Proof.Machine.execRingDisable a b c s
  | .matmul a b => Sys2Proof.Machine.execMatmul a b s
  | .vchain a b => Sys2Proof.Machine.execVchain a b s
  | .slotLd a => Sys2Proof.Machine.execSlotLd a s
  | .slotSt a => Sys2Proof.Machine.execSlotSt a s
  | .haloSend a => Sys2Proof.Machine.execHaloSend a s
  | .haloRecv a => Sys2Proof.Machine.execHaloRecv a s
  | .haloRendezvous a => Sys2Proof.Machine.execHaloRendezvous a s
  | .sync a => Sys2Proof.Machine.execSync a s
  | .commit a => Sys2Proof.Machine.execCommit a s
  | .illegalInstruction a => Sys2Proof.Machine.execIllegalInstruction a s
  | .imemCheckFail a => Sys2Proof.Machine.execImemCheckFail a s
  | .ncImAddrWrite a b c => Sys2Proof.Machine.execNcImAddrWrite a b c s
  | .ncImDataAccess a b c => Sys2Proof.Machine.execNcImDataAccess a b c s
  | .ncInjArm a b c => Sys2Proof.Machine.execNcInjArm a b c s
  | .ncVtAddrWrite a b c => Sys2Proof.Machine.execNcVtAddrWrite a b c s
  | .ncVtDataAccess a b c => Sys2Proof.Machine.execNcVtDataAccess a b c s
  | .imageLoad a b => Sys2Proof.Machine.execImageLoad a b s
  | .loadReport => Sys2Proof.Machine.execLoadReport s
  | .unload a b => Sys2Proof.Machine.execUnload a b s
  | .commandStart a b => Sys2Proof.Machine.execCommandStart a b s
  | .collectiveStart a b => Sys2Proof.Machine.execCollectiveStart a b s
  | .publish a b => Sys2Proof.Machine.execPublish a b s
  | .commitOverrun a => Sys2Proof.Machine.execCommitOverrun a s
  | .bodyTimeout a => Sys2Proof.Machine.execBodyTimeout a s
  | .commandKill a b c => Sys2Proof.Machine.execCommandKill a b c s
  | .killComplete a => Sys2Proof.Machine.execKillComplete a s
  | .preempt a b c => Sys2Proof.Machine.execPreempt a b c s
  | .abort a b c => Sys2Proof.Machine.execAbort a b c s
  | .stepClose a => Sys2Proof.Machine.execStepClose a s
  | .schedulerDecision => Sys2Proof.Machine.execSchedulerDecision s
  | .boundaryPreempt a => Sys2Proof.Machine.execBoundaryPreempt a s
  | .attach a b => Sys2Proof.Machine.execAttach a b s
  | .detach a b => Sys2Proof.Machine.execDetach a b s
  | .heartbeat a b => Sys2Proof.Machine.execHeartbeat a b s
  | .orphan => Sys2Proof.Machine.execOrphan s
  | .orphanAbandon => Sys2Proof.Machine.execOrphanAbandon s
  | .quiesceRequest a b => Sys2Proof.Machine.execQuiesceRequest a b s
  | .quiesced => Sys2Proof.Machine.execQuiesced s
  | .quiesceEnd a b => Sys2Proof.Machine.execQuiesceEnd a b s
  | .loopEnable a b c => Sys2Proof.Machine.execLoopEnable a b c s
  | .loopDisable a b c => Sys2Proof.Machine.execLoopDisable a b c s
  | .frameStart a b c d => Sys2Proof.Machine.execFrameStart a b c d s
  | .frameEnd a b c d => Sys2Proof.Machine.execFrameEnd a b c d s
  | .longPacket a b => Sys2Proof.Machine.execLongPacket a b s
  | .headerUncorrectable a => Sys2Proof.Machine.execHeaderUncorrectable a s
  | .frameTimeout a b => Sys2Proof.Machine.execFrameTimeout a b s
  | .framePublish a b => Sys2Proof.Machine.execFramePublish a b s
  | .contextEnable a b c d => Sys2Proof.Machine.execContextEnable a b c d s
  | .contextDisable a b c d => Sys2Proof.Machine.execContextDisable a b c d s
  | .bitstreamChunk a b => Sys2Proof.Machine.execBitstreamChunk a b s
  | .pictureDecode a b => Sys2Proof.Machine.execPictureDecode a b s
  | .decodedFramePublish a => Sys2Proof.Machine.execDecodedFramePublish a s
  | .vdecStreamEnable a b c => Sys2Proof.Machine.execVdecStreamEnable a b c s
  | .vdecStreamDisable a b c => Sys2Proof.Machine.execVdecStreamDisable a b c s
  | .sourceFrame => Sys2Proof.Machine.execSourceFrame s
  | .encodedUnit a => Sys2Proof.Machine.execEncodedUnit a s
  | .jpegJob => Sys2Proof.Machine.execJpegJob s
  | .jpegJobDone a => Sys2Proof.Machine.execJpegJobDone a s
  | .sampleTake a => Sys2Proof.Machine.execSampleTake a s
  | .sampleComplete a => Sys2Proof.Machine.execSampleComplete a s
  | .batchTimeout a => Sys2Proof.Machine.execBatchTimeout a s
  | .batchPublish a => Sys2Proof.Machine.execBatchPublish a s
  | .dropRecordPublish a => Sys2Proof.Machine.execDropRecordPublish a s
  | .dropRunTimeout a => Sys2Proof.Machine.execDropRunTimeout a s
  | .splStreamEnable a b c => Sys2Proof.Machine.execSplStreamEnable a b c s
  | .splStreamDisable a b c => Sys2Proof.Machine.execSplStreamDisable a b c s
  | .kwsHop => Sys2Proof.Machine.execKwsHop s
  | .kwsEnable a b => Sys2Proof.Machine.execKwsEnable a b s
  | .kwsDisable a b => Sys2Proof.Machine.execKwsDisable a b s
  | .fwWake a b => Sys2Proof.Machine.execFwWake a b s
  | .gpioWakeEdge a b => Sys2Proof.Machine.execGpioWakeEdge a b s
  | .alarmArm a b => Sys2Proof.Machine.execAlarmArm a b s
  | .wakeAlarm => Sys2Proof.Machine.execWakeAlarm s
  | .wakeReasonRecord => Sys2Proof.Machine.execWakeReasonRecord s
  | .linkMessage a b => Sys2Proof.Machine.execLinkMessage a b s
  | .linkTransferTimeout a => Sys2Proof.Machine.execLinkTransferTimeout a s
  | .linkToken a => Sys2Proof.Machine.execLinkToken a s
  | .linkTokenPeriod a => Sys2Proof.Machine.execLinkTokenPeriod a s
  | .linkResetAttempt => Sys2Proof.Machine.execLinkResetAttempt s
  | .linkAttemptEnd a => Sys2Proof.Machine.execLinkAttemptEnd a s
  | .gtLinkReset a b => Sys2Proof.Machine.execGtLinkReset a b s
  | .mqAppend a b => Sys2Proof.Machine.execMqAppend a b s
  | .mqHeadWrite a b => Sys2Proof.Machine.execMqHeadWrite a b s
  | .gatehouseCoreReset a b => Sys2Proof.Machine.execGatehouseCoreReset a b s
  | .protectedSramWrite a b => Sys2Proof.Machine.execProtectedSramWrite a b s
  | .aoi3cPoll a b => Sys2Proof.Machine.execAoi3cPoll a b s
  | .aoi3cIbi a => Sys2Proof.Machine.execAoi3cIbi a s
  | .aiCmd a b c => Sys2Proof.Machine.execAiCmd a b c s
  | .sensorSample a b => Sys2Proof.Machine.execSensorSample a b s
  | .watchdogKick a b => Sys2Proof.Machine.execWatchdogKick a b s
  | .watchdogExpiry a b => Sys2Proof.Machine.execWatchdogExpiry a b s
  | .fwReady a b => Sys2Proof.Machine.execFwReady a b s
  | .fwSelWrite a b => Sys2Proof.Machine.execFwSelWrite a b s
  | .getFw a => Sys2Proof.Machine.execGetFw a s
  | .getDigest a => Sys2Proof.Machine.execGetDigest a s
  | .getSensors a => Sys2Proof.Machine.execGetSensors a s
  | .getLog a => Sys2Proof.Machine.execGetLog a s
  | .sleep a => Sys2Proof.Machine.execSleep a s
  | .unknownCmd a => Sys2Proof.Machine.execUnknownCmd a s
  | .setEndpointId a => Sys2Proof.Machine.execSetEndpointId a s
  | .getEndpointId a => Sys2Proof.Machine.execGetEndpointId a s
  | .getEndpointUuid a => Sys2Proof.Machine.execGetEndpointUuid a s
  | .getMctpVersionSupport a => Sys2Proof.Machine.execGetMctpVersionSupport a s
  | .getMessageTypeSupport a => Sys2Proof.Machine.execGetMessageTypeSupport a s
  | .getVendorDefinedMessageSupport a => Sys2Proof.Machine.execGetVendorDefinedMessageSupport a s
  | .getTid a => Sys2Proof.Machine.execGetTid a s
  | .setTid a => Sys2Proof.Machine.execSetTid a s
  | .getPldmVersion a => Sys2Proof.Machine.execGetPldmVersion a s
  | .getPldmTypes a => Sys2Proof.Machine.execGetPldmTypes a s
  | .getPldmCommands a => Sys2Proof.Machine.execGetPldmCommands a s
  | .setEventReceiver a => Sys2Proof.Machine.execSetEventReceiver a s
  | .getSensorReading a => Sys2Proof.Machine.execGetSensorReading a s
  | .setNumericSensorEnable a => Sys2Proof.Machine.execSetNumericSensorEnable a s
  | .getPdrRepositoryInfo a => Sys2Proof.Machine.execGetPdrRepositoryInfo a s
  | .getPdr a => Sys2Proof.Machine.execGetPdr a s
  | .queryDeviceIdentifiers a => Sys2Proof.Machine.execQueryDeviceIdentifiers a s
  | .getFirmwareParameters a => Sys2Proof.Machine.execGetFirmwareParameters a s
  | .requestUpdate a => Sys2Proof.Machine.execRequestUpdate a s
  | .passComponentTable a => Sys2Proof.Machine.execPassComponentTable a s
  | .updateComponent a => Sys2Proof.Machine.execUpdateComponent a s
  | .requestFirmwareData a => Sys2Proof.Machine.execRequestFirmwareData a s
  | .activateFirmware a => Sys2Proof.Machine.execActivateFirmware a s
  | .getStatus a => Sys2Proof.Machine.execGetStatus a s
  | .cancelUpdateComponent a => Sys2Proof.Machine.execCancelUpdateComponent a s
  | .cancelUpdate a => Sys2Proof.Machine.execCancelUpdate a s
  | .updateTimeout => Sys2Proof.Machine.execUpdateTimeout s
  | .errorReport a => Sys2Proof.Machine.execErrorReport a s
  | .errorReportResend => Sys2Proof.Machine.execErrorReportResend s
  | .vdmGetLog a => Sys2Proof.Machine.execVdmGetLog a s
  | .getFwState a => Sys2Proof.Machine.execGetFwState a s
  | .vdmGetDigest a => Sys2Proof.Machine.execVdmGetDigest a s
  | .getPolicy a => Sys2Proof.Machine.execGetPolicy a s
  | .setPolicy a => Sys2Proof.Machine.execSetPolicy a s
  | .restart a b => Sys2Proof.Machine.execRestart a b s
  | .outputDivergence a b c d => Sys2Proof.Machine.execOutputDivergence a b c d s
  | .scrubPoint a b => Sys2Proof.Machine.execScrubPoint a b s
  | .errorRecordEntry => Sys2Proof.Machine.execErrorRecordEntry s
  | .mirrorEntry => Sys2Proof.Machine.execMirrorEntry s
  | .pop a b => Sys2Proof.Machine.execPop a b s
  | .raiseGo a b => Sys2Proof.Machine.execRaiseGo a b s
  | .errInjArm a b => Sys2Proof.Machine.execErrInjArm a b s
  | .injectionFire => Sys2Proof.Machine.execInjectionFire s
  | .controlMemoryParity a b => Sys2Proof.Machine.execControlMemoryParity a b s
  | .gpOutWrite a b c => Sys2Proof.Machine.execGpOutWrite a b c s
  | .gpOeWrite a b c => Sys2Proof.Machine.execGpOeWrite a b c s
  | .gpSet a b c => Sys2Proof.Machine.execGpSet a b c s
  | .gpClr a b c => Sys2Proof.Machine.execGpClr a b c s
  | .glOwnWrite a b c => Sys2Proof.Machine.execGlOwnWrite a b c s
  | .glKey a b => Sys2Proof.Machine.execGlKey a b s
  | .glLock a b c => Sys2Proof.Machine.execGlLock a b c s
  | .pmPinWrite a b c => Sys2Proof.Machine.execPmPinWrite a b c s
  | .pinEvent a b => Sys2Proof.Machine.execPinEvent a b s
  | .gpHoldRelease a b c => Sys2Proof.Machine.execGpHoldRelease a b c s
  | .tcapEdge a b => Sys2Proof.Machine.execTcapEdge a b s
  | .tcapLoRead a b => Sys2Proof.Machine.execTcapLoRead a b s
  | .pwmPeriod a => Sys2Proof.Machine.execPwmPeriod a s
  | .clusterReset a b c => Sys2Proof.Machine.execClusterReset a b c s
  | .coreRun a b c => Sys2Proof.Machine.execCoreRun a b c s
  | .mtcmpWrite a b c d => Sys2Proof.Machine.execMtcmpWrite a b c d s
  | .machineTimer a => Sys2Proof.Machine.execMachineTimer a s
  | .uartTxPush a b => Sys2Proof.Machine.execUartTxPush a b s
  | .uartRxPop a => Sys2Proof.Machine.execUartRxPop a s
  | .uartRxByte a b c d => Sys2Proof.Machine.execUartRxByte a b c d s
  | .uartRxTimeout => Sys2Proof.Machine.execUartRxTimeout s
  | .i2cCmd a b c => Sys2Proof.Machine.execI2cCmd a b c s
  | .i2sUnderrun => Sys2Proof.Machine.execI2sUnderrun s
  | .extest => Sys2Proof.Machine.execExtest s
  | .samplePreload a => Sys2Proof.Machine.execSamplePreload a s
  | .idcode => Sys2Proof.Machine.execIdcode s
  | .clamp => Sys2Proof.Machine.execClamp s
  | .highz => Sys2Proof.Machine.execHighz s
  | .bypass a => Sys2Proof.Machine.execBypass a s
  | .tapReset => Sys2Proof.Machine.execTapReset s
  | .registerRead a b c => Sys2Proof.Machine.execRegisterRead a b c s
  | .memoryAccess a => Sys2Proof.Machine.execMemoryAccess a s
  | .dphySotError a b => Sys2Proof.Machine.execDphySotError a b s
  | .deskewSequence a => Sys2Proof.Machine.execDeskewSequence a s
  | .ulpsEntry a => Sys2Proof.Machine.execUlpsEntry a s
  | .ulpsExit a => Sys2Proof.Machine.execUlpsExit a s
  | .genericShortPacket a b c => Sys2Proof.Machine.execGenericShortPacket a b c s
  | .audioFrame a b => Sys2Proof.Machine.execAudioFrame a b s
  | .dynamicAddressAssign a b => Sys2Proof.Machine.execDynamicAddressAssign a b s
  | .mctpPacketDrop => Sys2Proof.Machine.execMctpPacketDrop s
  | .uartTxByteSent => Sys2Proof.Machine.execUartTxByteSent s
  | .i2cByteComplete a b c d => Sys2Proof.Machine.execI2cByteComplete a b c d s
  | .i2sFrame => Sys2Proof.Machine.execI2sFrame s

end Sys2Proof.Machine
end

