-- ==== Sys2Proof/WellFormed.lean ====
section
/-! DEFINITION. Which commands the environment can form: page numbers that R224 assigns, access sizes of R43, one write
of a master in a cycle, data of the length that LEN gives, and the control bits that make a register write the row it
stands for. An ill-formed command still has a meaning; it is none that the table lists. -/

namespace Sys2Proof

open Machine (blkOfPage inRegSpace)

/-- R224 assigns the page. -/
def pageWf (page : Nat) : Bool := (blkOfPage page).isSome

/-- An access size of R43. -/
def sizeWf (n : Nat) : Bool := n == 1 || n == 2 || n == 4 || n == 8

/-- One register write of a cycle. -/
def busWf (w : BusWrite) : Bool := inRegSpace w.addr && sizeWf w.size

/-- One register read of a cycle. -/
def readWf (r : BusRead) : Bool := inRegSpace r.addr && sizeWf r.size

/-- The writes of one cycle: at least one, and one of each master (R71). -/
def cycleWf (ws : List BusWrite) : Bool := !ws.isEmpty && ws.all busWf && decide (ws.map (·.master)).Nodup

/-- LEN is a byte, and a valid one comes with that many words (R91, R93). -/
def lenWf (len words : Nat) : Bool := decide (len < 256) && (len == 0 || decide (64 < len) || words == len)

/-- An opcode the port ignores: unknown, or with a bad complement of opcode or LEN (R91-R93). -/
def ignoredWf (op nop len nlen : Byte) : Bool :=
  nop != ~~~op || nlen != ~~~len || len == 0 || decide (64 < len.toNat)
    || !([0x31, 0x32, 0x41, 0x42, 0x05, 0x9F, 0xE8, 0x66, 0x99].contains op.toNat)

/-- Bits of a value written. -/
def low (v : Word) (i : Nat) : Bool := v.getLsbD i

/-- A memory access of whole bytes. -/
def memWf (x : MemAccess) : Bool :=
  match x with
  | .load _ _ n => decide (0 < n)
  | .store _ _ bs => !bs.isEmpty
  | .window => true
  | .elements _ n => decide (0 < n)
  | .request r => match r.data with
    | some bs => !bs.isEmpty
    | none => true
  | .serve _ => true

/-- A long packet within its header's fields (R722). -/
def packetWf (k : LongPacket) : Bool :=
  decide (k.vc < 16) && decide (k.dt < 64) && decide (k.wc < 65536) && decide (k.data.length ≤ k.wc)

/-- A message with the endpoint ID of its sender. -/
def mctpWf (m : Mctp) : Bool := decide (m.src < 256)

/-- A byte of flash stands at a place of the 16 MiB array (R882). -/
def bootWf (b : Boot) : Bool :=
  match b.flash with
  | none => true
  | some l => l.all (fun p => decide (p.1 < 0x1000000))

/-- A command that its row of the table can be. -/
def Instr.wf (c : Instr) : Bool :=
  match c with
  -- operands with a range or a length
  | .registerWrite x => cycleWf x.writes && x.reads.all readWf
  | .enableCheckDone x => match x with
    | .page n => pageWf n
    | .channel _ => true
    | .ring _ | .stream _ => true
  | .enable _ page | .disable _ page | .softRst _ page _ | .softRstDone page
  | .heldWriteApply page | .ownerWrite _ page _ | .lockKey _ page _ => pageWf page
  | .busTimeout _ addr x => inRegSpace addr && decide (1 ≤ x.len) && decide (x.len ≤ 64)
  | .pageParityError _ addr => inRegSpace addr
  | .registerRead _ addr size => inRegSpace addr && sizeWf size
  | .regRead _ len _ => lenWf len len
  | .regWrite _ len data _ _ => lenWf len data.length
  | .winRead len => lenWf len len
  | .winWrite len data => lenWf len data.length
  | .xspiUnknownOpcode op nop len nlen => ignoredWf op nop len nlen
  | .memoryAccess a => memWf a
  | .orangeryOutOfRange _ off _ => decide (off < 0x10000000)
  | .narrowForce off => decide (off < 0x02000000)
  | .modelCacheProtect _ off => decide (off < 0x10000000)
  | .accessNoResponse _ e | .accessError _ e | .progressTimeout _ e => decide (0 < e.fails)
  | .frameStart _ _ num _ | .frameEnd _ _ num _ => decide (num < 65536)
  | .longPacket _ pk => packetWf pk
  | .commandKill _ _ code => decide (code < 65536)
  | .audioFrame a b => a.length == b.length && !a.isEmpty
  | .sensorSample temps mvs => temps.length == 12 && mvs.length == 10
  | .samplePreload n => decide (n < 2 ^ 256)
  | .mainResetRelease b | .systemReset b | .pwrSysrst _ _ b => bootWf b
  | .restart m b => mctpWf m && bootWf b
  -- control bits that name the command
  | .windowStart _ v => low v 1
  | .windowStop _ v => !low v 1
  | .stLoad _ v => low v 0 && !low v 1 && !low v 2
  | .stStore _ v => low v 1 && !low v 0 && !low v 2
  | .stInval _ v => low v 2 && !low v 0 && !low v 1
  | .ccGo _ _ v => low v 0 && !low v 1
  | .ccCancel _ _ v => low v 1
  | .pfgResume _ v => low v 0
  | .channelEnable _ _ v => low v 0 && !low v 1 && !low v 2 && !low v 3 && !low v 4
  | .pause _ _ v => low v 0 && low v 1
  | .xcResume _ _ v => low v 0 && low v 2
  | .xcDisable _ _ v => !low v 0 || low v 3
  | .skip _ _ v => low v 0 && low v 4
  | .ringEnable _ _ v => low v 0
  | .ringDisable _ _ v => !low v 0
  | .imageLoad _ v => low v 0 && !low v 1
  | .unload _ v => low v 1 && !low v 0
  | .preempt _ _ v => low v 0 && !low v 1
  | .abort _ _ v => low v 1 && !low v 0
  | .attach _ v => low v 16 && !low v 17
  | .detach _ v => low v 17 && !low v 16
  | .quiesceRequest _ v => low v 0
  | .quiesceEnd _ v => !low v 0
  | .loopEnable _ _ v => low v 0
  | .loopDisable _ _ v => !low v 0
  | .contextEnable _ _ _ v => low v 0
  | .contextDisable _ _ _ v => !low v 0
  | .vdecStreamEnable _ _ v => low v 0
  | .vdecStreamDisable _ _ v => !low v 0
  | .splStreamEnable _ _ v => low v 0
  | .splStreamDisable _ _ v => !low v 0
  | .kwsEnable _ v => low v 0
  | .kwsDisable _ v => !low v 0
  | .bypass code => decide (4 < code.val)
  -- messages
  | .setEndpointId m | .getEndpointId m | .getEndpointUuid m | .getMctpVersionSupport m | .getMessageTypeSupport m
  | .getVendorDefinedMessageSupport m | .getTid m | .setTid m | .getPldmVersion m | .getPldmTypes m
  | .getPldmCommands m | .setEventReceiver m | .getSensorReading m | .setNumericSensorEnable m
  | .getPdrRepositoryInfo m | .getPdr m | .queryDeviceIdentifiers m | .getFirmwareParameters m | .requestUpdate m
  | .passComponentTable m | .updateComponent m | .requestFirmwareData m | .activateFirmware m | .getStatus m
  | .cancelUpdateComponent m | .cancelUpdate m | .errorReport m | .vdmGetLog m | .getFwState m | .vdmGetDigest m
  | .getPolicy m | .setPolicy m => mctpWf m
  -- every value of the operands
  | .acquire .. | .release .. | .ack .. | .hostDomainWrite .. | .statusRead | .idRead | .modeOctal | .resetEnable
  | .reset | .hpWinDataWrite .. | .hpWinDataRead .. | .windowAccessFail .. | .windowCountDone => true
  | .aoTick | .fineStrobe | .synthesisedTick | .timeDtLoRead .. | .timeDtHiRead .. | .cmpLoWrite .. | .cmpHiWrite ..
  | .cmpCtrlWrite .. | .cmpPeriodWrite .. | .comparatorFire .. | .cmpStatRead .. => true
  | .railGood .. | .railLost .. | .vddAoGood | .aoPorRelease | .operatingPointChange .. | .npuClockSwitch
  | .opRaiseTimeout .. | .appOpSwitch | .pllLock .. | .pllLockFail .. | .pllStop .. | .clkSet .. | .clkClr .. | .go ..
  | .sleepDrainDone | .drainTimeout | .sleepReached | .wakeEvent | .wakeSequenceStart .. | .runReady | .governorTick
  | .thermalTrip .. | .tripClear .. | .thermalShutdown .. => true
  | .decodeMiss .. | .firewallDeny .. | .trainingStart .. | .trainingEnd .. | .trackingRun .. | .refresh ..
  | .mr4Read .. | .powerDownEntry .. | .agePromotion .. | .ccClaim .. | .ccJobStart
  | .ccJobDone .. => true
  | .descriptorFetch .. | .descriptorComplete .. | .prefetchError .. | .pauseDrained .. | .tailWrite .. | .headWrite ..
  | .coalesceTimeout .. | .badEntryReport .. => true
  | .matmul .. | .vchain .. | .slotLd .. | .slotSt .. | .haloSend .. | .haloRecv .. | .haloRendezvous .. | .sync ..
  | .commit .. | .illegalInstruction .. | .imemCheckFail .. | .ncImAddrWrite .. | .ncImDataAccess .. | .ncInjArm ..
  | .ncVtAddrWrite .. | .ncVtDataAccess .. => true
  | .loadReport | .commandStart .. | .collectiveStart .. | .publish .. | .commitOverrun .. | .bodyTimeout ..
  | .killComplete .. | .stepClose .. | .schedulerDecision | .boundaryPreempt .. | .heartbeat .. | .orphan
  | .orphanAbandon | .quiesced => true
  | .headerUncorrectable .. | .frameTimeout .. | .framePublish .. | .dphySotError .. | .deskewSequence ..
  | .ulpsEntry .. | .ulpsExit .. | .genericShortPacket .. => true
  | .bitstreamChunk .. | .pictureDecode .. | .decodedFramePublish .. | .sourceFrame | .encodedUnit .. | .jpegJob
  | .jpegJobDone .. | .sampleTake .. | .sampleComplete .. | .batchTimeout .. | .batchPublish ..
  | .dropRecordPublish .. | .dropRunTimeout .. => true
  | .kwsHop | .fwWake .. | .gpioWakeEdge .. | .alarmArm .. | .wakeAlarm | .wakeReasonRecord | .linkMessage ..
  | .linkTransferTimeout .. | .linkToken .. | .linkTokenPeriod .. | .linkResetAttempt | .linkAttemptEnd ..
  | .gtLinkReset .. | .mqAppend .. | .mqHeadWrite .. | .gatehouseCoreReset .. | .protectedSramWrite .. | .aoi3cPoll ..
  | .aoi3cIbi .. | .aiCmd .. => true
  | .watchdogKick .. | .watchdogExpiry .. | .fwReady .. | .fwSelWrite .. | .getFw .. | .getDigest .. | .getSensors ..
  | .getLog .. | .sleep .. | .unknownCmd .. | .updateTimeout | .errorReportResend | .dynamicAddressAssign ..
  | .mctpPacketDrop => true
  | .outputDivergence .. | .scrubPoint .. | .errorRecordEntry | .mirrorEntry | .pop .. | .raiseGo .. | .errInjArm ..
  | .injectionFire | .controlMemoryParity .. => true
  | .gpOutWrite .. | .gpOeWrite .. | .gpSet .. | .gpClr .. | .glOwnWrite .. | .glKey .. | .glLock .. | .pmPinWrite ..
  | .pinEvent .. | .gpHoldRelease .. | .tcapEdge .. | .tcapLoRead .. | .pwmPeriod .. => true
  | .clusterReset .. | .coreRun .. | .mtcmpWrite .. | .machineTimer .. | .uartTxPush .. | .uartRxPop .. | .uartRxByte ..
  | .uartRxTimeout | .uartTxByteSent | .i2cCmd .. | .i2cByteComplete .. | .i2sUnderrun | .i2sFrame => true
  | .extest | .idcode | .clamp | .highz | .tapReset => true

end Sys2Proof
end

