-- ==== Sys2Proof/Safety.lean ====
section
/-! DEFINITION. What claims about the device say: the commands that complete, what they leave alone, and the states that
device time and memory stay in. -/

namespace Sys2Proof.Machine

/-- The command answers a next state, and `P` holds of it. -/
def Completes (c : Instr) (s : State) (P : State → Prop) : Prop :=
  ∃ t, exec c s = .next t ∧ P t

/-- Of the whole state only registers differ, and only those at the listed addresses; beside them the answer and the
counter of free values. -/
def OnlyRegs (l : List Nat) (s t : State) : Prop :=
  (∀ a, a ∉ l → t.reg a = s.reg a) ∧
    t = { s with regs := t.regs, resp := t.resp, seq := s.seq + 1 }

/-- Registers keep their values, but for the listed addresses. -/
def SameRegs (l : List Nat) (s t : State) : Prop := ∀ a, a ∉ l → t.reg a = s.reg a

/-- Every register of every other page keeps its value. -/
def OtherPages (b : Blk) (s t : State) : Prop := ∀ a, a < b.at 0 ∨ b.at 0x1000 ≤ a → t.reg a = s.reg a

/-- Nothing differs but the answer and the counter of free values. -/
def Unchanged (s t : State) : Prop := t = { s with resp := t.resp, seq := s.seq + 1 }

/-- Memory keeps its bytes outside `n` bytes from an address. -/
def SameMem (a n : Nat) (s t : State) : Prop := ∀ x, x < a ∨ a + n ≤ x → t.mem.get? x = s.mem.get? x

/-- An agent that a failed access answers with a bus error: a processor or the xSPI window (R220, R223). -/
def hearsBusErrors : Agent → Bool
  | .cpu (.channel _) => false
  | .cpu _ => true
  | .window => true
  | _ => false

/-- Registers of XFE channel `c`, by their offsets in its block (R320). -/
def chanRegs (c : Nat) (l : List Nat) : List Nat := l.map (fun r => Blk.at (chanBlk c) (chanOff c + r))

/-- Registers of ring `q`, by their offsets in its block (R403). -/
def ringRegs (q : Nat) (l : List Nat) : List Nat := l.map (fun r => Blk.at (rgBlk q) (rgOff q r))

/-- The records raised between two states, by unit, error code and class. -/
abbrev Raised (s t : State) (l : List (Nat × Nat × Nat)) : Prop :=
  t.check.raised.map (fun x => (x.2.unit, x.2.code, x.2.cls)) =
    s.check.raised.map (fun x => (x.2.unit, x.2.code, x.2.cls)) ++ l

/-- A write was rejected with `code` at `off`, and had no other effect (R56); HP_STAT.REJECT is set where the xSPI port
wrote (R118). -/
def Rejected (s : State) (m : Master) (b : Blk) (off code : Nat) (t : State) : Prop :=
  t = { (if m = .xspi then hpSet 4 (s.reject b off code) else s.reject b off code) with resp := t.resp, seq := s.seq + 1 }

/-- The crossbar applies a full-word write as the master wrote it, to the bits of `mask` (R57). -/
abbrev Applies (s : State) (m : Master) (b : Blk) (off : Nat) (v mask : Word) : Prop :=
  judge s (wr m (b.at off) v) = .apply v mask false

/-- Pages whose registers show what they store. -/
def plainPage : Blk → Bool
  | .sys | .ora | .cc | .csq _ | .ddrphy | .isp _ | .venc | .jpeg | .kws | .belv | .mi3c | .sens => true
  | _ => false

/-- A register of a plain page that a read leaves alone: it neither clears on read nor is a data port, and PG_STATUS, which
shows BUSY, is another (R50, R110). -/
def quietReg (b : Blk) (off : Nat) : Bool :=
  plainPage b && decide (off ≠ offStatus) && ((rowAt b off).map (fun r => !r.rc && !r.port)).getD false

/-- The reason and offset with which a load is refused, where it is. -/
def refusalOf (r : Except (Nat × Nat) Image) : Option (Nat × Nat) :=
  match r with
  | .error e => some e
  | .ok _ => none

/-- The crossbar applies a master's move of a ring pointer to `v` (R380). -/
def pointerMoves (s : State) (m : Master) (q r v : Nat) : Bool :=
  match judge s (wr m ((rgBlk q).at (rgOff q r)) (wd v)) with
  | .apply w _ lost => decide (w = wd v) && !lost && decide (s.rgN q ≤ 4096)
  | _ => false

/-- An entry of `n` bytes that a master produces reaches ring `q`: the ring has room, the entry is writable memory of R379
that nothing queued reaches first, and the tail moves. -/
def entryLands (s : State) (m : Master) (q n : Nat) : Bool :=
  let a := s.rgSlot q (s.rgTail q)
  s.rgOn q && !s.rgFull q && s.ddr.queue.isEmpty && s.ringRegion a n && (firstFail s (.cpu m) a n true).isNone
    && pointerMoves s m q 0x20 ((s.rgTail q + 1) % (2 * s.rgN q))

/-- A master that consumes ring `q` frees its head entry. -/
def headFrees (s : State) (m : Master) (q : Nat) : Bool :=
  decide (s.rgOcc q ≠ 0) && pointerMoves s m q 0x1C ((s.rgHead q + 1) % (2 * s.rgN q))

/-- Device time keeps its bounds: S stays below 1,000, the accumulator below 1,250 (R131, R133). -/
def TimeSt.wf (t : TimeSt) : Prop := t.s ≤ 999 ∧ t.acc < 1250

/-- A state whose device time keeps its bounds. -/
def State.timely (s : State) : Prop := s.time.wf

/-- Memory and the register map are in canonical form. -/
def State.canonical (s : State) : Prop := Memory.wf s.mem = true ∧ s.regs.sorted = true

end Sys2Proof.Machine
end

