-- ==== Sys2Proof/Certificates/Slice0/Obligations.lean ====
section
/-! DEFINITION. The statements. -/

open Sys2Proof Sys2Proof.Machine

/-- A step takes the command at the front of the queue and answers what `exec` answers on the queue's rest.
The model's choices and readings in it: log entry 1. -/
def Obligations.StepRunsTheFrontCommand : Prop :=
  ∀ (c : Instr) (cs : List Instr) (s : State), s.pending = c :: cs → step s = exec c { s with pending := cs }

/-! ### Register pages, locks, the host and the xSPI port (02) -/

/-- ACQUIRE takes a free lock for the writer and is counted on a held one (R78); RELEASE by the holder frees the lock,
is refused while ABANDONED is 1 (R84) and for any other master, as ACK is (R80); ACK by the holder clears ABANDONED. -/
def Obligations.LocksAreTakenAndFreed : Prop :=
  ∀ (m : Master) (n : Fin 64) (s : State) (mask : Word),
    let off := lockOff n.val
    let w := s.get .lock off
    (Applies s m .lock off 0x100 mask → bit w 0 = false →
      Completes (.acquire m n) s (fun t =>
        let x := t.get .lock off
        bit x 0 = true ∧ bit x 1 = bit w 1 ∧ fld x 19 16 = m.dom s ∧ fld x 27 20 = m.code ∧
          OnlyRegs [Blk.at .lock off] s t)) ∧
    (Applies s m .lock off 0x100 mask → bit w 0 = true →
      Completes (.acquire m n) s (fun t =>
        t.getN .lock 0x50 = min (s.getN .lock 0x50 + 1) 0xFFFFFFFF ∧ OnlyRegs [Blk.at .lock 0x50] s t)) ∧
    (Applies s m .lock off 0x200 mask → isHolder s m w = true → bit w 1 = false →
      Completes (.release m n) s (fun t => t.get .lock off = 0 ∧ OnlyRegs [Blk.at .lock off] s t)) ∧
    (Applies s m .lock off 0x200 mask → isHolder s m w = true → bit w 1 = true →
      Completes (.release m n) s (fun t => Rejected s m .lock off 0x0520 t)) ∧
    (Applies s m .lock off 0x200 mask → isHolder s m w = false →
      Completes (.release m n) s (fun t => Rejected s m .lock off 0x0506 t)) ∧
    (Applies s m .lock off 0x400 mask → isHolder s m w = true →
      Completes (.ack m n) s (fun t =>
        let x := t.get .lock off
        bit x 1 = false ∧ bit x 0 = true ∧ fld x 19 16 = m.dom s ∧ fld x 27 20 = m.code ∧
          OnlyRegs [Blk.at .lock off] s t)) ∧
    (Applies s m .lock off 0x400 mask → isHolder s m w = false →
      Completes (.ack m n) s (fun t => Rejected s m .lock off 0x0506 t))

/-- Two masters of different domains that write ACQUIRE to one free lock in one SoC cycle: the lock goes to the domain
that comes first in R72, the other's attempt is counted, and the crossbar records the collision (R71-R75).
The model's choices and readings in it: log entry 46. -/
def Obligations.OneOfTwoAcquiresIsGranted : Prop :=
  ∀ (a b : Master) (n : Fin 64) (s : State) (ma mb : Word),
    let off := lockOff n.val
    let addr := Blk.at .lock off
    Applies s a .lock off 0x100 ma → Applies s b .lock off 0x100 mb → a.dom s < b.dom s →
    bit (s.get .lock off) 0 = false →
    ∀ ws, ws = [wr a addr 0x100, wr b addr 0x100] ∨ ws = [wr b addr 0x100, wr a addr 0x100] →
      Completes (.registerWrite ⟨ws, []⟩) s (fun t =>
        let x := t.get .lock off
        bit x 0 = true ∧ fld x 19 16 = a.dom s ∧ fld x 27 20 = a.code ∧
          t.getN .lock 0x50 = min (s.getN .lock 0x50 + 1) 0xFFFFFFFF ∧
          t.getB .lock offStatus 5 = true ∧ t.getB .lock offRaw 2 = true ∧
          t.getF .lock offCollcnt 15 0 = min (s.getF .lock offCollcnt 15 0 + 1) 0xFFFF ∧
          t.getN .sys 0x50 = addr - regBase ∧ t.getN .sys 0x54 = 0x80000000 + 2 ^ (a.dom s) + 2 ^ (b.dom s) ∧
          OnlyRegs [addr, Blk.at .lock 0x50, Blk.at .lock offStatus, Blk.at .lock offRaw, Blk.at .lock offCollcnt,
            Blk.at .sys 0x50, Blk.at .sys 0x54] s t)

/-- What a rejected access leaves: PG_ERRCNT.REJECTS counts up to 0xFFFF, PG_IRQ_RAW.REJECT is set, PG_REASON takes the
code and the offset unless PG_STATUS.REFUSED is 1, and nothing else changes (R56, R70). -/
def Obligations.ARejectionLeavesItsThreeMarks : Prop :=
  ∀ (s : State) (b : Blk) (off code : Nat), blkOfPage b.pg = some b → off < 0x1000 → code < 0x10000 →
    let t := s.reject b off code
    t.getF b offErrcnt 15 0 = min (s.getF b offErrcnt 15 0 + 1) 0xFFFF ∧
      t.getF b offErrcnt 31 16 = s.getF b offErrcnt 31 16 ∧
      t.get b offRaw = s.get b offRaw ||| 8#32 ∧
      (s.refusedB b = false → t.getF b offReason 15 0 = code ∧ t.getF b offReason 27 16 = off) ∧
      (s.refusedB b = true → t.get b offReason = s.get b offReason) ∧
      SameRegs [b.at offErrcnt, b.at offRaw, b.at offReason] s t ∧
      t = { s with regs := t.regs }

/-- The crossbar takes the first of its rules that applies to a full-word or narrower write: an absent page changes
nothing; then alignment, size and permission reject; then a locked field (here PG_OWNER's), whether or not the page is
BUSY, or the configuration of an enabled page; then a BUSY page holds the write (R57). The write is a command of its own.
A read of the same SoC cycle finds what the write left, shown on PG_IRQ_EN (R76). A held write is applied once BUSY has
cleared, judged against the state it then meets, and leaves the queue of held writes (R62).
The model's choices and readings in it: log entries 10 and 44. -/
def Obligations.WritesAreJudgedInOrder : Prop :=
  (∀ (s : State) (m : Master) (b : Blk) (off size : Nat) (v : Word),
    blkOfPage b.pg = some b → off < 0x1000 → size = 1 ∨ size = 2 ∨ size = 4 →
    let w : BusWrite := { master := m, addr := b.at off, size := size, value := v }
    s.gateMisses m b = false →
    (reaches s m b = false → Completes (.registerWrite ⟨[w], []⟩) s (Unchanged s)) ∧
    (reaches s m b = true → size = 4 → off % 4 ≠ 0 →
      Completes (.registerWrite ⟨[w], []⟩) s (Rejected s m b (off - off % 4) (b.type * 256 + 0x03))) ∧
    (reaches s m b = true → size ≠ 4 →
      Completes (.registerWrite ⟨[w], []⟩) s (Rejected s m b (off - off % 4) (b.type * 256 + 0x0F))) ∧
    (reaches s m b = true → size = 4 → off % 4 = 0 → perm s m b off v = .deny →
      Completes (.registerWrite ⟨[w], []⟩) s (Rejected s m b off (b.type * 256 + 0x06))) ∧
    (∀ mask, reaches s m b = true → size = 4 → off = offOwner → perm s m b off v = .allow mask → s.pageLocked b = true →
      (v ^^^ s.get b off) &&& 0xF &&& mask ≠ 0 →
      Completes (.registerWrite ⟨[w], []⟩) s (Rejected s m b off (b.type * 256 + 0x07))) ∧
    (∀ mask, reaches s m b = true → size = 4 → off % 4 = 0 → perm s m b off v = .allow mask →
      (rowAt b off).isSome = true → lockMask b off = 0 → cfgBlocked s b off v = true →
      Completes (.registerWrite ⟨[w], []⟩) s (Rejected s m b off (b.type * 256 + 0x10))) ∧
    (∀ mask, reaches s m b = true → size = 4 → off % 4 = 0 → perm s m b off v = .allow mask →
      (rowAt b off).isSome = true → lockMask b off = 0 → cfgBlocked s b off v = false → s.busy b = true →
      off ≠ offRaw → off ≠ offEn →
      Completes (.registerWrite ⟨[w], []⟩) s (fun t =>
        t = { s with held := s.held ++ [{ page := b.pg, write := w }], resp := t.resp, seq := s.seq + 1 })) ∧
    (∀ mask, reaches s m b = true → size = 4 → off % 4 = 0 → perm s m b off v = .allow mask → rowAt b off = none →
      Completes (.registerWrite ⟨[w], []⟩) s (Unchanged s)) ∧
    (∀ mask, reaches s m b = true → size = 4 → off = offEn → perm s m b off v = .allow mask → quietReg b off = true →
      s.check.parity = none →
      Completes (.registerWrite ⟨[w], [{ master := m, addr := b.at off, size := 4 }]⟩) s (fun t =>
        t.get b off = merge (s.get b off) v (wd ((rowAt b off).elim 0 (·.rw)) &&& mask) ∧ t.resp.data = [t.get b off] ∧
          OnlyRegs [b.at off] s t))) ∧
  (∀ (p : Nat) (b : Blk) (s : State) (h : Held) (rest : List Held), blkOfPage p = some b → s.busy b = false →
    s.held = h :: rest → h.page = p → h.write.addr = b.at offEn → h.write.size = 4 → b = .sys ∨ b = .ora ∨ b = .belv →
    (∀ mask, judge s h.write = .apply h.write.value mask false →
      Completes (.heldWriteApply p) s (fun t =>
        t.held = rest ∧ t.get b offEn = merge (s.get b offEn) h.write.value (wd ((rowAt b offEn).elim 0 (·.rw)) &&& mask) ∧
          SameRegs [b.at offEn] s t)) ∧
    (∀ code, judge s h.write = .reject code →
      Completes (.heldWriteApply p) s (fun t => t.held = rest ∧ t.get b offEn = s.get b offEn)))

/-- An ENABLE write of 1 to a disabled page starts the check and sets BUSY, one to an enabled page starts none; a write
of 0 stops the block; a write with SOFT_RST ends with the page BUSY and the block stopped, whatever its ENABLE bit
(R58, R63, R64, R66, R67, R70).
The model's choices and readings in it: log entry 45. -/
def Obligations.PagesAreEnabledAndReset : Prop :=
  ∀ (m : Master) (p : Nat) (b : Blk) (s : State) (mask : Word), blkOfPage p = some b → b.fixedEnable = false →
    (Applies s m b offCtrl 1 mask → s.enabled b = false →
      Completes (.enable m p) s (fun t =>
        t.busy b = true ∧ t.enabled b = false ∧ t.refusedB b = false ∧ t.getB b offCtrl 0 = true ∧
          SameRegs [b.at offCtrl, b.at offStatus] s t ∧
          t = { s with regs := t.regs, jobs := t.jobs, resp := t.resp, seq := s.seq + 1 })) ∧
    (Applies s m b offCtrl 1 mask → s.enabled b = true →
      Completes (.enable m p) s (fun t =>
        t.jobs = s.jobs ∧ t.enabled b = true ∧ t.refusedB b = false ∧ OnlyRegs [b.at offCtrl, b.at offStatus] s t)) ∧
    (Applies s m b offCtrl 0 mask → s.enabled b = true → stopRefusal b s = none →
      Completes (.disable m p) s (fun t => t.enabled b = false)) ∧
    (∀ v, Applies s m b offCtrl (v ||| 2) mask →
      Completes (.softRst m p v) s (fun t => t.busy b = true ∧ t.enabled b = false ∧ t.getB b offCtrl 0 = false))

/-- The end of a check: one that passes leaves the page enabled with PG_REASON 0, one that a rule fails leaves it
disabled with REFUSED set, the code and offset in PG_REASON and, on a main-domain page, a record of class CONFIG; either
clears BUSY (R59, R60). The end of a soft reset clears BUSY and leaves the page disabled, its owner as it was (R66, R68).
The model's choices and readings in it: log entries 45 and 47. -/
def Obligations.ChecksAndResetsEnd : Prop :=
  ∀ (p : Nat) (b : Blk) (s : State) (both : Bool), blkOfPage p = some b → b.fixedEnable = false → s.present b = true →
    (s.jobs.get? p = some .check → enableCheck b (clearJob b s) = none →
      Completes (.enableCheckDone (.page p)) s (fun t =>
        t.busy b = false ∧ t.enabled b = true ∧ t.refusedB b = false ∧ t.get b offReason = 0)) ∧
    (∀ code off, s.jobs.get? p = some .check →
      enableCheck b (clearJob b s) = some (code, off) → b.isAo = false → s.enabled b = false →
      Completes (.enableCheckDone (.page p)) s (fun t =>
        t.busy b = false ∧ t.enabled b = false ∧ t.refusedB b = true ∧ t.getB b offCtrl 0 = false ∧
          t.getB b offRaw 0 = true ∧ t.get b offReason = wd (code + off * 0x10000) ∧
          t.check.raised.map (fun x => (x.2.unit, x.2.code, x.2.cls, x.2.detail.take 2)) =
            s.check.raised.map (fun x => (x.2.unit, x.2.code, x.2.cls, x.2.detail.take 2)) ++
              [(b.unit, code, 3, [byteOf off 0, byteOf off 1])] ∧
          SameRegs [b.at offCtrl, b.at offStatus, b.at offRaw, b.at offReason, b.at offErrcnt] s t)) ∧
    (s.jobs.get? p = some (.reset both) → b = .disp ∨ b = .cc ∨ b = .jpeg ∨ b = .csi 0 →
      Completes (.softRstDone p) s (fun t =>
        t.busy b = false ∧ t.enabled b = false ∧ t.get b offOwner = s.get b offOwner ∧
          t.get b offErrcnt = s.get b offErrcnt ∧ t.get b offCollcnt = s.get b offCollcnt ∧
          t.getB b offStatus 4 = s.getB b offStatus 4 ∧
          OtherPages b s t))

/-- Ownership and locking of a page. PG_OWNER takes the owner that SEC, MGMT or the owner writes, or that the new owner of
an unowned page writes for itself; a value of 7 or more is rejected with detail 0x02 (R52). The key 0x5A5A and then
0xA5A5 locks the page, any other value starts over (R53); while LOCKED, an owner write changes nothing and is rejected
with detail 0x07 (R54, R55). HOST_DOMAIN takes 0x5 and 0x6 only, and only while ATTACHED is 0 (R87, R88). -/
def Obligations.OwnersLocksAndTheHost : Prop :=
  ∀ (m : Master) (p : Nat) (b : Blk) (s : State) (v mask : Word), blkOfPage p = some b →
    (Applies s m b offOwner v mask → s.pageLocked b = false → fld v 3 0 < 7 →
      Completes (.ownerWrite m p v) s (fun t =>
        t.owner b = fld v 3 0 ∧ t.pageLocked b = false ∧ OnlyRegs [b.at offOwner] s t)) ∧
    (Applies s m b offOwner v mask → s.pageLocked b = false → 7 ≤ fld v 3 0 →
      Completes (.ownerWrite m p v) s (Rejected s m b offOwner (b.type * 256 + 0x02))) ∧
    (reaches s m b = true → perm s m b offOwner v = .deny →
      Completes (.ownerWrite m p v) s (Rejected s m b offOwner (b.type * 256 + 0x06))) ∧
    (reaches s m b = true → perm s m b offOwner v = .allow mask → s.pageLocked b = true →
      fld v 3 0 ≠ s.owner b → mask = ones →
      Completes (.ownerWrite m p v) s (Rejected s m b offOwner (b.type * 256 + 0x07))) ∧
    (Applies s m b offKey v mask → fld v 15 0 = 0x5A5A →
      Completes (.lockKey m p v) s (fun t =>
        t.keys.contains p = true ∧ t.regs = s.regs ∧ t = { s with keys := t.keys, resp := t.resp, seq := s.seq + 1 })) ∧
    (Applies s m b offKey v mask → fld v 15 0 = 0xA5A5 → s.keys.contains p = true →
      Completes (.lockKey m p v) s (fun t =>
        t.pageLocked b = true ∧ t.owner b = s.owner b ∧ t.keys.contains p = false ∧ SameRegs [b.at offOwner] s t)) ∧
    (Applies s m b offKey v mask → fld v 15 0 ≠ 0x5A5A → (fld v 15 0 = 0xA5A5 → s.keys.contains p = false) →
      Completes (.lockKey m p v) s (fun t => t.keys.contains p = false ∧ t.regs = s.regs)) ∧
    (Applies s m .sys 0x44 v mask → s.pageLocked .sys = false → fld v 3 0 = 5 ∨ fld v 3 0 = 6 →
      s.getB .sys 0x44 8 = false →
      Completes (.hostDomainWrite m v) s (fun t => t.host = fld v 3 0 ∧ t.mem = s.mem ∧
        (∀ x, x ∈ allBlks → s.pageLocked x = true → t.owner x = s.owner x) ∧
        (∀ x, x ∈ allBlks → s.pageLocked x = false → s.owner x ≠ s.host → t.owner x = s.owner x) ∧
        (∀ x, x ∈ allBlks → s.pageLocked x = false → s.owner x = s.host → t.owner x = fld v 3 0))) ∧
    (Applies s m .sys 0x44 v mask → s.pageLocked .sys = false → fld v 3 0 ≠ 5 → fld v 3 0 ≠ 6 →
      Completes (.hostDomainWrite m v) s (Rejected s m .sys 0x44 0x0102)) ∧
    (Applies s m .sys 0x44 v mask → s.pageLocked .sys = false → fld v 3 0 = 5 ∨ fld v 3 0 = 6 →
      s.getB .sys 0x44 8 = true → Completes (.hostDomainWrite m v) s (Rejected s m .sys 0x44 0x0120))

/-- Register reads: a full-word read of a register that has no side effect and that the page shows as stored answers the
stored word and changes nothing (R50); a register that clears on read answers the word and is then 0 for a reader whom
R50 admits; for anyone else the read is rejected with detail 0x06 and answers 0 (R50, R56); a read of an absent page
answers 0 (R42). A parity error answers the stored word with a bus error, sets FAULT and its interrupt and, on a page of
the main domain, raises record 0x0733 (R45); the port's REG_READ then answers status 0x04 and zeros (R98). A write or a
read that times out raises record 0x0111 of SYS, and the read answers 0 with a bus error (R46); the port's sets
HP_STAT.TIMEOUT, and its read answers status 0x03 and zeros (R98, R118).
The model's choices and readings in it: log entries 10 and 50. -/
def Obligations.ReadsAndBusFailures : Prop :=
  ∀ (m : Master) (b : Blk) (off : Nat) (s : State), blkOfPage b.pg = some b → off < 0x1000 → off % 4 = 0 →
    s.gateMisses m b = false → s.check.parity = none →
    (s.present b = true → quietReg b off = true →
      Completes (.registerRead m (b.at off) 4) s (fun t =>
        t.resp.data = [s.get b off] ∧ t.resp.busErr = false ∧ Unchanged s t)) ∧
    (s.present b = true → ((rowAt b off).map (·.rc)).getD false = true → mayRead s m b off = true →
      Completes (.registerRead m (b.at off) 4) s (fun t =>
        t.resp.data = [busView m b off s] ∧ t.get b off = 0 ∧ OnlyRegs [b.at off] s t)) ∧
    (s.present b = true → mayRead s m b off = false →
      Completes (.registerRead m (b.at off) 4) s (fun t =>
        t.resp.data = [0] ∧ t = { s.reject b off (b.type * 256 + 0x06) with resp := t.resp, seq := s.seq + 1 })) ∧
    (reaches s m b = false →
      Completes (.registerRead m (b.at off) 4) s (fun t =>
        t.resp.data = [0] ∧ t.resp.busErr = false ∧ Unchanged s t)) ∧
    (s.present b = true → quietReg b off = true → m ≠ .xspi → s.jobs.get? b.pg = none →
      Completes (.pageParityError m (b.at off)) s (fun t =>
        t.resp.data = [s.get b off] ∧ t.resp.busErr = true ∧ t.getB b offStatus 3 = true ∧ t.getB b offRaw 1 = true ∧
          (b.isAo = false → Raised s t [(b.unit, 0x0733, 0)] ∧ SameRegs [b.at offStatus, b.at offRaw, b.at offErrcnt] s t))) ∧
    (s.present b = true → quietReg b off = true → s.jobs.get? b.pg = none → s.present .hport = true → s.port.octal = true →
      s.port.fifo = [] → s.held = [] → s.port.replay = none →
      Completes (.pageParityError .xspi (b.at off)) s (fun t =>
        t.resp.status = some 4 ∧ t.resp.data = [0] ∧ t.getB b offStatus 3 = true ∧ t.getB b offRaw 1 = true)) ∧
    (reaches s m b = true → m ≠ .xspi → ∀ len,
      Completes (.busTimeout m (b.at off) ⟨true, len⟩) s (fun t =>
        t.resp.busErr = false ∧ Raised s t [(Blk.unit .sys, 0x0111, 0)] ∧ SameRegs [Blk.at .sys offErrcnt] s t) ∧
      Completes (.busTimeout m (b.at off) ⟨false, len⟩) s (fun t =>
        t.resp.data = [0] ∧ t.resp.busErr = true ∧ Raised s t [(Blk.unit .sys, 0x0111, 0)] ∧
          SameRegs [Blk.at .sys offErrcnt] s t)) ∧
    (s.present b = true → s.present .hport = true → s.port.octal = true → ∀ len,
      Completes (.busTimeout .xspi (b.at off) ⟨true, len⟩) s (fun t =>
        t.getB .hport 0x44 3 = true ∧ Raised s t [(Blk.unit .sys, 0x0111, 0)] ∧
          SameRegs [Blk.at .sys offErrcnt, Blk.at .hport 0x44, Blk.at .hport 0x5C] s t) ∧
      (1 ≤ len → len ≤ 64 → off + 4 * len ≤ 0x1000 → s.port.fifo = [] → s.held = [] → s.port.replay = none →
        Completes (.busTimeout .xspi (b.at off) ⟨false, len⟩) s (fun t =>
          t.resp.status = some 3 ∧ t.resp.data = List.replicate len 0 ∧ t.getB .hport 0x44 3 = true ∧
            Raised s t [(Blk.unit .sys, 0x0111, 0)] ∧
            SameRegs [Blk.at .sys offErrcnt, Blk.at .hport 0x44, Blk.at .hport 0x5C] s t)))

/-- Commands of the xSPI port that touch no register page: MODE_OCTAL switches the port to 8D-8D-8D (R90), STATUS_READ
answers HP_STAT with its CRC and ID_READ the part and the page's PG_ID (R92, R96), RESET directly after RESET_ENABLE
resets the port, keeps HP_CFG and the window's address, and frees the port's locks with ABANDONED set (R92, R124), and an
unlisted opcode sets CMD_BAD and nothing else (R92).
The model's choices and readings in it: log entry 49. -/
def Obligations.PortCommandsOfTheirOwn : Prop :=
  ∀ (s : State), s.present .hport = true →
    Completes .modeOctal s (fun t => t.port.octal = true ∧ SameRegs [Blk.at .hport 0x5C] s t ∧ t.mem = s.mem) ∧
    Completes .statusRead s (fun t =>
      let w := setFld (s.get .hport 0x44) 22 16 s.fifoFree
      t.resp.data = [w] ∧ t.resp.bytes = [crc8 (leBytes w.toNat 4), ~~~ crc8 (leBytes w.toNat 4)] ∧
        SameRegs [Blk.at .hport 0x5C] s t) ∧
    Completes .idRead s (fun t =>
      t.resp.data = [s.get .sys 0x40, s.get .hport 0] ∧ t.getN .hport 0x5C = (s.getN .hport 0x5C + 1) % 2 ^ 32 ∧
        SameRegs [Blk.at .hport 0x5C] s t) ∧
    Completes .resetEnable s (fun t =>
      t.port.armed = true ∧ t.port.octal = s.port.octal ∧ t.port.fifo = s.port.fifo ∧ SameRegs [Blk.at .hport 0x5C] s t) ∧
    (s.port.armed = true →
      Completes .reset s (fun t =>
        t.port.octal = false ∧ t.port.fifo = [] ∧ t.port.prefetch = [] ∧ t.get .hport 0x44 = 0x400000 ∧
          t.get .hport 0x40 = s.get .hport 0x40 ∧ t.get .hport 0x48 = s.get .hport 0x48 ∧
          t.get .hport 0x4C = s.get .hport 0x4C ∧
          (∀ n : Fin 64, lockHeld (s.get .lock (lockOff n.val)) = true →
            (lockHolder (s.get .lock (lockOff n.val))).2 = 0x60 → t.get .lock (lockOff n.val) = 2) ∧
          (∀ n : Fin 64, (lockHolder (s.get .lock (lockOff n.val))).2 ≠ 0x60 →
            t.get .lock (lockOff n.val) = s.get .lock (lockOff n.val)))) ∧
    (∀ op nop len nlen : Byte, op.toNat ∉ [0x31, 0x32, 0x41, 0x42, 0x05, 0x9F, 0xE8, 0x66, 0x99] → nop = ~~~ op →
      Completes (.xspiUnknownOpcode op nop len nlen) s (fun t =>
        t.getB .hport 0x44 6 = true ∧ SameRegs [Blk.at .hport 0x44] s t ∧ t.mem = s.mem))

/-- REG_READ and REG_WRITE in 8D-8D-8D mode, of 1 to 64 words. A REG_WRITE of one word whose trailer and address are good,
and which its page applies, stores the word; a wrong trailer drops it and sets CRC_BAD; an address outside the register
space or words past the end of a page drop it and set ADDR_BAD (R94-R97). A REG_READ of one register that shows what it
stores answers status OK, the word and its CRC; late, it answers NOT_READY with zeros and holds the word for a replay,
which answers it without another access (R98, R99); a bad address answers status 0x06 and zeros (R94, R98). In 1S-1S-1S
mode the port ignores both (R90).
The model's choices and readings in it: log entry 49. -/
def Obligations.RegisterCommandsOfThePort : Prop :=
  ∀ (s : State), s.present .hport = true →
    (s.port.octal = true → ∀ b : Blk, b = .belv ∨ b = .sens ∨ b = .ora → ∀ v mask crc,
      Applies s .xspi b offEn v mask → s.port.fifo = [] →
      crc = crc8 ((leBytes (b.at offEn) 4).reverse ++ [1#8] ++ leBytes v.toNat 4) →
      Completes (.regWrite (wd (b.at offEn)) 1 [v] crc (~~~ crc)) s (fun t =>
        t.get b offEn = merge (s.get b offEn) v (wd ((rowAt b offEn).elim 0 (·.rw)) &&& mask) ∧
          SameRegs [b.at offEn, Blk.at .hport 0x5C] s t)) ∧
    (s.port.octal = true → ∀ (addr : Word) (len : Nat) (ws : List Word) (crc ncrc : Byte), 1 ≤ len → len ≤ 64 →
      let good := crc8 ((leBytes addr.toNat 4).reverse ++ leBytes len 1 ++ ws.flatMap (fun w => leBytes w.toNat 4))
      let bad := inRegSpace addr.toNat = false ∨ 0x1000 < addr.toNat % 0x1000 + 4 * len
      (crc ≠ good ∨ ncrc ≠ ~~~ crc → ¬ bad →
        Completes (.regWrite addr len ws crc ncrc) s (fun t =>
          t.getB .hport 0x44 0 = true ∧ SameRegs [Blk.at .hport 0x44] s t ∧ t.mem = s.mem)) ∧
      (crc = good → ncrc = ~~~ good → bad →
        Completes (.regWrite addr len ws crc ncrc) s (fun t =>
          t.getB .hport 0x44 5 = true ∧ SameRegs [Blk.at .hport 0x44] s t ∧ t.mem = s.mem)) ∧
      (∀ late, bad →
        Completes (.regRead addr len late) s (fun t =>
          t.resp.status = some 6 ∧ t.resp.data = List.replicate len 0 ∧ SameRegs [Blk.at .hport 0x5C] s t))) ∧
    (s.port.octal = true → ∀ (b : Blk) (off : Nat) (late : Bool), blkOfPage b.pg = some b → off < 0x1000 → off % 4 = 0 →
      (s.present b = true → quietReg b off = true → s.port.fifo = [] → s.held = [] → s.port.replay = none →
        s.check.parity = none →
        Completes (.regRead (wd (b.at off)) 1 late) s (fun t =>
          t.resp.status = some (if late then 1 else 0) ∧ t.resp.data = [if late then 0 else s.get b off] ∧
            t.port.replay = (if late then some (b.at off, 1, [s.get b off]) else none) ∧
            SameRegs [Blk.at .hport 0x5C] s t)) ∧
      (∀ w, s.port.replay = some (b.at off, 1, [w]) →
        Completes (.regRead (wd (b.at off)) 1 late) s (fun t =>
          t.resp.status = some 0 ∧ t.resp.data = [w] ∧
            t.resp.bytes = [crc8 (leBytes w.toNat 4), ~~~ crc8 (leBytes w.toNat 4)] ∧
            t.port.replay = none ∧ SameRegs [Blk.at .hport 0x5C] s t))) ∧
    (s.port.octal = false → ∀ (addr : Word) (len : Nat) (ws : List Word) (crc ncrc : Byte) (late : Bool),
      Completes (.regWrite addr len ws crc ncrc) s (fun t => t.regs = s.regs ∧ t.mem = s.mem) ∧
      Completes (.regRead addr len late) s (fun t => t.regs = s.regs ∧ t.mem = s.mem))

/-- The memory window. START runs it unless COUNT is 0, the address lies in the register space or it runs already (R106,
R121); a word written to HP_WIN_DATA enters the FIFO and moves the address and the count by one word, or is dropped as
overflow where no write window runs or the count is 0 (R122); WIN_WRITE pushes each of its words so; a word of the read
window comes from the prefetch buffer and moves the window (R106); STOP ends it with what the FIFO holds written first
(R123); the window stops when its count is 0 and the FIFO empty (R122); an access that fails halts it on the failing word
(R107).
The model's choices and readings in it: log entry 49. -/
def Obligations.TheWindowMovesWords : Prop :=
  ∀ (m : Master) (s : State) (v mask : Word), s.present .hport = true →
    (Applies s m .hport 0x54 v mask → bit v 1 = true → s.winActive = false → s.winCount ≠ 0 →
      inRegSpace s.winAddr = false →
      Completes (.windowStart m v) s (fun t =>
        t.winActive = true ∧ t.winWrites = bit v 0 ∧ t.winAddr = s.winAddr ∧ t.winCount = s.winCount ∧
          t.port = { s.port with fifo := [], prefetch := [], halted := none } ∧
          SameRegs [Blk.at .hport 0x54, Blk.at .hport 0x44] s t ∧ t.mem = s.mem)) ∧
    (Applies s m .hport 0x54 v mask → bit v 1 = true → s.winActive = false → s.winCount = 0 →
      Completes (.windowStart m v) s (Rejected s m .hport 0x54 0x0604)) ∧
    (Applies s m .hport 0x54 v mask → bit v 1 = true → s.winActive = false → s.winCount ≠ 0 →
      inRegSpace s.winAddr = true → Completes (.windowStart m v) s (Rejected s m .hport 0x54 0x0620)) ∧
    (Applies s m .hport 0x54 (v ||| 4) mask → bit v 1 = false → s.winActive = true → bit v 0 = s.winWrites →
      s.port.fifo = [] →
      Completes (.windowStop m v) s (fun t =>
        t.winActive = false ∧ t.winAddr = s.winAddr ∧ t.winCount = s.winCount ∧ t.port.prefetch = [] ∧ t.mem = s.mem)) ∧
    (∀ w r lo size, Applies s m .hport 0x54 (v ||| 4) mask → bit v 1 = false → s.winActive = true → bit v 0 = true →
      s.winWrites = true → s.port.fifo = [w] → firstFail s .window s.winNext 4 true = none →
      windowOf s.winNext = some (r, lo, size) → r ∈ [Region.dram, .gtSram, .belvSram, .dispSram] → s.ddr.queue = [] →
      Completes (.windowStop m v) s (fun t =>
        t.winActive = false ∧ t.winAddr = s.winAddr ∧ t.winCount = s.winCount ∧ t.port.fifo = [] ∧
          (∀ i, i < 4 → t.byte (s.winNext + i) = (leBytes w.toNat 4).getD i 0#8) ∧ SameMem s.winNext 4 s t)) ∧
    (Applies s m .hport 0x58 v mask → s.winActive = true → s.winWrites = true → 0 < s.winCount →
      s.port.fifo.length < 64 →
      Completes (.hpWinDataWrite m v) s (fun t =>
        t.port.fifo = s.port.fifo ++ [v] ∧ t.winCount = s.winCount - 1 ∧ t.winAddr = (s.winAddr + 4) % 2 ^ 40 ∧
          t.mem = s.mem)) ∧
    (Applies s m .hport 0x58 v mask → s.winActive = false →
      Completes (.hpWinDataWrite m v) s (fun t =>
        t.getB .hport 0x44 1 = true ∧ OnlyRegs [Blk.at .hport 0x44] s t)) ∧
    (s.port.octal = true → s.winActive = true → s.winWrites = true → 2 ≤ s.winCount → s.port.fifo.length ≤ 62 → ∀ x y,
      Completes (.winWrite 2 [x, y]) s (fun t =>
        t.port.fifo = s.port.fifo ++ [x, y] ∧ t.winCount = s.winCount - 2 ∧ t.mem = s.mem)) ∧
    (∀ w ws, m.dom s = s.owner .hport → s.owner .hport ≠ 0 → s.winActive = true → s.winWrites = false →
      s.port.prefetch = w :: ws →
      Completes (.hpWinDataRead m) s (fun t =>
        t.resp.data = [w] ∧ t.port.prefetch = ws ∧ t.winCount = s.winCount - 1 ∧ t.mem = s.mem)) ∧
    (∀ w ws, s.port.octal = true → s.held = [] → s.port.fifo = [] → s.winActive = true → s.winWrites = false →
      s.port.prefetch = w :: ws →
      Completes (.winRead 1) s (fun t =>
        t.resp.status = some 0 ∧ t.resp.data = [w] ∧ t.port.prefetch = ws ∧ t.winCount = s.winCount - 1)) ∧
    (s.winActive = true → s.winCount = 0 → s.port.fifo = [] →
      Completes .windowCountDone s (fun t => t.winActive = false ∧ SameRegs [Blk.at .hport 0x44] s t)) ∧
    (∀ why, s.winActive = true →
      (if s.winWrites then s.port.fifo ≠ [] else 0 < s.winLeft ∧ s.port.prefetch.length < 64) → s.winLeft < 2 ^ 24 →
      s.winNext < 2 ^ 40 →
      Completes (.windowAccessFail why) s (fun t =>
        t.winActive = false ∧ t.getB .hport 0x44 2 = true ∧ t.getN .hport 0x60 = s.winNext % 2 ^ 32 ∧
          t.winAddr = s.winNext ∧ t.winCount = s.winLeft ∧ t.port.fifo = [] ∧ t.mem = s.mem))

/-! ### Device time (03) -/

/-- Tick edges and strobes. A real edge adds 1 to A and clears S, the accumulator and AO_LOST (R132, R133, R157); a strobe
adds 1 to S, which holds at 999, and runs the accumulator on by 41 a SoC cycle to the first value of 1,250 or more, less
1,250 (R133); without sub-tick counting nothing changes (R134); a synthesised tick, due at the 2,048th strobe without a
real edge and then every 1,000 strobes, acts as an edge and sets AO_LOST, the first one with record 0x6035 (R157).
But for that record nothing else of the device changes.
The model's choices and readings in it: log entry 51. -/
def Obligations.TicksAndStrobesCount : Prop :=
  ∀ s : State, s.aoUp = true →
    Completes .aoTick s (fun t =>
      t.time.a = s.time.a + 1 ∧ t.time.s = 0 ∧ t.time.acc = 0 ∧ t.time.aoLost = false ∧
        t.dt = 1000 * (s.time.a + 1) ∧ t = { s with time := t.time, resp := t.resp, seq := s.seq + 1 }) ∧
    (s.time.fine = true → s.time.acc < 1250 →
      Completes .fineStrobe s (fun t =>
        t.time.a = s.time.a ∧ t.time.s = min (s.time.s + 1) 999 ∧
          t.time.acc < 41 ∧ (1250 + t.time.acc - s.time.acc) % 41 = 0 ∧
          t = { s with time := t.time, resp := t.resp, seq := s.seq + 1 })) ∧
    (s.time.fine = false → Completes .fineStrobe s (fun t => t.time = s.time ∧ Unchanged s t)) ∧
    (s.time.fine = true → s.time.aoLost = true → 1000 ≤ s.time.sinceSy →
      Completes .synthesisedTick s (fun t =>
        t.time.a = s.time.a + 1 ∧ t.time.s = 0 ∧ t.time.acc = 0 ∧ t.time.aoLost = true ∧ t.time.sinceSy = 0 ∧
          t = { s with time := t.time, resp := t.resp, seq := s.seq + 1 })) ∧
    (s.time.fine = true → s.time.aoLost = false → 2048 ≤ s.time.since →
      Completes .synthesisedTick s (fun t =>
        t.time.a = s.time.a + 1 ∧ t.time.s = 0 ∧ t.time.acc = 0 ∧ t.time.aoLost = true))

/-- A read of TIME_DT_LO answers DT[31:0] and latches DT[63:32] for its reader alone, the XFE channels having no latch; a read of TIME_DT_HI answers that
reader's latch, or the upper half of DT where it has none (R141, R142).
The model's choices and readings in it: log entry 12. -/
def Obligations.DeviceTimeReadsAreCoherent : Prop :=
  ∀ (m : Master) (s : State), s.present .time = true → s.gateMisses m .time = false → s.check.parity = none →
    Completes (.timeDtLoRead m) s (fun t =>
      t.resp.data = [wd s.dt] ∧
        t.latches.get? m.code = (if hasLatch m then some (wd (s.dt >>> 32)) else s.latches.get? m.code) ∧
        (∀ x : Fin 256, x.val ≠ m.code → t.latches.get? x.val = s.latches.get? x.val) ∧
        t = { s with latches := t.latches, resp := t.resp, seq := s.seq + 1 }) ∧
    Completes (.timeDtHiRead m) s (fun t =>
      t.resp.data = [(s.latches.get? m.code).getD (wd (s.dt >>> 32))] ∧ Unchanged s t)

/-- Comparator registers. CMPn_LO clears ARMED, CMPn_HI sets it while EN is 1, a write that clears EN clears it (R151); a
period below 32 is rejected with 0x0420 where the comparator is or becomes enabled and periodic, and OWNER set to another
domain's code with 0x0421 unless SEC or MGMT writes (R153); CMPn_STAT answers the missed periods and clears them (R149).
The model's choices and readings in it: log entry 52. -/
def Obligations.ComparatorsAreWrittenAndRead : Prop :=
  ∀ (m : Master) (n : Fin 8) (s : State) (v : Word),
    let base := cmpOff n.val
    (Applies s m .time base v ones →
      Completes (.cmpLoWrite m n v) s (fun t =>
        t.get .time base = v ∧ t.getB .time (base + 0xC) 16 = false ∧ t.getF .time (base + 0xC) 7 0 = s.getF .time (base + 0xC) 7 0 ∧
          OnlyRegs [Blk.at .time base, Blk.at .time (base + 0xC)] s t)) ∧
    (Applies s m .time (base + 4) v ones →
      Completes (.cmpHiWrite m n v) s (fun t =>
        t.get .time (base + 4) = v ∧
          t.getB .time (base + 0xC) 16 = (s.getB .time (base + 0xC) 0 || s.getB .time (base + 0xC) 16) ∧
          OnlyRegs [Blk.at .time (base + 4), Blk.at .time (base + 0xC)] s t)) ∧
    (Applies s m .time (base + 8) v ones → 32 ≤ v.toNat ∨ s.getF .time (base + 0xC) 1 0 ≠ 3 →
      Completes (.cmpPeriodWrite m n v) s (fun t => t.get .time (base + 8) = v ∧ OnlyRegs [Blk.at .time (base + 8)] s t)) ∧
    (Applies s m .time (base + 8) v ones → v.toNat < 32 → s.getF .time (base + 0xC) 1 0 = 3 →
      Completes (.cmpPeriodWrite m n v) s (Rejected s m .time (base + 8) 0x0420)) ∧
    (Applies s m .time (base + 0xC) v ones → fld v 7 4 = 0 ∨ fld v 7 4 = m.dom s ∨ m.dom s = 1 ∨ m.dom s = 2 →
      fld v 1 0 ≠ 3 ∨ 32 ≤ s.getN .time (base + 8) →
      Completes (.cmpCtrlWrite m n v) s (fun t =>
        t.getB .time (base + 0xC) 0 = bit v 0 ∧ t.getB .time (base + 0xC) 1 = bit v 1 ∧
          t.getF .time (base + 0xC) 7 4 = fld v 7 4 ∧
          t.getB .time (base + 0xC) 16 = (bit v 0 && s.getB .time (base + 0xC) 16) ∧
          OnlyRegs [Blk.at .time (base + 0xC)] s t)) ∧
    (Applies s m .time (base + 0xC) v ones → fld v 7 4 ≠ 0 → fld v 7 4 ≠ m.dom s → 2 < m.dom s → fld v 1 0 ≠ 3 →
      Completes (.cmpCtrlWrite m n v) s (Rejected s m .time (base + 0xC) 0x0421)) ∧
    (s.present .time = true → s.getF .time (base + 0xC) 7 4 = m.dom s → m.dom s ≠ 0 →
      Completes (.cmpStatRead m n) s (fun t =>
        t.resp.data = [s.get .time (base + 0x10)] ∧ t.get .time (base + 0x10) = 0 ∧ OnlyRegs [Blk.at .time (base + 0x10)] s t))

/-- An armed comparator whose value DT has reached fires: its interrupt is set; one-shot, it disarms; periodic, its value
moves by whole periods to the first one above DT, and MISSED counts the periods after the first (R152).
The model's choices and readings in it: log entry 12. -/
def Obligations.ComparatorsFire : Prop :=
  ∀ (n : Fin 8) (s : State), let base := cmpOff n.val
    s.present .time = true → s.getB .time (base + 0xC) 16 = true → s.getB .time (base + 0xC) 0 = true →
    s.get64 .time base ≤ s.dt →
    (s.getB .time (base + 0xC) 1 = false →
      Completes (.comparatorFire n) s (fun t =>
        t.getB .time offRaw (8 + n.val) = true ∧ t.getB .time (base + 0xC) 16 = false ∧
          t.get64 .time base = s.get64 .time base ∧ SameRegs [Blk.at .time offRaw, Blk.at .time (base + 0xC)] s t ∧
          t.mem = s.mem)) ∧
    (s.getB .time (base + 0xC) 1 = true → 32 ≤ s.getN .time (base + 8) → s.dt + s.getN .time (base + 8) < 2 ^ 64 →
      Completes (.comparatorFire n) s (fun t =>
        t.getB .time offRaw (8 + n.val) = true ∧ t.getB .time (base + 0xC) 16 = true ∧ s.dt < t.get64 .time base ∧
          t.get64 .time base ≤ s.dt + s.getN .time (base + 8) ∧
          (t.get64 .time base - s.get64 .time base) % s.getN .time (base + 8) = 0 ∧
          t.getF .time (base + 0x10) 7 0 = min (s.getF .time (base + 0x10) 7 0 +
            ((t.get64 .time base - s.get64 .time base) / s.getN .time (base + 8) - 1)) 255 ∧
          SameRegs [Blk.at .time offRaw, Blk.at .time base, Blk.at .time (base + 4), Blk.at .time (base + 0x10)] s t))

/-- Device time in its bounds: S at most 999 and the accumulator below 1,250 (R131, R133). Whatever command the step
runs, it keeps the bounds, and device time never runs backwards unless the always-on supply's power-on reset is released
(R136, R137).
The model's choices and readings in it: log entry 51. -/
def Obligations.DeviceTimeIsBoundedAndMonotonic : Prop :=
  ∀ s t : State, s.timely → step s = .next t →
    t.timely ∧ (s.dt ≤ t.dt ∨ (t.dt = 0 ∧ ∃ cs, s.pending = .aoPorRelease :: cs))

/-- At reset device time is in its bounds, and memory and the register map have their canonical form.
The model's choices and readings in it: log entry 6. -/
def Obligations.ResetIsTimelyAndCanonical : Prop := State.reset.timely ∧ State.reset.canonical

/-! ### Supplies, clocks and sleep (04) -/

/-- Supplies and resets. A rail that becomes good in RUN powers the blocks it was missing for and sets RAIL_UP (R163); one
lost in RUN makes the pages it feeds read as absent and sets its bit in PWR_RAIL_LOST with its interrupt (R164); the loss
of VDD_SOC or VDD_SRAM holds the whole main domain in reset (R167). From OFF, VDD_AO leads to the release of its reset, where
device time starts at 0 (R136, R169), and the release of the main-domain reset leads to RUN and samples HOST_SEL
(R86). A system reset, by the pin or by 0x5AFE in PWR_SYSRST, ends with device time as it was (R136, R168).
The model's choices and readings in it: log entries 10, 56 and 57. -/
def Obligations.SuppliesAndResets : Prop :=
  ∀ (s : State),
    (∀ r : Fin 11, r.val = 4 ∨ r.val = 5 ∨ r.val = 9 → s.power.pstate = .run → s.rail r.val = false → s.rail 2 = true →
      s.rail 3 = true → s.rail 10 = true → s.rail 6 = true → s.rail 7 = true → s.rail 8 = true →
      Completes (.railGood r) s (fun t =>
        t.rail r.val = true ∧ t.getB .pwr offRaw 9 = true ∧
          SameRegs [Blk.at .pwr offRaw, Blk.at .appc offStatus] s t ∧ t.mem = s.mem)) ∧
    (∀ r : Fin 11, r.val = 4 ∨ r.val = 5 ∨ r.val = 9 ∨ r.val = 10 → s.power.pstate = .run → s.rail r.val = true →
      s.rail 2 = true → s.rail 3 = true →
      Completes (.railLost r) s (fun t =>
        t.rail r.val = false ∧ t.getB .pwr 0x44 r.val = true ∧ t.getB .pwr offRaw 8 = true ∧ t.power.pstate = .run ∧
          (∀ b, b ∈ railBlks r.val → t.present b = false) ∧ t.time = s.time)) ∧
    (∀ r : Fin 11, r.val = 2 ∨ r.val = 3 → s.power.pstate = .run → s.sleepDue = false → s.rail r.val = true →
      Completes (.railLost r) s (fun t =>
        t.power.pstate = .held ∧ t.belvSec = true ∧ t.time.fine = false ∧ t.dt = s.dt ∧
          (∀ b, b ∈ allBlks → b.isAo = false → t.present b = false))) ∧
    (s.power.pstate = .off →
      Completes .vddAoGood s (fun t =>
        t.power.pstate = .aoHeld ∧ t.rail 0 = true ∧ t.regs = s.regs ∧ t.mem = s.mem)) ∧
    (s.power.pstate = .aoHeld → Completes .aoPorRelease s (fun t => t.power.pstate = .held ∧ t.dt = 0 ∧ t.regs = s.regs)) ∧
    (∀ boot, s.power.pstate = .held → s.rail 0 = true → s.rail 2 = true → s.rail 3 = true → s.rail 10 = true →
      s.power.thermOff = false →
      Completes (.mainResetRelease boot) s (fun t =>
        t.power.pstate = .run ∧ t.hostSel = boot.hostSel ∧ t.dt = s.dt ∧ t.get .sys 0 = 0x01000001)) ∧
    (∀ boot, s.power.pstate = .run → s.rail 0 = true → s.rail 2 = true → s.rail 3 = true → s.rail 10 = true →
      Completes (.systemReset boot) s (fun t =>
        t.power.pstate = .run ∧ t.hostSel = boot.hostSel ∧ t.time = s.time ∧ t.power.kept = s.power.kept ∧
          t.get .sys 0 = 0x01000001 ∧ t.check.raised.length ≤ 8)) ∧
    (∀ m boot mask, Applies s m .pwr 0x70 0x5AFE mask → m ≠ .xspi → s.power.pstate = .run → s.rail 10 = true →
      Completes (.pwrSysrst m 0x5AFE boot) s (fun t =>
        t.power.pstate = .run ∧ t.hostSel = boot.hostSel ∧ t.time = s.time ∧ t.power.kept = s.power.kept)) ∧
    (∀ m boot v mask, Applies s m .pwr 0x70 v mask → v ≠ 0x5AFE →
      Completes (.pwrSysrst m v boot) s (Unchanged s))

/-- Operating points. A write that moves the target, the lower of REQ and CAP, starts a change; a raise drives the new
code at once (R173, R174); the neural clock switches when the settle time has passed and no cluster has a command in body
or commit, and the application clock likewise (R174, R176): CUR is then the target, OP_DONE is set. A raise still waiting
after twice the settle time is abandoned with OP_FAIL and record 0x0225, CUR unchanged (R175).
The model's choices and readings in it: log entries 43 and 55. -/
def Obligations.OperatingPointsChange : Prop :=
  ∀ (app : Bool) (s : State), s.power.goDt = none →
    let off := opOff app
    (∀ m v, Applies s m .pwr off v 0x3303 → s.pageLocked .pwr = false → s.opNow app = none → s.opTarget app = s.opCur app →
      fld v 9 8 ≤ fld v 13 12 → s.opCur app < min (fld v 1 0) (fld v 9 8) →
      Completes (.operatingPointChange m app v) s (fun t =>
        t.getF .pwr off 1 0 = fld v 1 0 ∧ t.getF .pwr off 9 8 = fld v 9 8 ∧ t.getF .pwr off 13 12 = fld v 13 12 ∧
          t.getB .pwr off 24 = true ∧ t.opCur app = s.opCur app ∧
          t.opNow app = some { target := min (fld v 1 0) (fld v 9 8), raise := true, since := s.dt } ∧
          (if app then t.power.vselApp else t.power.vselNpu) = min (fld v 1 0) (fld v 9 8) ∧
          SameRegs [Blk.at .pwr off] s t ∧ t.mem = s.mem)) ∧
    (∀ x, app = false → s.power.opNpu = some x → x.target ≤ 3 → s.opTarget false = x.target →
      (x.raise = true → x.since + s.settle false ≤ s.dt) → (∀ k : Fin 4, s.csqPhase k.val ≠ 1 ∧ s.csqPhase k.val ≠ 2) →
      Completes .npuClockSwitch s (fun t =>
        t.opCur false = x.target ∧ t.power.opNpu = none ∧ t.getB .pwr 0x48 24 = false ∧ t.getB .pwr offRaw 10 = true ∧
          t.power.vselNpu = x.target ∧ SameRegs [Blk.at .pwr 0x48, Blk.at .pwr offRaw] s t ∧ t.mem = s.mem)) ∧
    (∀ x, app = true → s.power.opApp = some x → x.target ≤ 3 → s.opTarget true = x.target →
      (x.raise = true → x.since + s.settle true ≤ s.dt) → s.app.rst = none →
      Completes .appOpSwitch s (fun t =>
        t.opCur true = x.target ∧ t.power.opApp = none ∧ t.getB .pwr 0x4C 24 = false ∧ t.getB .pwr offRaw 10 = true ∧
          t.power.vselApp = x.target ∧ SameRegs [Blk.at .pwr 0x4C, Blk.at .pwr offRaw] s t ∧ t.mem = s.mem)) ∧
    (∀ x, s.opNow app = some x → x.raise = true → x.since + 2 * s.settle app ≤ s.dt → s.opTarget app = x.target →
      Completes (.opRaiseTimeout app) s (fun t =>
        t.opCur app = s.opCur app ∧ t.opNow app = none ∧ t.getB .pwr off 24 = false ∧ t.getB .pwr offRaw 11 = true ∧
          (if app then t.power.vselApp else t.power.vselNpu) = s.opCur app ∧
          t.check.raised.map (fun x => (x.2.unit, x.2.code, x.2.cls)) =
            s.check.raised.map (fun x => (x.2.unit, x.2.code, x.2.cls)) ++ [(0x0200, 0x0225, 0)] ∧
          SameRegs [Blk.at .pwr off, Blk.at .pwr offRaw, Blk.at .pwr offErrcnt] s t))

/-- Clock domains and PLLs. A permitted CLK_SET bit requests its domain: it runs at once where its PLL is locked, else its
PLL starts (R181, R184); a CLK_CLR bit releases a domain whose page is not enabled and is rejected with 0x0320 for one
whose page is (R211); a PLL that locks starts its requested domains, one that does not is marked failed with record 0x0322
(R182), one without a requested domain stops.
The model's choices and readings in it: log entry 54. -/
def Obligations.ClocksAreRequestedAndReleased : Prop :=
  ∀ (m : Master) (s : State) (d : Fin 32) (hi : Bool),
    let n := d.val + (if hi then 32 else 0)
    let v : Word := 1#32 <<< d.val
    let req := Blk.at .clk (if hi then 0x4C else 0x48)
    let on := Blk.at .clk (if hi then 0x64 else 0x60)
    (∀ mask, Applies s m .clk (if hi then 0x54 else 0x50) v mask → bit mask d.val = true → s.clkHas n = true → s.pllLocked (pllOf n) = true →
      Completes (.clkSet m hi v) s (fun t => t.clkReq n = true ∧ t.clockOn n = true ∧ OnlyRegs [req, on] s t)) ∧
    (∀ mask, Applies s m .clk (if hi then 0x54 else 0x50) v mask → bit mask d.val = true → s.clkHas n = true → s.pllLocked (pllOf n) = false →
      Completes (.clkSet m hi v) s (fun t =>
        t.clkReq n = true ∧ t.clockOn n = s.clockOn n ∧ t.pllRuns (pllOf n) = true ∧
          OnlyRegs [req, Blk.at .clk 0x40] s t)) ∧
    (∀ mask, Applies s m .clk (if hi then 0x5C else 0x58) v mask → bit mask d.val = true → 2 ≤ n → s.clkHas n = true → s.clkInUse n = false →
      Completes (.clkClr m hi v) s (fun t => t.clkReq n = false ∧ t.clockOn n = false ∧ OnlyRegs [req, on] s t)) ∧
    (∀ mask, Applies s m .clk (if hi then 0x5C else 0x58) v mask → bit mask d.val = true → 2 ≤ n → s.clkHas n = true → s.clkInUse n = true →
      Completes (.clkClr m hi v) s (Rejected s m .clk (if hi then 0x5C else 0x58) 0x0320)) ∧
    (∀ p : Fin 6, s.present .clk = true → s.pllRuns p.val = true → s.pllLocked p.val = false →
      Completes (.pllLock p) s (fun t =>
        t.pllLocked p.val = true ∧ (n < 60 → pllOf n = p.val → s.clkReq n = true → t.clockOn n = true) ∧
          OnlyRegs [Blk.at .clk 0x40, Blk.at .clk 0x60, Blk.at .clk 0x64] s t) ∧
      Completes (.pllLockFail p) s (fun t =>
        t.pllRuns p.val = false ∧ t.getB .clk 0x40 (16 + p.val) = true ∧ t.clockOn n = s.clockOn n ∧
          t.check.raised.map (fun x => (x.2.unit, x.2.code, x.2.cls)) =
            s.check.raised.map (fun x => (x.2.unit, x.2.code, x.2.cls)) ++ [(0x0300, 0x0322, 1)] ∧
          SameRegs [Blk.at .clk 0x40, Blk.at .clk offErrcnt] s t)) ∧
    (∀ p : Fin 6, p.val ≠ 0 → s.present .clk = true → s.pllRuns p.val = true →
      (∀ x : Fin 60, pllOf x.val = p.val → s.clkReq x.val = false) →
      Completes (.pllStop p) s (fun t =>
        t.pllRuns p.val = false ∧ t.pllLocked p.val = false ∧ OnlyRegs [Blk.at .clk 0x40] s t))

/-- Sleep entry and wake. GO is accepted only with no command in body or commit, every channel idle, no operating-point
change and no entry in progress (R186); a drained link passes the point of no return (R188); a drain still open 50 µs after
GO, or a wake event before that point, aborts the entry (R189, R190); the end of the entry stops sub-tick counting and
counts it as SLEPT or, with a wake pending, SLEPT_ZERO (R188, R191); the wake sequence starts when an event is pending and
the minimum rails are good (R193-R195), and RUN_READY ends it (R194).
The model's choices and readings in it: log entry 57. -/
def Obligations.SleepIsEnteredAndLeft : Prop :=
  ∀ (s : State),
    (∀ m v mask, Applies s m .pwr 0x54 v mask → bit v 0 = true → (∀ k : Fin 4, s.csqPhase k.val = 0) →
      s.getN .xfe 0x44 = 0 → s.power.opNpu = none → s.power.opApp = none → s.power.goDt = none →
      Completes (.go m v) s (fun t =>
        t.getF .pwr 0x58 2 0 = 1 ∧ t.power.goDt = some s.dt ∧ SameRegs [Blk.at .pwr 0x58] s t ∧ t.mem = s.mem)) ∧
    (∀ m v mask, Applies s m .pwr 0x54 v mask → bit v 0 = true → (∃ k : Fin 4, s.csqPhase k.val = 1 ∨ s.csqPhase k.val = 2) →
      Completes (.go m v) s (Rejected s m .pwr 0x54 0x0220)) ∧
    (s.draining = true → s.mqOcc = 0 → s.power.wakePend = none →
      Completes .sleepDrainDone s (fun t =>
        t.getF .pwr 0x58 2 0 = 2 ∧ t.power = { s.power with past := true } ∧ SameRegs [Blk.at .pwr 0x58] s t ∧
          t.mem = s.mem)) ∧
    (∀ g, s.draining = true → s.power.goDt = some g → g + 1639 ≤ s.dt → s.opTarget true = s.opCur true →
      s.opTarget false = s.opCur false →
      Completes .drainTimeout s (fun t =>
        t.getF .pwr 0x58 2 0 = 0 ∧ t.power.goDt = none ∧ t.power.kept.result = 4 ∧ t.power.pstate = .run ∧
          t.getB .pwr offRaw 12 = true ∧ SameRegs [Blk.at .pwr 0x58, Blk.at .pwr offRaw, Blk.at .pwr offErrcnt] s t)) ∧
    (∀ d, s.draining = true → s.power.wakePend = some d → s.opTarget true = s.opCur true →
      s.opTarget false = s.opCur false →
      Completes .wakeEvent s (fun t =>
        t.getF .pwr 0x58 2 0 = 0 ∧ t.power.goDt = none ∧ t.power.kept.result = 3 ∧ t.power.kept.wakeDt = d ∧
          t.power.pstate = .run ∧ t.getB .pwr offRaw 12 = true ∧ SameRegs [Blk.at .pwr 0x58, Blk.at .pwr offRaw] s t)) ∧
    (s.sleepDue = true →
      Completes .sleepReached s (fun t =>
        t.power.pstate = .sleep ∧ t.time.fine = false ∧ t.dt = s.dt ∧ t.power.kept.count = (s.power.kept.count + 1) % 65536 ∧
          t.power.kept.result = (if s.power.wakePend.isSome then 2 else 1) ∧
          t.power.pmicSlp = !s.power.wakePend.isSome ∧
          (∀ b, b ∈ allBlks → b.isAo = false → t.present b = false))) ∧
    (∀ bad fail, s.wakeDue = true →
      Completes (.wakeSequenceStart bad fail) s (fun t =>
        t.power.pstate = .waking ∧ t.power.pmicSlp = false ∧ t.power.wakePend = none ∧ t.power.wakeSeq = some s.dt ∧
          some t.power.kept.wakeDt = s.power.wakePend ∧ t.dt = s.dt)) ∧
    (s.power.pstate = .waking → s.power.slowWake = false →
      Completes .runReady s (fun t =>
        t.power.pstate = .run ∧ t.power.wakeSeq = none ∧ t.power.kept.readyDt = s.dt))

/-- The thermal rules. FW1's governor sets both CAPs from the highest published reading (R199): 0 at 100 °C or above, one
less from 95 °C, one more after three readings at 85 °C or below, else unchanged, never above CEIL. A sensor at 110 °C or
above trips the clock division with record 0x0230 (R200); TRIP clears only while every sensor reads 100 °C or below (R206);
a sensor at 120 °C or above shuts the main domain down until a system reset (R201).
The model's choices and readings in it: log entry 58. -/
def Obligations.ThermalRulesHold : Prop :=
  ∀ (s : State),
    (∀ x rest, s.temps = x :: rest → s.fwRuns 1 = true → s.power.pstate = .run → s.power.goDt = none →
      s.power.govDt + 32768000 ≤ s.dt →
      let hot := rest.foldl max x
      let hist := (hot :: s.power.tmax).take 3
      let cap := fun (app : Bool) =>
        let c := s.getF .pwr (opOff app) 9 8
        if 800 ≤ hot then 0 else if 760 ≤ hot then c - 1
        else if hist.length = 3 ∧ hist.all (fun y => decide (y ≤ 680)) = true
          then min (c + 1) (s.getF .pwr (opOff app) 13 12) else c
      (∀ app, s.getF .pwr (opOff app) 9 8 ≤ s.getF .pwr (opOff app) 13 12) →
      Completes .governorTick s (fun t =>
        t.getF .pwr 0x48 9 8 = cap false ∧ t.getF .pwr 0x4C 9 8 = cap true ∧ t.power.tmax = hist ∧
          t.getF .pwr 0x48 1 0 = s.getF .pwr 0x48 1 0 ∧ t.getF .pwr 0x48 13 12 = s.getF .pwr 0x48 13 12 ∧
          SameRegs [Blk.at .pwr 0x48, Blk.at .pwr 0x4C] s t ∧ t.mem = s.mem)) ∧
    (∀ (n : Fin 12) x, s.present .pwr = true → s.temp n.val = some x → 880 ≤ x → s.getB .pwr 0x6C 0 = false →
      Completes (.thermalTrip n) s (fun t =>
        t.getB .pwr 0x6C 0 = true ∧ t.getF .pwr 0x6C 11 8 = n.val ∧ t.getB .pwr offRaw 13 = true ∧
          t.check.raised.map (fun y => (y.2.unit, y.2.code, y.2.cls)) =
            s.check.raised.map (fun y => (y.2.unit, y.2.code, y.2.cls)) ++ [(0x0200, 0x0230, 0)] ∧
          SameRegs [Blk.at .pwr 0x6C, Blk.at .pwr offRaw, Blk.at .pwr offErrcnt] s t)) ∧
    (∀ m v mask, Applies s m .pwr 0x6C v mask → bit v 0 = true → s.temps.any (fun x => decide (800 < x)) = false →
      Completes (.tripClear m v) s (fun t => t.getB .pwr 0x6C 0 = false ∧ OnlyRegs [Blk.at .pwr 0x6C] s t)) ∧
    (∀ m v mask, Applies s m .pwr 0x6C v mask → bit v 0 = true → s.temps.any (fun x => decide (800 < x)) = true →
      Completes (.tripClear m v) s (Rejected s m .pwr 0x6C 0x0226)) ∧
    (∀ (n : Fin 12) x, s.present .pwr = true → s.temp n.val = some x → 960 ≤ x →
      Completes (.thermalShutdown n) s (fun t =>
        t.power.pstate = .held ∧ t.power.thermOff = true ∧ t.power.kept.shutdown = true ∧ t.dt = s.dt ∧
          (∀ b, b ∈ allBlks → b.isAo = false → t.present b = false) ∧ t.mayRelease = false))

/-! ### The address map and DRAM (05) -/

/-- Accesses by address. A processor's or the window's access outside every backed part that it reaches is a decode
miss: a bus error and record 0x0121 of SYS, with DDR_MISS where the address lies past the installed DRAM (R219, R220,
R222), which it does not record while the controller is disabled (R254). One the partition firewall denies leaves a bus
error, record 0x0122 and the denial in FW (R223). One that reaches backed memory, with no older request waiting at the DRAM
controller, reads it, or stores exactly its bytes; in DRAM it counts at its port, P7 for the application cores and P8
for the others (R240, R247).
The model's choices and readings in it: log entries 6, 8 and 61. -/
def Obligations.MemoryIsReachedByAddress : Prop :=
  ∀ (g : Agent) (a : Nat) (write : Bool) (s : State),
    hearsBusErrors g = true →
    (∀ r lo size, windowOf a = some (r, lo, size) → reachesRegion g r = true → r ≠ .orangery → r ≠ .registers → r ≠ .dram →
      (r = .rom ∧ write = true) ∨ lo + s.backed r ≤ a →
      Completes (.decodeMiss g a write) s (fun t =>
        t.resp.busErr = true ∧ t.mem = s.mem ∧ Raised s t [(0x0100, 0x0121, 3)] ∧
          SameRegs [Blk.at .sys offErrcnt] s t)) ∧
    (∀ r lo size, windowOf a = some (r, lo, size) → reachesRegion g r = false → r ≠ .dram →
      Completes (.decodeMiss g a write) s (fun t =>
        t.resp.busErr = true ∧ t.mem = s.mem ∧ Raised s t [(0x0100, 0x0121, 3)] ∧
          SameRegs [Blk.at .sys offErrcnt] s t)) ∧
    (windowOf a = none →
      Completes (.decodeMiss g a write) s (fun t =>
        t.resp.busErr = true ∧ t.mem = s.mem ∧ Raised s t [(0x0100, 0x0121, 3)] ∧
          SameRegs [Blk.at .sys offErrcnt] s t)) ∧
    (reachesRegion g .dram = true → dramBase + s.dramSize ≤ a → a < dramEnd → s.enabled .ddrc = true →
      Completes (.decodeMiss g a write) s (fun t =>
        t.resp.busErr = true ∧ t.mem = s.mem ∧ Raised s t [(0x0100, 0x0121, 3)] ∧
          t.getN .ddrc 0x5C = a % 2 ^ 32 ∧ t.getN .ddrc 0x60 = a / 2 ^ 32 ∧
          SameRegs [Blk.at .sys offErrcnt, Blk.at .ddrc 0x5C, Blk.at .ddrc 0x60] s t)) ∧
    (reachesRegion g .dram = true → dramBase ≤ a → a < dramEnd → s.enabled .ddrc = false →
      Completes (.decodeMiss g a write) s (fun t =>
        t.resp.busErr = true ∧ t.mem = s.mem ∧ Raised s t [(0x0100, 0x0121, 3)] ∧
          SameRegs [Blk.at .sys offErrcnt] s t)) ∧
    (∀ i, accJudge s g a write = .deny i →
      Completes (.firewallDeny g a write) s (fun t =>
        t.resp.busErr = true ∧ t.mem = s.mem ∧ Raised s t [(0x0100, 0x0122, 3)] ∧
          t.getN .fw 0xC0 = a % 2 ^ 32 ∧ t.getF .fw 0xC4 7 0 = a / 2 ^ 32 % 256 ∧ t.getB .fw 0xC4 29 = write ∧
          t.getB .fw offRaw 9 = true ∧
          SameRegs [Blk.at .sys offErrcnt, Blk.at .fw 0xC0, Blk.at .fw 0xC4, Blk.at .fw offRaw] s t)) ∧
    (∀ n, regMaster g a = none → firstFail s g a n false = none → s.ddr.queue = [] →
      Completes (.memoryAccess (.load g a n)) s (fun t =>
        t.resp.bytes = s.bytes a n ∧ t.mem = s.mem ∧
          SameRegs [Blk.at .ddrc (0xA0 + 4 * (agentPort g).getD 8)] s t)) ∧
    (∀ bs : List Byte, regMaster g a = none → firstFail s g a bs.length true = none → s.ddr.queue = [] →
      (∀ x, x ∈ (windowOf a).toList → x.1 ≠ .orangery ∧ ∀ n : Fin 16, x.1 = .tile n.val → s.getF (.nc n) 0x48 1 0 = 0) →
      (∀ c : Fin 4, g ≠ .cpu (.application c)) →
      Completes (.memoryAccess (.store g a bs)) s (fun t =>
        (∀ i, i < bs.length → t.byte (a + i) = bs.getD i 0#8) ∧
          SameMem a bs.length s t ∧ SameRegs [Blk.at .ddrc 0xC0] s t))

/-- DRAM training. START with the PHY page enabled, no training in progress, the controller disabled and no reserved RATE
or DENSITY begins one, DRAM not having been without refresh for more than 32 ms (R255); in every other case it is rejected with the first rule that fails (R252). A training that succeeds
sets DONE unless DDR_CFG was written meanwhile, and then writes the retention record (R233, R252); a failed attempt is retried,
and the third failure sets FAIL with its step and channel and raises record 0x3025 of class PERMANENT (R232).
The model's choices and readings in it: log entry 60. -/
def Obligations.DramIsTrained : Prop :=
  ∀ (m : Master) (v mask : Word) (s : State),
    (Applies s m .ddrphy 0x40 v mask → bit v 0 = true →
      (s.enabled .ddrphy = false → Completes (.trainingStart m v) s (Rejected s m .ddrphy 0x40 0x3008)) ∧
      (s.enabled .ddrphy = true → s.ddr.train.isSome = true →
        Completes (.trainingStart m v) s (Rejected s m .ddrphy 0x40 0x3028)) ∧
      (s.enabled .ddrphy = true → s.ddr.train = none → s.enabled .ddrc = true →
        Completes (.trainingStart m v) s (Rejected s m .ddrphy 0x40 0x3024)) ∧
      (s.enabled .ddrphy = true → s.ddr.train = none → s.enabled .ddrc = false →
        6 ≤ s.getF .ddrc 0x40 2 0 ∨ 5 ≤ s.getF .ddrc 0x40 10 8 →
        Completes (.trainingStart m v) s (Rejected s m .ddrphy 0x40 0x3002)) ∧
      (s.enabled .ddrphy = true → s.ddr.train = none → s.enabled .ddrc = false → s.getF .ddrc 0x40 2 0 < 6 →
        s.getF .ddrc 0x40 10 8 < 5 → (∀ d, s.ddr.offDt = some d → s.dt ≤ d + 1048576) →
        Completes (.trainingStart m v) s (fun t =>
          t.get .ddrphy 0x44 = 4 ∧ t.ddr.train = some (s.get .ddrc 0x40, false) ∧ t.ddr.attempts = 0 ∧
            SameRegs [Blk.at .ddrphy 0x44] s t ∧ t.mem = s.mem))) ∧
    (∀ cfg dirty, s.ddr.train = some (cfg, dirty) →
      Completes (.trainingEnd .done) s (fun t =>
        t.ddr.train = none ∧ t.getB .ddrphy 0x44 0 = !dirty ∧ t.getB .ddrphy 0x44 1 = false ∧
          t.getB .ddrphy 0x44 2 = false ∧ (dirty = false → t.getB .ddrphy 0x48 0 = true ∧ t.ddr.retain.isSome = true) ∧
          SameRegs [Blk.at .ddrphy 0x44, Blk.at .ddrphy 0x48, Blk.at .ddrc 0x48] s t ∧ t.mem = s.mem)) ∧
    (∀ cfg dirty, ∀ step : Fin 6, ∀ chan : Fin 2, s.ddr.train = some (cfg, dirty) → step ≠ 0 → s.ddr.attempts < 2 →
      Completes (.trainingEnd (.failed step chan)) s (fun t =>
        t.ddr = { s.ddr with attempts := s.ddr.attempts + 1 } ∧ OnlyRegs [] s { t with ddr := s.ddr })) ∧
    (∀ cfg dirty, ∀ step : Fin 6, ∀ chan : Fin 2, s.ddr.train = some (cfg, dirty) → step ≠ 0 → 2 ≤ s.ddr.attempts →
      Completes (.trainingEnd (.failed step chan)) s (fun t =>
        t.ddr.train = none ∧ t.getB .ddrphy 0x44 0 = false ∧ t.getB .ddrphy 0x44 1 = true ∧
          t.getB .ddrphy 0x44 2 = false ∧ t.getF .ddrphy 0x44 6 4 = step.val ∧ t.getF .ddrphy 0x44 8 8 = chan.val ∧
          t.getF .ddrphy 0x44 15 12 = 3 ∧ Raised s t [(0x3001, 0x3025, 1)] ∧
          SameRegs [Blk.at .ddrphy 0x44, Blk.at .ddrphy offErrcnt] s t))

/-- The running controller. A tracking run that is due clears its channel's count inside the window; outside it sets
TRK_FAIL and raises record 0x3026, PERMANENT from the third run in a row on and TRANSIENT before (R236); a refresh takes one bank with MODE 0 and all banks with MODE 1 (R237); MR4 sets REF_RATE
(R238); an idle channel powers down when IDLE is not 0 (R239). A request joins the queue with its port's class, P0's with its
descriptor's and never as ISOCH (R240, R241, R259); age promotes a waiting BULK or NORMAL request (R244); a lone request is
served: its bytes land, or its 64-byte unit is answered, and the port counts one unit (R228, R242, R247); of two requests
to other units the one of the higher class goes first (R242).
The model's choices and readings in it: log entry 59. -/
def Obligations.TheDramControllerRuns : Prop :=
  ∀ (s : State) (ch : Fin 2), s.present .ddrc = true → s.enabled .ddrc = true →
    ((s.ddr.trkDt.get? ch.val).getD 0 + s.getN .ddrc 0x50 ≤ s.dt →
      Completes (.trackingRun ch true) s (fun t => t.ddr.trk ch.val = 0 ∧ OnlyRegs [] s { t with ddr := s.ddr }) ∧
      Completes (.trackingRun ch false) s (fun t =>
        t.ddr.trk ch.val = s.ddr.trk ch.val + 1 ∧ t.getB .ddrc 0x48 2 = true ∧
          Raised s t [(0x3000, 0x3026, if 2 ≤ s.ddr.trk ch.val then 1 else 0)] ∧
          SameRegs [Blk.at .ddrc 0x48, Blk.at .ddrc offErrcnt] s t)) ∧
    Completes (.refresh ch) s (fun t =>
      let all := s.getB .ddrc 0x4C 0
      let next := fun r : Refreshes =>
        { r with perBank := r.perBank + (if all then 0 else 1), allBank := r.allBank + (if all then 1 else 0) }
      t.ddr = (if ch = 0 then { s.ddr with refA := next s.ddr.refA } else { s.ddr with refB := next s.ddr.refB }) ∧
        OnlyRegs [] s { t with ddr := s.ddr }) ∧
    (∀ code : Fin 8, Completes (.mr4Read code) s (fun t =>
      t.getF .ddrc 0x48 10 8 = code.val ∧ t.getF .ddrc 0x48 7 0 = s.getF .ddrc 0x48 7 0 ∧ OnlyRegs [Blk.at .ddrc 0x48] s t)) ∧
    (s.getF .ddrc 0x54 15 0 ≠ 0 → s.ddr.queue = [] →
      Completes (.powerDownEntry ch) s (fun t =>
        (if ch = 0 then t.ddr.pdA else t.ddr.pdB) = true ∧ (if ch = 0 then t.ddr.pdB = s.ddr.pdB else t.ddr.pdA = s.ddr.pdA) ∧
          OnlyRegs [] s { t with ddr := s.ddr })) ∧
    (∀ (r : DdrReq) (cls : Nat), s.inDram r.addr 1 = true → r.addr % 64 + (r.data.map List.length).getD 1 ≤ 64 →
      (r.port ≠ 0 ∧ cls = s.getF .ddrc (0x70 + 4 * r.port.val) 1 0) ∨
        (r.port = 0 ∧ ∃ a, (s.chan r.chan.val).active = some a ∧ cls = min 2 (fld (a.words.getD 0 0) 3 2)) →
      Completes (.memoryAccess (.request r)) s (fun t =>
        t.ddr = { s.ddr with queue := s.ddr.queue ++ [{ r with cls := Fin.ofNat 4 cls, aged := false }] } ∧
          OnlyRegs [] s { t with ddr := s.ddr })) ∧
    (∀ i, ∀ r : DdrReq, s.ddr.queue[i]? = some r → r.cls.val < 2 →
      (if r.cls.val = 0 then s.getF .ddrc 0x58 31 16 else s.getF .ddrc 0x58 15 0) ≠ 0 →
      Completes (.agePromotion i) s (fun t =>
        t.ddr = { s.ddr with queue := s.ddr.queue.set i { r with aged := true } } ∧ OnlyRegs [] s { t with ddr := s.ddr })) ∧
    (∀ r : DdrReq, s.ddr.queue = [r] → ddrChan r.addr = ch.val →
      Completes (.memoryAccess (.serve ch)) s (fun t =>
        t.ddr.queue = [] ∧ t.getN .ddrc (0xA0 + 4 * r.port.val) = min (s.getN .ddrc (0xA0 + 4 * r.port.val) + 1) 0xFFFFFFFF ∧
          (∀ bs, r.data = some bs → t.mem = putBytes s.mem r.addr bs) ∧
          (r.data = none → t.mem = s.mem ∧ t.resp.bytes = s.bytes (r.addr - r.addr % 64) 64) ∧
          SameRegs [Blk.at .ddrc (0xA0 + 4 * r.port.val)] s t)) ∧
    (∀ x y : DdrReq, s.ddr.queue = [x, y] → ddrChan x.addr = ch.val → ddrChan y.addr = ch.val → x.addr / 64 ≠ y.addr / 64 →
      x.cls.val < y.cls.val → y.cls.val < 3 → (x.cls = 0 → x.aged = false) →
      Completes (.memoryAccess (.serve ch)) s (fun t => t.ddr.queue = [x]))

/-! ### The Orangery, its slot table and compare-and-count (06) -/

/-- Accesses to the Orangery by address that do not reach it, and the narrow bursts. Past ORA_SIZE an access leaves the
offset, the interrupt and record 0x1230; while the page is disabled record 0x1231; a write into the model-cache region
from a domain other than SEC, MGMT and SCHED is dropped with record 0x1232 (R262, R287, R312). A processor or the window
gets a bus error on a read. Bytes never change. A forced burst of a bank whose group, bank div 4, is in WIDEFIRST mode is
counted, the bank of offset o being o div 64 modulo the banks (R261, R267, R296).
The model's choices and readings in it: log entry 64. -/
def Obligations.TheOrangeryTurnsAccessesAway : Prop :=
  ∀ (g : Agent) (off : Nat) (write : Bool) (s : State), hearsBusErrors g = true → off < 0x2000000 →
    (reachesRegion g .orangery = true → s.enabled .ora = true → s.part.oraSize ≤ off →
      Completes (.orangeryOutOfRange g off write) s (fun t =>
        t.resp.busErr = !write ∧ t.getN .ora 0x54 = off ∧ t.getB .ora offRaw 9 = true ∧ Raised s t [(0x1200, 0x1230, 3)] ∧
          t.mem = s.mem ∧ SameRegs [Blk.at .ora 0x54, Blk.at .ora offRaw, Blk.at .ora offErrcnt] s t)) ∧
    (reachesRegion g .orangery = true → s.enabled .ora = false →
      Completes (.orangeryOutOfRange g off write) s (fun t =>
        t.resp.busErr = true ∧ Raised s t [(0x1200, 0x1231, 3)] ∧ t.mem = s.mem ∧ SameRegs [Blk.at .ora offErrcnt] s t)) ∧
    (reachesRegion g .orangery = true → s.enabled .ora = true → off < s.part.oraSize →
      agentDom s g ≠ 1 → agentDom s g ≠ 2 → agentDom s g ≠ 4 → inWindow off 1 s.mcRegion.1 s.mcRegion.2 = true →
      Completes (.modelCacheProtect g off) s (fun t =>
        t.resp.busErr = true ∧ t.getB .ora offRaw 10 = true ∧ Raised s t [(0x1200, 0x1232, 3)] ∧ t.mem = s.mem ∧
          SameRegs [Blk.at .ora offRaw, Blk.at .ora offErrcnt] s t)) ∧
    (∀ o, s.present .ora = true → s.enabled .ora = true → o < s.part.oraSize →
      s.getB .ora 0x48 (o / 64 % s.part.banks / 4) = true →
      Completes (.narrowForce o) s (fun t =>
        t.getN .ora 0x64 = min (s.getN .ora 0x64 + 1) 0xFFFFFFFF ∧ OnlyRegs [Blk.at .ora 0x64] s t))

/-- The slot table window. LOAD stages the four words of the addressed entry; STORE writes the staged words into it unless
a rule of R301 refuses; INVAL clears VALID and recomputes CHECK; INC then moves ST_INDEX on by one modulo 4,096 (R300,
R301). More than one operation is rejected with 0x02.
The model's choices and readings in it: log entry 62. -/
def Obligations.TheSlotTableIsLoadedAndStored : Prop :=
  ∀ (m : Master) (v mask : Word) (s : State), Applies s m .st 0x44 v mask → s.getN .st 0x40 < 4096 →
    let h := s.getN .st 0x40
    let next := if bit v 8 then (h + 1) % 4096 else h
    let staged : Slot := { w0 := s.get .st 0x50, w1 := s.get .st 0x54, w2 := s.get .st 0x58, check := (s.get .st 0x5C).setWidth 8 }
    (fld v 2 0 = 1 →
      Completes (.stLoad m v) s (fun t =>
        t.get .st 0x50 = (s.slot h).w0 ∧ t.get .st 0x54 = (s.slot h).w1 ∧ t.get .st 0x58 = (s.slot h).w2 ∧
          t.getN .st 0x5C = (s.slot h).check.toNat ∧ t.getN .st 0x40 = next ∧
          OnlyRegs [Blk.at .st 0x40, Blk.at .st 0x50, Blk.at .st 0x54, Blk.at .st 0x58, Blk.at .st 0x5C] s t)) ∧
    (fld v 2 0 = 2 → (s.slot h).inUse = false → staged.check = slotCheck staged.w0 staged.w1 staged.w2 →
      s.getF .st 0x5C 31 8 = 0 → fld staged.w0 15 13 = 0 → fld staged.w1 3 2 = 0 → fld staged.w1 23 18 = 0 →
      staged.state = 0 ∨ staged.state = 2 → staged.released = 0 → staged.holders = 0 → staged.filler = 0 →
      staged.base + staged.size ≤ s.part.oraSize → staged.valid = false ∨ mcPlace s staged.base staged.size = some staged.model →
      Completes (.stStore m v) s (fun t =>
        t.slot h = staged ∧ (∀ x, x ≠ h → t.slot x = s.slot x) ∧ t.getN .st 0x40 = next ∧
          SameRegs [Blk.at .st 0x40] s t ∧ t.mem = s.mem ∧ t.ora.claims = s.ora.claims)) ∧
    (fld v 2 0 = 2 → (s.slot h).inUse = true → Completes (.stStore m v) s (Rejected s m .st 0x44 0x1224)) ∧
    (fld v 2 0 = 2 → (s.slot h).inUse = false → staged.check ≠ slotCheck staged.w0 staged.w1 staged.w2 →
      Completes (.stStore m v) s (Rejected s m .st 0x44 0x120C)) ∧
    (fld v 2 0 = 4 → (s.slot h).inUse = false →
      Completes (.stInval m v) s (fun t =>
        (t.slot h).valid = false ∧ (t.slot h).w0 = (s.slot h).w0 ∧ (t.slot h).w2 = (s.slot h).w2 ∧
          (t.slot h).check = slotCheck (t.slot h).w0 (t.slot h).w1 (t.slot h).w2 ∧ (∀ x, x ≠ h → t.slot x = s.slot x) ∧
          t.getN .st 0x40 = next ∧ SameRegs [Blk.at .st 0x40] s t ∧ t.mem = s.mem)) ∧
    (fld v 2 0 = 4 → (s.slot h).inUse = true → Completes (.stInval m v) s (Rejected s m .st 0x44 0x1224)) ∧
    (fld v 2 0 ∉ [0, 1, 2, 4] → Completes (.stStore m v) s (Rejected s m .st 0x44 0x1202))

/-- A handle use is checked in the order of R275: the first condition that holds raises SLOT_ORDER with its cause, moves
no byte, changes no claim and leaves the trap registers, the interrupt and record 0x1240 of class TRANSIENT (R282). With
none of them it is accepted: a WRITE of an EMPTY slot makes it FILLING for the agent, a READ or RELEASE holds it once
(R276). -/
def Obligations.HandleUsesAreCheckedInOrder : Prop :=
  ∀ (s : State) (agent req h gen kind off len op : Nat), s.enabled .ora = true → h < 4096 → gen < 256 → kind ≤ 2 →
    agent < 256 → req < 256 →
    let e := s.slot h
    let r := handleUse agent req h gen kind off len op s
    let full := e.drains ≠ 0 ∧ e.released = e.drains
    let mine := e.state = 1 ∧ e.filler = agent ∧ (s.claim? agent h).isSome = true
    let fails := fun cause : Nat => r.2 = false ∧ r.1.mem = s.mem ∧ r.1.ora.claims = s.ora.claims ∧
      r.1.getF .ora 0x5C 11 0 = h ∧ r.1.getF .ora 0x5C 14 12 = cause ∧ r.1.getF .ora 0x5C 23 16 = gen ∧
      r.1.getF .ora 0x5C 31 24 = e.gen ∧ r.1.getF .ora 0x60 1 0 = e.state ∧ r.1.getF .ora 0x60 5 4 = kind ∧
      r.1.getF .ora 0x60 15 8 = req ∧ r.1.getN .ora 0x58 = min (s.getN .ora 0x58 + 1) 0xFFFFFFFF ∧
      r.1.getB .ora offRaw 8 = true ∧ Raised s r.1 [(0x1200, 0x1240, 0)] ∧
      SameRegs [Blk.at .ora 0x58, Blk.at .ora 0x5C, Blk.at .ora 0x60, Blk.at .ora offRaw, Blk.at .ora offErrcnt] s r.1
    let good := e.valid = true ∧ e.check = slotCheck e.w0 e.w1 e.w2
    (e.valid = false → fails 4) ∧
    (e.valid = true → e.check ≠ slotCheck e.w0 e.w1 e.w2 → fails 6 ∧ (r.1.slot h).valid = false) ∧
    (good → e.size < off + len → fails 5) ∧
    (good → off + len ≤ e.size → kind ≠ 2 → e.state ≤ 1 ∨ full → fails 1) ∧
    (good → off + len ≤ e.size → kind = 2 → e.state ≠ 0 → ¬ mine → fails 2) ∧
    (good → off + len ≤ e.size → (kind ≠ 2 ∧ 2 ≤ e.state ∧ ¬ full) ∨ (kind = 2 ∧ (e.state = 0 ∨ mine)) → gen ≠ e.gen → fails 3) ∧
    (good → off + len ≤ e.size → gen = e.gen → kind = 2 → e.state = 0 →
      r.2 = true ∧ (r.1.slot h).state = 1 ∧ (r.1.slot h).filler = agent ∧ (r.1.slot h).w0 = e.w0 ∧ r.1.mem = s.mem ∧
        r.1.regs = s.regs ∧ ((r.1.claim? agent h).map (·.fill)) = some true) ∧
    (good → off + len ≤ e.size → gen = e.gen → kind ≠ 2 → 2 ≤ e.state → ¬ full → e.holders < 15 →
      r.2 = true ∧ (r.1.slot h).state = e.state ∧ (r.1.slot h).released = e.released ∧
        (r.1.slot h).holders = e.holders + (if (s.claim? agent h).elim false (·.reads) then 0 else 1) ∧
        (r.1.slot h).w0 = e.w0 ∧ r.1.mem = s.mem ∧ r.1.regs = s.regs ∧ ((r.1.claim? agent h).map (·.reads)) = some true)

/-- A commit publishes the claims of its command (R277): a fill becomes FULL with the next generation and no releases, a
release is counted and the slot drains, a read claim gives up its hold, LAST_CMD is the command's; a slot whose releases
reach DRAINS with no holder becomes EMPTY (R278). A kill returns them (R279): a fill's slot is EMPTY again with its
generation and its bytes undefined, a read claim gives up its hold, a pending release is dropped.
The model's choices and readings in it: log entry 62. -/
def Obligations.ClaimsArePublishedOrReturned : Prop :=
  ∀ (s : State) (c : Claim) (cmd : Word), (s.slot c.handle).valid = true →
    let e := s.slot c.handle
    let p := publishClaim (some cmd) c s
    let q := returnClaim c s
    let x := p.slot c.handle
    let y := q.slot c.handle
    (c.fill = true → c.reads = false → c.release = false → e.state = 1 →
      x.state = 2 ∧ x.gen = (e.gen + 1) % 256 ∧ x.released = 0 ∧ x.filler = 0 ∧ x.holders = e.holders ∧ x.base = e.base ∧
        x.w2 = cmd ∧ p.mem = s.mem ∧ (∀ h, h ≠ c.handle → p.slot h = s.slot h) ∧
        y.state = 0 ∧ y.gen = e.gen ∧ y.filler = 0 ∧ q.mem = s.mem.clear (oraBase + e.base) e.size ∧
        (∀ h, h ≠ c.handle → q.slot h = s.slot h)) ∧
    (c.fill = false → c.reads = true → c.release = false → 2 ≤ e.holders →
      x.state = e.state ∧ x.w0 = e.w0 ∧ x.holders = e.holders - 1 ∧ x.released = e.released ∧ x.w2 = cmd ∧ p.mem = s.mem ∧
        y.state = e.state ∧ y.w0 = e.w0 ∧ y.holders = e.holders - 1 ∧ y.released = e.released ∧ y.w2 = e.w2 ∧ q.mem = s.mem) ∧
    (c.fill = false → c.reads = true → c.release = true → 1 ≤ e.holders → e.released < e.drains →
      x.w0 = e.w0 ∧ x.holders = e.holders - 1 ∧
        (if e.holders = 1 ∧ e.released + 1 = e.drains then x.state = 0 ∧ x.released = 0
         else x.state = 3 ∧ x.released = e.released + 1) ∧ p.mem = s.mem ∧
        y.state = e.state ∧ y.w0 = e.w0 ∧ y.holders = e.holders - 1 ∧ y.released = e.released ∧ q.mem = s.mem)

/-- Compare-and-count. A context is taken by writing CC_OP with the writer's own domain (R304); GO clears results and
flags and queues the job, and is rejected in the order of R305; CANCEL ends it with CANCELLED (R306). A queued job starts
when none runs (R288), and one of COUNT_EQ, COUNT_RANGE or FIRST_GE ends with its result of R290 over its keys, DONE and
the time, provided that its source lies in the Orangery (R317).
The model's choices and readings in it: log entry 63. -/
def Obligations.CompareAndCountJobsRun : Prop :=
  ∀ (m : Master) (c : Fin 4) (v mask : Word) (s : State),
    let stat := s.getF .cc (ccOff c.val 0x1C) 1 0
    let regs := [Blk.at .cc (ccOff c.val 0x1C), Blk.at .cc (ccOff c.val 0x20), Blk.at .cc (ccOff c.val 0x24),
      Blk.at .cc (ccOff c.val 0x28), Blk.at .cc (ccOff c.val 0x2C), Blk.at .cc (ccOff c.val 0x30)]
    (Applies s m .cc (ccOff c.val 0) v ones → fld v 31 28 ≠ 0 →
      Completes (.ccClaim m c v) s (fun t =>
        t.getF .cc (ccOff c.val 0) 31 28 = fld v 31 28 ∧ t.getF .cc (ccOff c.val 0) 2 0 = fld v 2 0 ∧
          t.getF .cc (ccOff c.val 0) 10 8 = fld v 10 8 ∧ t.getF .cc (ccOff c.val 0) 20 16 = fld v 20 16 ∧
          OnlyRegs [Blk.at .cc (ccOff c.val 0)] s t)) ∧
    (Applies s m .cc (ccOff c.val 0x18) v mask → bit v 0 = true → s.enabled .ora = true → stat = 1 ∨ stat = 2 →
      Completes (.ccGo m c v) s (Rejected s m .cc (ccOff c.val 0x18) 0x1251)) ∧
    (Applies s m .cc (ccOff c.val 0x18) v mask → bit v 0 = true → s.enabled .ora = false →
      Completes (.ccGo m c v) s (Rejected s m .cc (ccOff c.val 0x18) 0x1208)) ∧
    (Applies s m .cc (ccOff c.val 0x18) v mask → bit v 0 = true → ccGoRefusal s c.val = none →
      Completes (.ccGo m c v) s (fun t =>
        t.get .cc (ccOff c.val 0x1C) = 1 ∧ t.get .cc (ccOff c.val 0x20) = 0 ∧ t.get .cc (ccOff c.val 0x24) = 0 ∧
          t.get .cc (ccOff c.val 0x28) = 0 ∧ t.get .cc (ccOff c.val 0x2C) = 0 ∧ SameRegs regs s t ∧ t.mem = s.mem ∧
          t.ora.jobs.map (·.ctx) = s.ora.jobs.map (·.ctx) ++ [c.val] ∧ t.ora.slots = s.ora.slots)) ∧
    (Applies s m .cc (ccOff c.val 0x18) v mask → bit v 0 = false → bit v 1 = true →
      s.ora.jobs.any (fun j => j.ctx == c.val) = true → s.claimsOf (ccAgent c.val) = [] →
      Completes (.ccCancel m c v) s (fun t =>
        t.get .cc (ccOff c.val 0x1C) = 0x43 ∧ t.getN .cc (ccOff c.val 0x30) = s.dt % 2 ^ 32 ∧
          t.getB .cc offRaw (8 + c.val) = true ∧ t.ora.jobs = s.ora.jobs.filter (fun j => j.ctx != c.val) ∧
          t.ora.slots = s.ora.slots ∧ t.mem = s.mem ∧
          SameRegs [Blk.at .cc (ccOff c.val 0x1C), Blk.at .cc (ccOff c.val 0x30), Blk.at .cc offRaw] s t)) ∧
    (s.ora.jobs = [{ ctx := c.val, running := false, agent := ccAgent c.val, dirty := false }] → ccOutside s c.val = none →
      s.getB .cc (ccOff c.val 0) 8 = false → s.getB .cc (ccOff c.val 0) 9 = false →
      Completes .ccJobStart s (fun t =>
        t.getF .cc (ccOff c.val 0x1C) 1 0 = 2 ∧ t.ora.jobs.map (fun j => (j.ctx, j.running)) = [(c.val, true)] ∧
          t.ora.lastCc = c.val ∧ t.mem = s.mem ∧ SameRegs [Blk.at .cc (ccOff c.val 0x1C)] s t)) ∧
    (s.ora.jobs = [{ ctx := c.val, running := true, agent := ccAgent c.val, dirty := false }] → ccOutside s c.val = none →
      s.claimsOf (ccAgent c.val) = [] → s.getF .cc (ccOff c.val 0) 2 0 ≤ 1 ∨ s.getF .cc (ccOff c.val 0) 2 0 = 3 →
      let ks := ccKeys s c.val
      let a := s.getN .cc (ccOff c.val 0xC)
      let b := s.getN .cc (ccOff c.val 0x10)
      Completes (.ccJobDone c) s (fun t =>
        t.get .cc (ccOff c.val 0x1C) = 3 ∧
          (s.getF .cc (ccOff c.val 0) 2 0 = 0 →
            t.getN .cc (ccOff c.val 0x20) = (ks.filter (fun k => decide (k = some a))).length % 2 ^ 32) ∧
          (s.getF .cc (ccOff c.val 0) 2 0 = 1 →
            t.getN .cc (ccOff c.val 0x20) = (ks.filter (fun k => k.any (fun x => decide (a ≤ x ∧ x ≤ b)))).length % 2 ^ 32) ∧
          (s.getF .cc (ccOff c.val 0) 2 0 = 3 →
            t.getN .cc (ccOff c.val 0x20) = ((ks.findIdx? (fun k => k.any (fun x => decide (a ≤ x)))).getD 0xFFFFFFFF) % 2 ^ 32) ∧
          t.get .cc (ccOff c.val 0x24) = 0 ∧ t.get .cc (ccOff c.val 0x28) = 0 ∧
          t.getN .cc (ccOff c.val 0x2C) = (ks.filter Option.isNone).length % 2 ^ 32 ∧
          t.getN .cc (ccOff c.val 0x30) = s.dt % 2 ^ 32 ∧ t.getB .cc offRaw (8 + c.val) = true ∧ t.ora.jobs = [] ∧
          t.mem = s.mem ∧ SameRegs (Blk.at .cc offRaw :: regs) s t))

/-! ### The transfer engine (07) -/

/-- A running channel without a descriptor takes the one at its ring's head. One that fails a check of R327 moves nothing:
the channel halts with DESC_BAD, the code and the offset of the field, and record 0x1135, TRANSIENT for the check byte and
CONFIG otherwise (R328). One that passes starts, on a channel bound to a cluster only while a command is in body there
(R334); an outbound one of a bound channel waits in the hold queue instead, and the head goes past it (R335). A released
descriptor is taken before the ring's (R337). The fetch reads the entry as an access of its own, counted at port P0 where
the ring lies in DRAM (R247, R321).
The model's choices and readings in it: log entry 65. -/
def Obligations.DescriptorsAreCheckedAndStart : Prop :=
  ∀ (c : Fin 32) (s : State), s.xcRuns c.val = true → (s.chan c.val).pausing = false → (s.chan c.val).active = none →
    s.power.goDt = none → s.power.pstate = .run → s.armedFor 5 c.val = none →
    let e := s.rgEntry c.val (s.rgHead c.val)
    let ws := descWords e
    let k := s.xcBind c.val
    let ring := (s.chan c.val).released = [] ∧ s.rgOn c.val = true ∧ s.rgOcc c.val ≠ 0 ∧ s.ddr.queue = [] ∧
      firstFail s (.cpu (.channel c)) (s.rgSlot c.val (s.rgHead c.val)) (s.rgEsize c.val) false = none
    (∀ xs l rest, (s.chan c.val).released = (xs, l) :: rest → dSrcH xs = false → dDstH xs = false →
      Completes (.descriptorFetch c) s (fun t =>
        ((t.chan c.val).active.map (fun a => (a.words, a.written, a.agent, a.released))) = some (xs, 0, xcAgent c.val, true) ∧
          (t.chan c.val).released = rest ∧ t.rgHead c.val = s.rgHead c.val ∧ t.mem = s.mem ∧ t.ora = s.ora)) ∧
    (∀ d o, ring → k = 7 → descCheck e = some (d, o) → d ≠ 0xC →
      Completes (.descriptorFetch c) s (fun t =>
        t.xcStat c.val 5 = true ∧ t.xcStat c.val 8 = true ∧ t.xc c.val 0x10 = wd (0x1100 + d + o * 0x10000) ∧
          (t.chan c.val).active = none ∧ Raised s t [((chanBlk c.val).unit, 0x1135, 3)] ∧ t.mem = s.mem ∧
          t.rgHead c.val = s.rgHead c.val ∧ t.ora = s.ora)) ∧
    (ring → k = 7 → checkOk e = false →
      Completes (.descriptorFetch c) s (fun t =>
        t.xcStat c.val 5 = true ∧ t.xcStat c.val 8 = true ∧ t.xc c.val 0x10 = wd (0x110C + 31 * 0x10000) ∧
          (t.chan c.val).active = none ∧ Raised s t [((chanBlk c.val).unit, 0x1135, 0)] ∧ t.mem = s.mem ∧
          t.rgHead c.val = s.rgHead c.val ∧ fld (t.rg c.val 0x38) 15 0 = s.rgHead c.val % 2 ^ 16 ∧
          bit (t.rg c.val 0x2C) 3 = true ∧ t.ora = s.ora)) ∧
    (ring → k = 7 → descCheck e = none → dSrcH ws = false → dDstH ws = false →
      Completes (.descriptorFetch c) s (fun t =>
        ((t.chan c.val).active.map (fun a => (a.words, a.written, a.agent))) = some (ws, 0, xcAgent c.val) ∧
          t.xcStat c.val 3 = true ∧ t.xc c.val 0x20 = wd (dTotal ws) ∧ t.getB .xfe 0x44 c.val = true ∧ t.mem = s.mem ∧
          t.ora = s.ora ∧ t.check = s.check ∧
          SameRegs (Blk.at .ddrc 0xA0 :: Blk.at .xfe 0x44 :: chanRegs c.val [0x0C, 0x14, 0x18, 0x1C, 0x20, 0x24, 0x30]) s t)) ∧
    ((s.chan c.val).released = [] → k < 4 → s.csqPhase k ≠ 1 → Completes (.descriptorFetch c) s (Unchanged s)) ∧
    (ring → k < 4 → s.csqPhase k = 1 → descCheck e = none → outbound ws k = true → (s.chan c.val).hold.length < 16 →
      Completes (.descriptorFetch c) s (fun t =>
        (t.chan c.val).hold = (s.chan c.val).hold ++ [ws] ∧ (t.chan c.val).active = none ∧
          t.rgHead c.val = (s.rgHead c.val + 1) % (2 * s.rgN c.val) ∧ t.xc c.val 0x30 = wd ((s.chan c.val).hold.length + 1) ∧
          t.mem = s.mem ∧ t.ora = s.ora ∧
          SameRegs (Blk.at .ddrc 0xA0 :: Blk.at .xfe 0x44 :: chanRegs c.val [0x0C, 0x30] ++ ringRegs c.val [0x1C, 0x2C]) s t))

/-- What a running descriptor does to memory, and its errors. Elements land in order; a 1D descriptor that completes has
written every byte of its source to its destination and no other, and leaves TAG, the count and the head moved on (R326,
R330, R331). An access error cleared within the retry budget leaves record 0x1130 and the descriptor as it was (R343); one
that outlasts it, or the fourth within 1 s, retires the channel (R343, R344, R348). An error on a prefetched line stops the
group and records the line's address (R346), and RESUME starts it again, but is rejected with 0x1123 while the group runs (R347, R358).
The model's choices and readings in it: log entries 14 and 66. -/
def Obligations.DescriptorsMoveTheirBytesOrStop : Prop :=
  ∀ (c : Fin 32) (s : State) (a : Active), s.xcRuns c.val = true → (s.chan c.val).active = some a →
    s.armedFor 4 c.val = none →
    let ws := a.words
    let g : Agent := .cpu (.channel c)
    let left := dTotal ws - a.written
    let src := dSrc ws + a.written
    let dst := dDst ws + a.written
    let plain := dDim ws = 0 ∧ dSrcH ws = false ∧ dDstH ws = false ∧ a.written < dTotal ws ∧ a.agent = xcAgent c.val ∧
      a.loop = none ∧ a.released = false
    let clear := fun n => firstFail s g src n false = none ∧ firstFail s g dst n true = none ∧ overlaps src n dst n = false ∧
      ((windowOf dst).map (·.1) = some .dram ∨ (windowOf dst).map (·.1) = some .gtSram)
    let recent := (within s.dt oneSecond (s.chan c.val).faults).length
    let retry := fld (s.xc c.val 0) 6 4
    let unit := (chanBlk c.val).unit
    (∀ n, plain → n ≤ left → clear n → (s.chan c.val).pausing = false → s.ddr.queue = [] →
      Completes (.memoryAccess (.elements c n)) s (fun t =>
        (∀ i, i < n → t.byte (dst + i) = s.byte (src + i)) ∧ SameMem dst n s t ∧
          ((t.chan c.val).active.map (fun x => (x.words, x.written))) = some (ws, a.written + n) ∧
          (n ≠ 0 → t.xc c.val 0x20 = wd (left - n)) ∧
          SameRegs (Blk.at .ddrc 0xA0 :: chanRegs c.val [0x14, 0x18, 0x1C, 0x20, 0x24]) s t)) ∧
    (plain → clear left → (s.chan c.val).pausing = false → s.claimsOf (xcAgent c.val) = [] → s.ddr.queue = [] →
      Completes (.descriptorComplete c) s (fun t =>
        (∀ i, i < left → t.byte (dst + i) = s.byte (src + i)) ∧ SameMem dst left s t ∧ (t.chan c.val).active = none ∧
          t.xc c.val 0x20 = 0 ∧ t.xc c.val 0x34 = wd (dTag ws) ∧ t.xc c.val 0x28 = s.xc c.val 0x28 + 1 ∧
          t.getB (chanBlk c.val) offRaw (8 + c.val % 4) = (dIrq ws || s.getB (chanBlk c.val) offRaw (8 + c.val % 4)) ∧
          t.rgHead c.val = (s.rgHead c.val + 1) % (2 * s.rgN c.val) % 2 ^ 32 ∧
          SameRegs (Blk.at .ddrc 0xA0 :: Blk.at .xfe 0x44 :: Blk.at (chanBlk c.val) offRaw ::
            chanRegs c.val [0x0C, 0x14, 0x18, 0x1C, 0x20, 0x24, 0x28, 0x30, 0x34] ++ ringRegs c.val [0x1C, 0x2C]) s t)) ∧
    (∀ e : AccErr, e.fails ≤ retry → recent < 3 → prefetched s c.val = false ∨ e.write = true →
      Completes (.accessError c e) s (fun t =>
        Raised s t [(unit, 0x1130, 0)] ∧ fld (t.xc c.val 0x2C) 3 0 = e.fails ∧ fld (t.xc c.val 0x2C) 31 16 = 0x1130 ∧
          (t.chan c.val).active = some a ∧ t.mem = s.mem ∧ t.ora = s.ora ∧
          SameRegs (Blk.at (chanBlk c.val) offErrcnt :: chanRegs c.val [0x2C]) s t) ∧
      Completes (.accessNoResponse c e) s (fun t =>
        Raised s t [(unit, 0x1130, 0)] ∧ fld (t.xc c.val 0x2C) 3 0 = e.fails ∧ (t.chan c.val).active = some a ∧
          t.mem = s.mem ∧ SameRegs (Blk.at (chanBlk c.val) offErrcnt :: chanRegs c.val [0x2C]) s t)) ∧
    (∀ e : AccErr, retry < e.fails ∨ 3 ≤ recent → plain → s.xcBind c.val = 7 → s.xcRetired c.val = false →
      s.claimsOf (xcAgent c.val) = [] → (s.chan c.val).released = [] → prefetched s c.val = false ∨ e.write = true →
      (List.range 4).all (fun j => s.xcRetired (4 * (c.val / 4) + j) || 4 * (c.val / 4) + j == c.val) = false →
      Completes (.accessNoResponse c e) s (fun t =>
        t.xcRetired c.val = true ∧ t.xcStat c.val 5 = true ∧ t.xcStat c.val 6 = true ∧ t.getB .xfe 0x40 c.val = false ∧
          (t.chan c.val).active = none ∧ Raised s t [(unit, if retry < e.fails then 0x1131 else 0x113A, 1)] ∧ t.mem = s.mem ∧
          t.rgHead c.val = s.rgHead c.val)) ∧
    (∀ e : AccErr, e.fails ≤ retry → recent < 3 → prefetched s c.val = false ∨ e.write = true →
      (s.chan c.val).progress + fld (s.xc c.val 4) 15 0 ≤ s.dt →
      Completes (.progressTimeout c e) s (fun t =>
        Raised s t [(unit, 0x1130, 0)] ∧ (t.chan c.val).progress = s.dt ∧ (t.chan c.val).active = some a ∧ t.mem = s.mem ∧
          SameRegs (Blk.at (chanBlk c.val) offErrcnt :: chanRegs c.val [0x2C]) s t)) ∧
    (∀ addr, addr < 2 ^ 40 → s.xcMember c.val = true → s.pfgRetired = false → s.getB .xfe 0x4C 0 = false →
      (within s.dt oneSecond s.pfg).length < 2 →
      (∀ held, Completes (.prefetchError ⟨addr, held⟩) s (fun t =>
        t.getB .xfe 0x4C 0 = true ∧ t.getN .xfe 0x54 = addr % 2 ^ 32 ∧ t.getN .xfe 0x58 = addr / 2 ^ 32)) ∧
      Completes (.prefetchError ⟨addr, []⟩) s (fun t =>
        t.getB .xfe 0x4C 0 = true ∧ (∀ x : Fin 32, t.xcStat x.val 7 = (s.xcMember x.val || s.xcStat x.val 7)) ∧
          t.getN .xfe 0x54 = addr % 2 ^ 32 ∧ t.getN .xfe 0x58 = addr / 2 ^ 32 ∧ t.getB .xfe offRaw 8 = true ∧
          Raised s t [(0x1100, 0x1133, 0)] ∧ t.chans = s.chans ∧ t.mem = s.mem)) ∧
    (∀ m v mask, Applies s m .xfe 0x50 v mask → bit v 0 = true → s.getB .xfe 0x4C 0 = true → s.pfgRetired = false →
      Completes (.pfgResume m v) s (fun t =>
        t.getB .xfe 0x4C 0 = false ∧ (∀ x : Fin 32, t.xcStat x.val 7 = false ∧ t.xcStat x.val 4 = s.xcStat x.val 4) ∧
          t.chans = s.chans ∧ t.mem = s.mem)) ∧
    (∀ m v mask, Applies s m .xfe 0x50 v mask → bit v 0 = true → s.getB .xfe 0x4C 0 = false ∨ s.pfgRetired = true →
      Completes (.pfgResume m v) s (Rejected s m .xfe 0x50 0x1123))

/-- The channel controls. EN at 1 starts the check of R361, and XC_STAT.BUSY reads 1 while it runs (R58); at its end one that
passes enables the channel, one that a rule refuses sets REFUSED with the code and offset (R59, R60). PAUSE of a channel
without a descriptor, be it halted or not, pauses it at once, with one once the reads issued before have landed (R350,
R351); RESUME and SKIP of a halted channel clear the halt, SKIP past the head's descriptor (R354); RESUME is rejected where
there is nothing to resume (R363); DISABLE, or EN at 0, drops the descriptor and leaves the head on it (R353); two controls
at once are rejected (R362).
The model's choices and readings in it: log entries 65 and 66. -/
def Obligations.ChannelsAreControlled : Prop :=
  ∀ (m : Master) (c : Fin 32) (v mask : Word) (s : State),
    let x := s.chan c
    (s.xcStat c.val 2 = true → chanCheck s c.val = none →
      Completes (.enableCheckDone (.channel c)) s (fun t =>
        t.xcStat c.val 0 = true ∧ t.xcStat c.val 1 = false ∧ t.xcStat c.val 2 = false ∧ t.xc c.val 0x10 = 0 ∧
          t.xc c.val 8 = 1 ∧ OnlyRegs (chanRegs c.val [0x08, 0x0C, 0x10]) s t)) ∧
    (∀ code off, s.xcStat c.val 2 = true → s.xcStat c.val 0 = false → chanCheck s c.val = some (code, off) →
      Completes (.enableCheckDone (.channel c)) s (fun t =>
        t.xcStat c.val 0 = false ∧ t.xcStat c.val 1 = true ∧ t.xcStat c.val 2 = false ∧
          t.xc c.val 0x10 = wd (code + off * 0x10000) ∧ t.xc c.val 8 = 0 ∧
          Raised s t [((chanBlk c.val).unit, code, 3)] ∧ t.chans = s.chans ∧ t.mem = s.mem ∧
          SameRegs (Blk.at (chanBlk c.val) offRaw :: Blk.at (chanBlk c.val) offErrcnt :: chanRegs c.val [0x08, 0x0C, 0x10]) s t)) ∧
    (x.pausing = true → ∀ n, Completes (.pauseDrained c n) s (fun t => (t.chan c.val).pausing = false)) ∧
    (x.pausing = true → (∀ a, x.active = some a → a.written ≠ dTotal a.words) →
      Completes (.pauseDrained c 0) s (fun t =>
        t.xcStat c.val 4 = true ∧ (t.chan c.val).active = x.active ∧ (t.chan c.val).pausing = false ∧ t.mem = s.mem ∧
          SameRegs (Blk.at (chanBlk c.val) offRaw :: chanRegs c.val [0x0C]) s t)) ∧
    (Applies s m (chanBlk c.val) (chanOff c.val + 8) v mask →
      (fld v 4 0 = 1 → s.xcStat c.val 0 = false → s.xcStat c.val 2 = false →
        Completes (.channelEnable m c v) s (fun t =>
          t.xcStat c.val 2 = true ∧ t.xcStat c.val 0 = false ∧ t.xc c.val 8 = 1 ∧
            OnlyRegs (chanRegs c.val [0x08, 0x0C]) s t)) ∧
      (fld v 4 0 = 3 → s.xcStat c.val 0 = true → s.xcStat c.val 4 = false → x.pausing = false → x.active = none →
        Completes (.pause m c v) s (fun t =>
          t.xcStat c.val 4 = true ∧ t.getB (chanBlk c.val) offRaw (16 + c.val % 4) = true ∧ (t.chan c.val).hold = x.hold ∧
            t.mem = s.mem ∧ SameRegs (Blk.at (chanBlk c.val) offRaw :: chanRegs c.val [0x0C]) s t)) ∧
      (fld v 4 0 = 3 → s.xcStat c.val 0 = true → s.xcStat c.val 4 = false → x.active.isSome = true →
        Completes (.pause m c v) s (fun t =>
          (t.chan c.val).pausing = true ∧ (t.chan c.val).active = x.active ∧ t.regs = s.regs ∧ t.mem = s.mem)) ∧
      (fld v 4 0 = 5 → s.xcStat c.val 0 = true → s.xcRetired c.val = false →
        s.xcStat c.val 4 = true ∨ s.xcStat c.val 5 = true →
        Completes (.xcResume m c v) s (fun t =>
          t.xcStat c.val 4 = false ∧ t.xcStat c.val 5 = false ∧ OnlyRegs (chanRegs c.val [0x0C]) s t)) ∧
      (fld v 4 0 = 5 → s.xcRetired c.val = false → s.xcStat c.val 4 = false → s.xcStat c.val 5 = false →
        Completes (.xcResume m c v) s (Rejected s m (chanBlk c.val) (chanOff c.val + 8) 0x1123)) ∧
      (fld v 4 0 = 17 → s.xcStat c.val 0 = true → s.xcRetired c.val = false → s.xcStat c.val 5 = true → x.released = [] →
        s.rgOn c.val = true → s.rgOcc c.val ≠ 0 →
        Completes (.skip m c v) s (fun t =>
          t.xcStat c.val 5 = false ∧ t.rgHead c.val = (s.rgHead c.val + 1) % (2 * s.rgN c.val) ∧ t.chans = s.chans ∧
            t.mem = s.mem ∧ SameRegs (chanRegs c.val [0x0C] ++ ringRegs c.val [0x1C, 0x2C]) s t)) ∧
      (bit v 1 = false → bit v 2 = false → bit v 4 = false → bit v 3 = true ∨ bit v 0 = false → s.xcRetired c.val = false →
        x.released = [] → s.claimsOf (xcAgent c.val) = [] → x.hold = [] → (∀ a, x.active = some a → a.agent = xcAgent c.val) →
        Completes (.xcDisable m c v) s (fun t =>
          t.xcStat c.val 0 = false ∧ t.xcStat c.val 4 = false ∧ t.xcStat c.val 5 = false ∧ (t.chan c.val).active = none ∧
            t.xc c.val 8 = 0 ∧ t.rgHead c.val = s.rgHead c.val ∧ t.ora = s.ora ∧ t.check = s.check ∧
            (x.active = none → t.mem = s.mem) ∧
            SameRegs (Blk.at .xfe 0x44 :: chanRegs c.val [0x08, 0x0C, 0x14, 0x18, 0x20, 0x24, 0x30]) s t)) ∧
      (1 < (bit v 1).toNat + (bit v 2).toNat + (bit v 3).toNat + (bit v 4).toNat →
        Completes (.xcDisable m c v) s (Rejected s m (chanBlk c.val) (chanOff c.val + 8) 0x1102)))

/-! ### Hardware rings (08) -/

/-- Ring pointers. A tail write within the ring's size moves the tail and adds its entries to PUB, which sets DATA at COUNT
(R384, R395); one that would overfill it moves nothing, counts and arms SPACE (R383). A head write towards the tail moves the
head, sets LOW on the way below the mark and SPACE where armed (R396, R397), and is rejected with 0x1021 backwards or past
the tail (R385). While EN is 0 either write only sets its pointer. A pointer of 2N or more is rejected with detail 0x01 (R382). DATA is set TIME after the first entry (R395).
The model's choices and readings in it: log entry 68. -/
def Obligations.RingPointersMove : Prop :=
  ∀ (m : Master) (q : Fin 128) (v mask : Word) (s : State),
    let p := fld v 12 0
    let n := s.rgN q.val
    let r := s.ring q.val
    let b := rgBlk q.val
    let pub := r.pub + ringDiff n p (s.rgTail q.val)
    let count := fld (s.rg q.val 0x24) 11 0
    let low := fld (s.rg q.val 0x28) 12 0
    let tail := Applies s m b (rgOff q.val 0x20) v mask
    let head := Applies s m b (rgOff q.val 0x1C) v mask
    (tail → 2 * n ≤ p → Completes (.tailWrite m q v) s (Rejected s m b (rgOff q.val 0x20) 0x1001)) ∧
    (tail → p < 2 * n → s.rgEn q.val = true → n < ringDiff n p (s.rgHead q.val) →
      Completes (.tailWrite m q v) s (fun t =>
        t.rgTail q.val = s.rgTail q.val ∧ (t.rg q.val 0x34).toNat = min ((s.rg q.val 0x34).toNat + 1) 0xFFFFFFFF ∧
          bit (t.rg q.val 0x14) 3 = true ∧ (t.ring q.val).space = true ∧ t.get b offReason = s.get b offReason ∧
          t.mem = s.mem ∧ SameRegs (ringRegs q.val [0x14, 0x34]) s t)) ∧
    (tail → p < 2 * n → s.rgEn q.val = true → ringDiff n p (s.rgHead q.val) ≤ n →
      Completes (.tailWrite m q v) s (fun t =>
        t.rgTail q.val = p ∧
          (if count ≠ 0 ∧ count ≤ pub then bit (t.rg q.val 0x2C) 0 = true ∧ (t.ring q.val).pub = 0
           else t.rg q.val 0x2C = s.rg q.val 0x2C ∧ (t.ring q.val).pub = pub) ∧
          t.mem = s.mem ∧ SameRegs (ringRegs q.val [0x20, 0x2C]) s t)) ∧
    (tail → p < 2 * n → s.rgEn q.val = false →
      Completes (.tailWrite m q v) s (fun t =>
        t.rgTail q.val = p ∧ (t.ring q.val).pub = r.pub ∧ (t.ring q.val).space = r.space ∧ t.mem = s.mem ∧
          SameRegs (ringRegs q.val [0x20]) s t)) ∧
    (head → 2 * n ≤ p → Completes (.headWrite m q v) s (Rejected s m b (rgOff q.val 0x1C) 0x1001)) ∧
    (head → p < 2 * n → s.rgEn q.val = false →
      Completes (.headWrite m q v) s (fun t =>
        t.rgHead q.val = p ∧ (t.ring q.val).pub = r.pub ∧ (t.ring q.val).space = r.space ∧ t.mem = s.mem ∧
          SameRegs (ringRegs q.val [0x1C]) s t)) ∧
    (head → p < 2 * n → s.rgEn q.val = true → s.rgOcc q.val < ringDiff n (s.rgTail q.val) p →
      Completes (.headWrite m q v) s (Rejected s m b (rgOff q.val 0x1C) 0x1021)) ∧
    (head → p < 2 * n → s.rgEn q.val = true → ringDiff n (s.rgTail q.val) p ≤ s.rgOcc q.val →
      Completes (.headWrite m q v) s (fun t =>
        t.rgHead q.val = p ∧ t.rgOcc q.val = ringDiff n (s.rgTail q.val) p ∧
          (bit (t.rg q.val 0x2C) 1 = (bit (s.rg q.val 0x2C) 1 ||
            decide (low ≠ 0 ∧ low ≤ s.rgOcc q.val ∧ ringDiff n (s.rgTail q.val) p < low))) ∧
          bit (t.rg q.val 0x2C) 2 = (bit (s.rg q.val 0x2C) 2 || r.space) ∧ (t.ring q.val).space = false ∧
          (t.ring q.val).pub = (if t.rgOcc q.val = 0 then 0 else r.pub) ∧ t.mem = s.mem ∧
          SameRegs (ringRegs q.val [0x1C, 0x2C]) s t)) ∧
    (r.pub ≠ 0 → fld (s.rg q.val 0x24) 31 16 ≠ 0 → r.pubDt + fld (s.rg q.val 0x24) 31 16 ≤ s.dt →
      Completes (.coalesceTimeout q) s (fun t =>
        bit (t.rg q.val 0x2C) 0 = true ∧ (t.ring q.val).pub = 0 ∧ t.mem = s.mem ∧ SameRegs (ringRegs q.val [0x2C]) s t))

/-- Rings are enabled, disabled, and take reports of bad entries. EN at 1 starts the check of R399, and BUSY
reads 1 while it runs (R58): passed, the ring is enabled with RG_REASON 0; refused, REFUSED, EN 0, the code and offset, and
a record of class CONFIG (R59, R60). EN at 0 disables it and keeps
its pointers (R401). A report of a bad entry records the pointer, counts, sets BAD and raises record 0x1030, and is
rejected with detail 0x08 while the ring is disabled (R391, R405).
The model's choices and readings in it: log entries 13, 45 and 68. -/
def Obligations.RingsAreEnabledDisabledAndReportBadEntries : Prop :=
  ∀ (m : Master) (q : Fin 128) (v mask : Word) (s : State),
    let b := rgBlk q.val
    let ctrl := Applies s m b (rgOff q.val 0x10) v mask
    let bad := Applies s m b (rgOff q.val 0x38) v mask
    (ctrl → bit v 0 = true → s.rgOn q.val = false → s.rgBusy q.val = false →
      Completes (.ringEnable m q v) s (fun t =>
        t.rgBusy q.val = true ∧ t.rgOn q.val = false ∧ t.rg q.val 0x10 = 1 ∧
          OnlyRegs (ringRegs q.val [0x10, 0x14]) s t)) ∧
    (s.rgBusy q.val = true → ringCheck s q.val = none →
      Completes (.enableCheckDone (.ring q)) s (fun t =>
        t.rgOn q.val = true ∧ t.rgBusy q.val = false ∧ bit (t.rg q.val 0x14) 1 = false ∧ t.rg q.val 0x18 = 0 ∧ t.rg q.val 0x10 = 1 ∧
          OnlyRegs (ringRegs q.val [0x10, 0x14, 0x18]) s t)) ∧
    (∀ code off, s.rgBusy q.val = true → s.rgOn q.val = false → ringCheck s q.val = some (code, off) →
      Completes (.enableCheckDone (.ring q)) s (fun t =>
        t.rgOn q.val = false ∧ t.rgBusy q.val = false ∧ bit (t.rg q.val 0x14) 1 = true ∧ t.rg q.val 0x18 = wd (code + off * 0x10000) ∧
          t.rg q.val 0x10 = 0 ∧ t.getB b offRaw 0 = true ∧ Raised s t [(b.unit, code, 3)] ∧ t.mem = s.mem ∧
          SameRegs (Blk.at b offRaw :: Blk.at b offErrcnt :: ringRegs q.val [0x10, 0x14, 0x18]) s t)) ∧
    (ctrl → bit v 0 = false →
      Completes (.ringDisable m q v) s (fun t =>
        t.rgOn q.val = false ∧ t.rgBusy q.val = false ∧ t.rgHead q.val = s.rgHead q.val ∧ t.rgTail q.val = s.rgTail q.val ∧
          (t.ring q.val).pub = 0 ∧ (t.ring q.val).space = false ∧ t.mem = s.mem ∧
          SameRegs (ringRegs q.val [0x10, 0x14]) s t)) ∧
    (bad → s.rgOn q.val = true →
      Completes (.badEntryReport m q v) s (fun t =>
        fld (t.rg q.val 0x38) 12 0 = fld v 12 0 ∧
          fld (t.rg q.val 0x38) 31 16 = min (fld (s.rg q.val 0x38) 31 16 + 1) 0xFFFF ∧ bit (t.rg q.val 0x2C) 3 = true ∧
          Raised s t [(b.unit, 0x1030, 0)] ∧ t.rgHead q.val = s.rgHead q.val ∧ t.mem = s.mem ∧
          SameRegs (Blk.at b offErrcnt :: ringRegs q.val [0x2C, 0x38]) s t)) ∧
    (bad → s.rgOn q.val = false → Completes (.badEntryReport m q v) s (Rejected s m b (rgOff q.val 0x38) 0x1008))

/-! ### Number formats (09) -/

/-- Every bit pattern of an integer or float format that is no NaN is the encoding of its own value, whatever RM and SAT,
with no flag (R418-R423, R430); the NaNs become the canonical NaN (R424). Encoding an FP32 block keeps the number of its
elements, and one with a NaN or an infinity has scale 0xFF and data 0 (R431), with NV where no element is a NaN (R432). -/
def Obligations.EveryEncodingIsItsValuesEncoding : Prop :=
  (∀ (code b rm : Nat) (sat : Bool), code ≤ 9 → b < 2 ^ fmtBits code → rm ≤ 1 → decodeElem code b ≠ .nan →
    (∀ neg, decodeElem code b ≠ .inf neg) →
    encodeElem code rm sat (decodeElem code b) = (b, NFlags.none)) ∧
  (∀ (code b rm : Nat) (sat neg : Bool), code ≤ 9 → b < 2 ^ fmtBits code → rm ≤ 1 → decodeElem code b = .inf neg →
    encodeElem code rm sat (.inf neg) = (b, NFlags.none)) ∧
  (∀ (code b rm : Nat) (sat : Bool) (f : FloatFmt), floatFmt code = some f → b < 2 ^ fmtBits code → decodeElem code b = .nan →
    encodeElem code rm sat (decodeElem code b) = (canonNan f, NFlags.none)) ∧
  (∀ (code rm : Nat) (xs : List Machine.Num), isBlock code = true → (encodeBlock code rm xs).2.1.length = xs.length) ∧
  (∀ (code rm : Nat) (xs : List Machine.Num), isBlock code = true → xs.any (fun x => !x.isFin) = true →
    encodeBlock code rm xs = (255, xs.map (fun _ => 0), ⟨decide (Machine.Num.nan ∉ xs), false⟩))

/-! ### Neural cores (10) -/

/-- A MATMUL that meets no open access of another unit and no mismatch computes each output element by R464 into its word of
the accumulator (R457-R460), changes no other word and no byte of memory, counts its array cycles and moves NC_PC on. An
integer element that meets no clamp is the exact sum of its products (R434), and a float or block-scaled one depends on the
operand bytes of its own row and column and its own old word alone (R465).
The model's choices and readings in it: log entry 70. -/
def Obligations.MatrixProductsFillTheirBlocks : Prop :=
  (∀ (n : Fin 16) (s : State), issues s n.val 1 = true → (s.core n.val).spans = [] → s.ncArmed n.val = false →
    let w := s.ncWord n.val
    Completes (.matmul n []) s (fun t =>
      (∀ m j, m < mmM w → j < mmN w →
        t.accWord n.val (accIndex (iF w 39 36) (mmN w) m j) = wd (mmElem s n.val w m j).1) ∧
      (∀ a, a < iF w 39 36 * 1024 ∨ (iF w 39 36 + mmBlocks w) * 1024 ≤ a →
        (t.core n.val).acc.get? a = (s.core n.val).acc.get? a) ∧
      (∀ c : Fin 16, c ≠ n → t.core c.val = s.core c.val) ∧
      t.ncPc n.val = (s.ncPc n.val + 1) % 2048 ∧
      t.getN (.nc n.val) 0x7C = min (s.getN (.nc n.val) 0x7C + mmCycles w) 0xFFFFFFFF ∧ t.mem = s.mem ∧ t.check = s.check ∧
      SameRegs [Blk.at (.nc n.val) 0x4C, Blk.at (.nc n.val) 0x54, Blk.at (.nc n.val) 0x7C] s t)) ∧
  (∀ (af bf : Nat) (acc : Int) (ps : List (Nat × Nat)), af ≤ 2 → bf ≤ 1 →
    let val := fun (f b : Nat) => if f = 2 then ((b % 256 : Nat) : Int) else signed (fmtBits f) b
    let sum := fun k => acc + ((ps.take k).map (fun p => val af p.1 * val bf p.2)).sum
    (∀ k, k ≤ ps.length → -2147483648 ≤ sum k ∧ sum k ≤ 2147483647) →
    dotInt af bf acc ps = (sum ps.length, NFlags.none)) ∧
  (∀ (s t : State) (n k : Nat) (w : BitVec 128) (m j : Nat),
    (∀ a, a < tbBytes → s.byte (tileBase n + a) = t.byte (tileBase k + a)) →
    (iB w 4 = true → s.accWord n (accIndex (iF w 39 36) (mmN w) m j) = t.accWord k (accIndex (iF w 39 36) (mmN w) m j)) →
    matmulRules w = none → m < mmM w → j < mmN w → mmElem s n w m j = mmElem t k w m j)

/-- What the other instructions of a core do. SLOT_LD and SLOT_ST whose use is accepted move their bytes between the slot and
the tile buffer (R472, R473), here of one row; SYNC closes the accesses of the units it names (R478); COMMIT reports the core
and starts the commit (R479, R569). A word that breaks a decode rule kills the command with record 0x2034 of class CONFIG; one
that fails its CHECK with 0x2032, or retires the core with 0x2033 within 10 s of another (R489).
The model's choices and readings in it: log entries 69 and 70. -/
def Obligations.CoresIssueTheirInstructions : Prop :=
  ∀ (n : Fin 16) (s : State),
    let w := s.ncWord n.val
    let k := clusterOf n.val
    let next := (s.ncPc n.val + 1) % 2048
    let tile := tileBase n.val + 64 * iF w 59 48
    let len := 64 * iF w 75 64
    (issues s n.val 3 = true → (s.core n.val).spans = [] → iF w 87 76 = 1 → (slotUse n.val w s).2 = true →
      Completes (.slotLd n) s (fun t =>
        let slot := s.slotAddr (iF w 27 16) (iF w 47 28)
        (∀ i, i < len → t.byte (tile + i) = s.byte (slot + i)) ∧ SameMem tile len s t ∧ t.ncPc n.val = next ∧
          SameRegs [Blk.at (.nc n.val) 0x54] s t)) ∧
    (issues s n.val 4 = true → (s.core n.val).spans = [] → iF w 87 76 = 1 → (slotUse n.val w s).2 = true →
      Completes (.slotSt n) s (fun t =>
        let slot := s.slotAddr (iF w 27 16) (iF w 47 28)
        (∀ i, i < len → t.byte (slot + i) = s.byte (tile + i)) ∧ SameMem slot len s t ∧
          (t.slot (iF w 27 16)).state = 1 ∧ t.ncPc n.val = next ∧ SameRegs [Blk.at (.nc n.val) 0x54] s t)) ∧
    (issues s n.val 6 = true → (s.core n.val).hlu = [] →
      Completes (.sync n) s (fun t =>
        t.ncPc n.val = next ∧ (t.core n.val).spans = (s.core n.val).spans.filter (fun x => !iB w (4 + x.unit)) ∧
          (t.core n.val).acc = (s.core n.val).acc ∧ t.mem = s.mem ∧ SameRegs [Blk.at (.nc n.val) 0x54] s t)) ∧
    (issues s n.val 7 = true → (s.core n.val).hlu = [] → (s.coresOn k).map (·.2) = [n.val] → s.csqPhase k = 1 →
      boundTo s k = [] →
      Completes (.commit n) s (fun t =>
        t.ncPhase n.val = 2 ∧ t.csqPhase k = 2 ∧ t.ncPc n.val = next ∧ (t.core n.val).spans = [] ∧ t.mem = s.mem ∧
          SameRegs [Blk.at (.nc n.val) 0x48, Blk.at (.nc n.val) 0x54, Blk.at (.csq k) 0x40] s t)) ∧
    (∀ code, s.ncPhase n.val = 1 → (s.core n.val).coll = false → wordRules (s.hasLink n.val) (s.vtWord n.val) w = some code →
      stagesFail (s.vtWord n.val) w = false → s.csqPhase k = 1 → s.getB (.csq k) 0x74 24 = false →
      Completes (.illegalInstruction n) s (fun t =>
        t.csqPhase k = 3 ∧ (t.cseq k).kill = some (6, 0x2034) ∧ t.getB (.nc n.val) offRaw 9 = true ∧
          Raised s t [((Blk.nc n.val).unit, 0x2034, 3)])) ∧
    (s.ncPhase n.val = 1 → within s.dt (10 * oneSecond) (s.core n.val).imTimes = [] → s.csqPhase k = 1 →
      s.getB (.csq k) 0x74 24 = false →
      Completes (.imemCheckFail n) s (fun t =>
        t.csqPhase k = 3 ∧ (t.cseq k).kill = some (5, 0x2032) ∧ t.getB (.nc n.val) offRaw 10 = true ∧
          Raised s t [((Blk.nc n.val).unit, 0x2032, 0)] ∧ t.check.retCore = s.check.retCore)) ∧
    (∀ d, s.ncPhase n.val = 1 → d ∈ (s.core n.val).imTimes → s.dt ≤ d + 10 * oneSecond →
      Completes (.imemCheckFail n) s (fun t =>
        t.check.retCore = s.check.retCore ||| BitVec.ofNat 16 (2 ^ n.val) ∧ t.retiredB (.nc n.val) = true ∧
          t.ncPhase n.val = 0 ∧ t.getB (.nc n.val) offRaw 11 = true ∧ bit t.meshCap n.val = false))

/-- The windows of a core. NC_IM_ADDR sets the index and starts at word 0; words 0 to 2 are staged; word 3 stores an
instruction whose CHECK holds and moves the index on, and is rejected with 0x0C otherwise (R495); a read answers the word
and moves on in the same way; while a command is active both are rejected with 0x2027 (R496). NC_INJ arms one mismatch
(R494). The chain table's window does the same with two words and 0x2048 (R535, R536).
The model's choices and readings in it: log entry 70. -/
def Obligations.CoreWindowsMoveWords : Prop :=
  ∀ (m : Master) (n : Fin 16) (v mask : Word) (s : State),
    let b : Blk := .nc n.val
    let i := s.getF b 0x5C 10 0
    let part := s.getF b 0x5C 13 12
    let c := s.core n.val
    let word := imJoin ((c.imStage ++ List.replicate 4 0).take 3 ++ [v])
    let x := s.getF b 0x80 8 0
    let stage := BitVec.ofNat 64 (c.vtStage.toNat + v.toNat * 2 ^ 32)
    let idle := s.ncPhase n.val = 0
    (Applies s m b 0x5C v mask → idle →
      Completes (.ncImAddrWrite m n v) s (fun t =>
        t.getN b 0x5C = fld v 10 0 ∧ (t.core n.val).imem = c.imem ∧ t.mem = s.mem ∧ SameRegs [Blk.at b 0x5C] s t)) ∧
    (Applies s m b 0x5C v mask → ¬ idle → Completes (.ncImAddrWrite m n v) s (Rejected s m b 0x5C 0x2027)) ∧
    (Applies s m b 0x60 v mask → idle → part < 3 →
      Completes (.ncImDataAccess m n (some v)) s (fun t =>
        t.getF b 0x5C 13 12 = part + 1 ∧ t.getF b 0x5C 10 0 = i ∧ (t.core n.val).imStage.getLast? = some v ∧
          (t.core n.val).imem = c.imem ∧ t.mem = s.mem ∧ SameRegs [Blk.at b 0x5C] s t)) ∧
    (Applies s m b 0x60 v mask → idle → part = 3 → iCheckOk word = true →
      Completes (.ncImDataAccess m n (some v)) s (fun t =>
        (t.core n.val).imem = c.imem.put i word ∧ t.getN b 0x5C = (i + 1) % 2048 ∧ t.getB b 0x48 5 = true ∧ t.mem = s.mem ∧
          SameRegs [Blk.at b 0x5C, Blk.at b 0x48] s t)) ∧
    (Applies s m b 0x60 v mask → idle → part = 3 → iCheckOk word = false → m ≠ .xspi →
      Completes (.ncImDataAccess m n (some v)) s (fun t =>
        (t.core n.val).imem = c.imem ∧ t.getF b 0x5C 13 12 = 0 ∧ t.getF b 0x5C 10 0 = i ∧ t.mem = s.mem ∧
          t.getB b offRaw 3 = true ∧ SameRegs [Blk.at b 0x5C, Blk.at b offErrcnt, Blk.at b offRaw, Blk.at b offReason] s t)) ∧
    (Applies s m b 0x60 v mask → ¬ idle → Completes (.ncImDataAccess m n (some v)) s (Rejected s m b 0x60 0x2027)) ∧
    (∀ y, judgeRead s m (b.at 0x60) 4 = .ok → s.check.parity = none → c.imem.get? i = some y →
      Completes (.ncImDataAccess m n none) s (fun t =>
        t.resp.data = [(imWords y).getD part 0] ∧ t.getF b 0x5C 13 12 = (if part < 3 then part + 1 else 0) ∧
          t.getF b 0x5C 10 0 = (if part < 3 then i else (i + 1) % 2048) ∧ t.cores = s.cores ∧ t.mem = s.mem ∧
          SameRegs [Blk.at b 0x5C] s t)) ∧
    (Applies s m b 0x78 v mask →
      Completes (.ncInjArm m n v) s (fun t =>
        t.ncArmed n.val = (bit v 0 || s.ncArmed n.val) ∧ t.getB b 0x78 2 = bit v 2 ∧ OnlyRegs [Blk.at b 0x78] s t)) ∧
    (Applies s m b 0x80 v mask → idle →
      Completes (.ncVtAddrWrite m n v) s (fun t => t.getN b 0x80 = fld v 8 0 ∧ OnlyRegs [Blk.at b 0x80] s t)) ∧
    (Applies s m b 0x80 v mask → ¬ idle → Completes (.ncVtAddrWrite m n v) s (Rejected s m b 0x80 0x2048)) ∧
    (Applies s m b 0x84 v mask → idle → s.getB b 0x80 12 = false →
      Completes (.ncVtDataAccess m n (some v)) s (fun t =>
        (t.core n.val).vtStage = v ∧ (t.core n.val).vt = c.vt ∧ t.getB b 0x80 12 = true ∧ t.getF b 0x80 8 0 = x ∧
          SameRegs [Blk.at b 0x80] s t)) ∧
    (Applies s m b 0x84 v mask → idle → s.getB b 0x80 12 = true → stageCheckOk stage = true →
      Completes (.ncVtDataAccess m n (some v)) s (fun t =>
        (t.core n.val).vt = c.vt.put x stage ∧ t.getN b 0x80 = (x + 1) % 512 ∧ SameRegs [Blk.at b 0x80] s t)) ∧
    (Applies s m b 0x84 v mask → idle → s.getB b 0x80 12 = true → stageCheckOk stage = false → m ≠ .xspi →
      Completes (.ncVtDataAccess m n (some v)) s (fun t =>
        (t.core n.val).vt = c.vt ∧ t.getB b 0x80 12 = false ∧ t.getF b 0x80 8 0 = x ∧ t.getB b offRaw 3 = true))


/-! ### Vector engine (11) -/

/-- A VCHAIN that meets no open access and no mismatch writes, for each of its rows, what its stages and its output convert
give that row (R506-R509, R517): destination bytes or accumulator words, row results and status bytes, and no other byte
or word. It counts the rows whose status is not OK and gathers those statuses (R537), raises VEC flags only (R545) and moves
NC_PC on. Masked columns of a softmax have no effect and answer +0, and a row whose columns are all masked is EMPTY (R524,
R525); an exclusive scan answers at each column what the inclusive one answers at the column before (R521).
The model's choices and readings in it: log entries 70 and 71. -/
def Obligations.ChainsStreamTheirRows : Prop :=
  (∀ (n : Fin 16) (s : State), issues s n.val 2 = true → (s.core n.val).spans = [] →
    let w := s.ncWord n.val
    let row := fun i => vcRow s n.val w i
    let bad := (List.range (vcRows w)).flatMap (fun i => (row i).1.stats.filter (· != 0))
    Completes (.vchain n []) s (fun t =>
      (∀ i, i < vcRows w → ∀ x ∈ (row i).1.outs ++ (row i).2.1, ∀ k (h : k < x.2.length),
        t.byte (tileBase n.val + x.1 + k) = x.2[k]) ∧
      (∀ a, (∀ x ∈ (vcSpans n.val (s.vtWord n.val) w).2, x.acc = false →
          a < tileBase n.val + x.start ∨ tileBase n.val + x.start + x.len ≤ a) → t.mem.get? a = s.mem.get? a) ∧
      (∀ i, i < vcRows w → ∀ x ∈ (row i).2.2.1, t.accWord n.val x.1 = x.2) ∧
      (vcDstAcc w = false → (t.core n.val).acc = (s.core n.val).acc) ∧
      (∀ c : Fin 16, c ≠ n → t.core c.val = s.core c.val) ∧
      t.getN (.nc n.val) 0x8C = min (s.getN (.nc n.val) 0x8C + bad.length) 0xFFFFFFFF ∧
      (∀ c, c < 3 → t.getB (.nc n.val) 0x88 c = (s.getB (.nc n.val) 0x88 c || bad.contains (c + 1))) ∧
      t.getF (.nc n.val) 0x4C 1 0 = s.getF (.nc n.val) 0x4C 1 0 ∧ t.ncPc n.val = (s.ncPc n.val + 1) % 2048 ∧
      t.check = s.check ∧ t.seqs = s.seqs ∧
      SameRegs [Blk.at (.nc n.val) 0x4C, Blk.at (.nc n.val) 0x54, Blk.at (.nc n.val) 0x88, Blk.at (.nc n.val) 0x8C] s t)) ∧
  (∀ (l k : List (Machine.Num × Bool)), l.length = k.length → (∀ i (h : i < l.length) (h' : i < k.length),
      l[i].2 = k[i].2 ∧ (l[i].2 = true → l[i].1 = k[i].1)) →
    softmaxRow l = softmaxRow k ∧ (softmaxRow l).1.length = l.length ∧
      (∀ i (h : i < l.length), l[i].2 = false → (softmaxRow l).1[i]? = some (.fin false 0 0)) ∧
      ((∀ x ∈ l, x.2 = false) → (softmaxRow l).2 = 1)) ∧
  (∀ (f op i : Nat) (l : List (Machine.Num × Bool)) (h : i + 1 < l.length),
    (scanRow f op true true (scanId f op) l).1[i + 1]? =
      (if (l[i + 1]).2 then some (scanId f op) else (scanRow f op false true (scanId f op) l).1[i]?))


/-! ### Timetables, commands and commit (12) -/

/-- What an accepted image satisfies (R555, R558), and what a load does: a refused one reports the first failing check and
changes no image, core, slot or byte (R558, R559); an accepted one stands with its words relocated at IMEM_BASE and its slots
without MODEL stored EMPTY with GEN 0x00 (R560-R562). An unload takes effect once no step of the image is started (R595, R716).
The model's choices and readings in it: log entries 15, 16, 18 and 72. -/
def Obligations.ImagesAreCheckedLoadedAndUnloaded : Prop :=
  (∀ (s : State) (addr len req : Nat) (excl pin : Bool) (i : Image), (checkImage s addr len req excl pin).toOption = some i →
    let h := s.bytes addr 128
    at' h 0 4 = 0x31545848 ∧ 128 ≤ len ∧ i.len = len ∧ (crc32 (h.take 124)).toNat = at' h 124 4 ∧ at' h 4 1 = 1 ∧
      s.image i.model = none ∧ i.clusters.all s.available = true ∧
      (i.cores, i.place, i.mirx, i.miry, i.clusters) ∈ placements.map (fun p => (p.cores, p.num, p.mirx, p.miry, p.clusters)) ∧
      i.handle0 + i.slots.length ≤ 4096 ∧ i.imem0 + i.imemN ≤ 1792 ∧ i.chain0 + i.chainN ≤ 60 ∧
      (∀ c ∈ i.cmds, 32 ≤ c.bound ∧ c.bound ≤ 100000 ∧ 1 ≤ c.mask ∧ c.mask < 16 ∧ c.cl < i.clusters.length) ∧
      (∀ m ∈ i.slots, m.model = true → i.hot = true ∧ m.drains = 0)) ∧
  (∀ (m : Master) (v mask : Word) (s : State) (code ofs : Nat), Applies s m .disp 0x70 v mask →
    bit v 0 = true → bit v 1 = false → s.getB .disp 0x74 0 = false →
    let addr := s.getN .disp 0x60 + (s.getF .disp 0x64 7 0) <<< 32
    let s1 := (plainStore .disp 0x70 v mask { s with resp := Resp.init }).setN .disp 0x74 1
    firstFail s1 (.cpu .dispatch) addr (max (s.getN .disp 0x68) 128) false = none →
    refusalOf (checkImage s1 addr (s.getN .disp 0x68) (fld v 5 4) (bit v 8) (bit v 9)) = some (code, ofs) →
    Completes (.imageLoad m v) s (fun t =>
      t.images = s.images ∧ t.cores = s.cores ∧ t.ora = s.ora ∧ t.mem = s.mem ∧ t.check = s.check ∧
        t.disp.load = some (.load (loadReport code none ofs) none) ∧ t.getB .disp 0x74 0 = true ∧
        SameRegs [Blk.at .disp 0x70, Blk.at .disp 0x74] s t)) ∧
  (∀ (m : Master) (v mask : Word) (s : State) (i : Image), Applies s m .disp 0x70 v mask →
    bit v 0 = true → bit v 1 = false → s.getB .disp 0x74 0 = false →
    let addr := s.getN .disp 0x60 + (s.getF .disp 0x64 7 0) <<< 32
    let s1 := (plainStore .disp 0x70 v mask { s with resp := Resp.init }).setN .disp 0x74 1
    firstFail s1 (.cpu .dispatch) addr (max (s.getN .disp 0x68) 128) false = none →
    (checkImage s1 addr (s.getN .disp 0x68) (fld v 5 4) (bit v 8) (bit v 9)).toOption = some i →
    i.pcores.all (fun n => s.ncPhase n == 0) = true →
    let b := i.body s
    Completes (.imageLoad m v) s (fun t =>
      t.images.map (·.model) = s.images.map (·.model) ++ [i.model] ∧ t.mem = s.mem ∧
        t.disp.load = some (.load (loadReport 0 (some i) 0) (some i.model)) ∧
        (∀ n ∈ b.lcores, ∀ k, k < b.imem →
          (t.core (b.core n)).imem.get? (i.imem0 + k) = some (relocWord i.handle0 i.chain0 b.place (b.word n k))) ∧
        (∀ r (hr : r < i.slots.length), i.slots[r].model = false →
          (t.slot (i.handle0 + r)).state = 0 ∧ (t.slot (i.handle0 + r)).gen = 0 ∧ (t.slot (i.handle0 + r)).valid = true))) ∧
  (∀ (m : Master) (v mask : Word) (s : State), Applies s m .disp 0x70 v mask → bit v 0 = false → bit v 1 = true →
    s.getB .disp 0x74 0 = false →
    let id := s.getN .disp 0x6C
    (s.image id = none → m ≠ .xspi → Completes (.unload m v) s (Rejected s m .disp 0x70 0x2232)) ∧
    (∀ i, s.image id = some i → s.images.all (fun j => !j.leaving) = true → s.imageBusy id = false →
      Completes (.unload m v) s (fun t =>
        t.image id = none ∧ t.images.length < s.images.length ∧ t.disp.load = some (.unload id) ∧ t.mem = s.mem ∧ t.cores = s.cores)) ∧
    (∀ i, s.image id = some i → s.images.all (fun j => !j.leaving) = true → s.imageBusy id = true →
      Completes (.unload m v) s (fun t =>
        (t.image id).map (·.leaving) = some true ∧ t.images.length = s.images.length ∧ t.mem = s.mem ∧ t.cores = s.cores))) ∧
  (∀ (s : State) (r : List Byte), s.disp.load = some (.load r none) →
    Completes .loadReport s (fun t =>
      (∀ j, j < 4 → t.getN .disp (0x84 + 4 * j) = at' r (4 * j) 4) ∧ t.getN .disp 0x74 = 0 ∧ t.disp.load = none ∧
        t.getB .disp offRaw 8 = true ∧ t.images = s.images ∧ t.mem = s.mem ∧
        SameRegs ([0x74, 0x84, 0x88, 0x8C, 0x90, offRaw].map (Blk.at .disp)) s t))

/-- A command starts where R565 holds and not before: the body timer runs from BOUND and the clock in force (R581) and the
enabled cores of CORE_MASK start at their PCs (R566); here of a command with no descriptors. Its publish ends the commit (R569,
R570), its timers end it or count an overrun, 132 units of DT after the commit began (R582, R583), and a kill ends it: the first budget cause of a command gives a
re-run, the second ends the step (R573-R576). PREEMPT kills a body, waits for a commit and takes an idle sequencer at once
(R580); ABORT ends the step (R579).
The model's choices and readings in it: log entries 66, 70 and 73. -/
def Obligations.CommandsRunCommitAndDie : Prop :=
  ∀ (k : Fin 4) (s : State),
    let c0 := s.cseq k.val
    let sq : Blk := .csq k.val
    let alone := s.getB sq 0x74 24 = false
    (∀ (clock p : Nat) (i : Image) (c : Cmd), s.imageOn k.val = some i → s.nextCmd k.val = some (p, c) →
      c.coll = false → c.descs = [] → c.cl < 4 →
      (s.mayStart k.val clock = true →
        Completes (.commandStart k clock) s (fun t =>
          t.csqPhase k.val = 1 ∧ t.getN sq 0x50 = c.id % 2 ^ 32 ∧ (t.cseq k.val).cur = p ∧ t.getB sq 0x40 6 = c0.rerun ∧
          (t.cseq k.val).expiry = s.dt + bodyTime c.bound s.npuClock ∧ t.getN sq 0x58 = (t.cseq k.val).expiry % 2 ^ 32 ∧
          (∀ q ∈ i.cmdCores c, s.enabled (.nc q.2) = true → t.ncPhase q.2 = 1 ∧ t.ncPc q.2 = c.pcs.getD q.1 0 % 2048) ∧ t.mem = s.mem ∧ t.ora = s.ora)) ∧
      (s.mayStart k.val clock = false → Completes (.commandStart k clock) s (Unchanged s))) ∧
    (∀ cycles, s.mayPublish k.val = true → alone → c0.preempt = false →
      Completes (.publish k cycles) s (fun t =>
        t.csqPhase k.val = 0 ∧ t.getF sq 0x40 11 8 = 0 ∧ t.getF sq 0x6C 15 0 = min cycles 0xFFFF ∧
          t.getF sq 0x6C 31 16 = max (min cycles 0xFFFF) (s.getF sq 0x6C 31 16) ∧ (t.cseq k.val).done = c0.done + 1 ∧
          t.ora = (publishClaims (0x10 + k.val) (some (s.get sq 0x50)) s).ora ∧
          (∀ q ∈ s.coresOn k.val, t.ncPhase q.2 = 0) ∧ t.mem = s.mem)) ∧
    (alone → (s.csqPhase k.val = 1 ∨ s.csqPhase k.val = 2) → c0.expiry ≤ s.dt →
      Completes (.bodyTimeout k) s (fun t =>
        t.csqPhase k.val = 3 ∧ (t.cseq k.val).kill = some (4, 0x2130) ∧ Raised s t [(sq.unit, 0x2130, 0)])) ∧
    (s.dt < c0.expiry → Completes (.bodyTimeout k) s (Unchanged s)) ∧
    (s.csqPhase k.val = 2 → c0.overran = false → c0.commitDt + 132 ≤ s.dt →
      Completes (.commitOverrun k) s (fun t =>
        t.csqPhase k.val = 2 ∧ t.getN sq 0x70 = min (s.getN sq 0x70 + 1) 0xFFFFFFFF ∧ t.getB sq offRaw 10 = true ∧
          Raised s t [(sq.unit, 0x2131, 3)] ∧ t.cores = s.cores ∧ t.ora = s.ora ∧ t.mem = s.mem)) ∧
    (∀ (cause : Fin 32) (code : Nat), alone → 2 ≤ cause.val → cause.val ≤ 11 → code < 0x10000 →
      (s.csqPhase k.val = 1 ∨ s.csqPhase k.val = 2) →
      Completes (.commandKill k cause code) s (fun t =>
        t.csqPhase k.val = 3 ∧ (t.cseq k.val).kill = some (cause.val, code) ∧
          (∀ q ∈ s.coresOn k.val, t.ncPhase q.2 = 3 ∧ (t.core q.2).spans = []) ∧ t.check = s.check ∧ t.images = s.images)) ∧
    (∀ cause code, s.csqPhase k.val = 3 → c0.kill = some (cause, code) → cause < 32 → code < 0x10000 → cause ≠ 10 → cause ≠ 11 →
      c0.preempt = false →
      (cause = 1 → s.csqPreempted k.val = false →
        Completes (.killComplete k) s (fun t =>
          t.getN sq 0x60 = 0x301 + code * 0x10000 ∧ t.getN sq 0x64 = s.getN sq 0x50 ∧ t.csqPhase k.val = 0 ∧
            t.getB sq offRaw 8 = true)) ∧
      (2 ≤ cause → cause ≤ 9 → c0.used.contains c0.cur = false →
        Completes (.killComplete k) s (fun t =>
          t.getN sq 0x60 = cause + code * 0x10000 ∧ t.csqPhase k.val = 0 ∧ (t.cseq k.val).rerun = true ∧
            (t.cseq k.val).used.contains c0.cur = true ∧ (t.cseq k.val).done = c0.done ∧
            t.getF sq 0x68 15 0 = min (s.getF sq 0x68 15 0 + 1) 0xFFFF ∧ t.ora = (returnClaims (0x10 + k.val) s).ora ∧
            t.mem = (returnClaims (0x10 + k.val) s).mem ∧ t.disp = s.disp)) ∧
      (2 ≤ cause → cause ≤ 9 → c0.used.contains c0.cur = true → ∀ x, (s.loop c0.loop).step = some x → x.outcome = none →
        Completes (.killComplete k) s (fun t =>
          t.getN sq 0x60 = cause + (if isDefect cause then 0x100 else 0x200) + code * 0x10000 ∧
            ((t.loop c0.loop).step.map (·.outcome)) = some (some (if isDefect cause then (7, 0x2230) else (6, code)))))) ∧
    (∀ (m : Master) (v mask : Word), Applies s m sq 0x5C v mask →
      (bit v 0 = true → bit v 1 = true → m ≠ .xspi →
        Completes (.preempt m k v) s (fun t => t.cores = s.cores ∧ t.seqs = s.seqs ∧ t.disp = s.disp ∧ t.getB sq offRaw 3 = true)) ∧
      (bit v 0 ≠ bit v 1 → s.csqStep k.val = false →
        Completes (.preempt m k v) s (Rejected s m sq 0x5C 0x2121) ∧ Completes (.abort m k v) s (Rejected s m sq 0x5C 0x2121)) ∧
      (bit v 0 = true → bit v 1 = false → s.csqStep k.val = true → s.csqPreempted k.val = false →
        (s.csqPhase k.val = 1 → alone →
          Completes (.preempt m k v) s (fun t => t.csqPhase k.val = 3 ∧ (t.cseq k.val).kill = some (1, 0))) ∧
        (s.csqPhase k.val = 2 →
          Completes (.preempt m k v) s (fun t => t.csqPhase k.val = 2 ∧ (t.cseq k.val).preempt = true ∧ t.regs = s.regs)) ∧
        (s.csqPhase k.val = 0 → ∀ x, (s.loop c0.loop).step = some x → x.leaving = false →
          Completes (.preempt m k v) s (fun t =>
            t.csqPreempted k.val = true ∧ (t.cseq k.val).clock = s.getN sq 0x54 ∧ t.cores = s.cores))) ∧
      (bit v 0 = false → bit v 1 = true → s.csqStep k.val = true → ∀ x, (s.loop c0.loop).step = some x → x.outcome = none →
        Completes (.abort m k v) s (fun t =>
          (t.loop c0.loop).step.map (·.outcome) = some (some (7, 0x2236)) ∧
            ∀ j : Fin 4, s.csqStep j.val = true → (s.cseq j.val).loop = c0.loop → (s.csqPhase j.val = 1 ∨ s.csqPhase j.val = 2) →
              t.csqPhase j.val = 3 ∧ (t.cseq j.val).kill = some (13, 0))))


/-! ### Halo exchange and collectives (13) -/

/-- HALO. A STAGED SEND fills one landing entry of its partner with its rows (R601, R609), and raises HALO_ORDER where the
tag stands there (DUP) or room is short (FULL, R608); a STAGED RECV copies a published entry into its rows and holds it
(R610), and traps MISSING or SIZE; a DIRECT one waits for its pair (R606), traps MISMATCH (R605), and a pair moves its data
and leaves both units (R604). A trap moves no data, counts, records 0x2050 and kills with cause 3 (R614). Rows are here one, and no access of another unit is
open (R452).
The model's choices and readings in it: log entries 11 and 74. -/
def Obligations.HalosMoveOrTrap : Prop :=
  ∀ (n p : Fin 16) (s : State),
    let w := s.ncWord n.val
    let d := haloDir w
    let b : Blk := .nc n.val
    let k := clusterOf n.val
    let tile := tileBase n.val + 64 * iF w 27 16
    let len := 64 * iF w 35 28
    let there := s.landing p.val (opposite d)
    let used := there.foldl (fun a e => a + e.size) 0
    let next := (s.ncPc n.val + 1) % 2048
    let trapped := fun (cause : Nat) (t : State) =>
      t.getN b 0xA4 = s.ncPc n.val + d * 0x1000 + (haloRecvs w).toNat * 0x4000 + cause * 0x10000 + haloTag w * 0x1000000 ∧
        t.getF b 0xA8 15 0 = min (s.getF b 0xA8 15 0 + 1) 0xFFFF ∧ t.getB b offRaw 12 = true ∧
        Raised s t [(b.unit, 0x2050, 0)] ∧ t.csqPhase k = 3 ∧ (t.cseq k).kill = some (3, 0x2050) ∧
        (∀ c : Fin 16, (t.core c.val).land = (s.core c.val).land)
    issues s n.val 5 = true → neighbour n.val d = some p.val → s.inService p.val = true → s.present (.nc p.val) = true →
    (s.core n.val).hlu = [] → (s.core n.val).spans = [] → iF w 47 36 = 1 → s.csqPhase k = 1 → s.getB (.csq k) 0x74 24 = false →
    (haloRecvs w = false → s.direct n.val d = false →
      (there.any (fun e => e.tag == haloTag w) = false → there.length < 4 → used + haloSize w ≤ 128 →
        Completes (.haloSend n) s (fun t =>
          t.landing p.val (opposite d) = there ++ [{ dir := opposite d, tag := haloTag w, size := haloSize w, cl := k,
                                                     state := .tentative, data := s.bytes tile len }] ∧
            (∀ e, e ≠ opposite d → t.landing p.val e = s.landing p.val e) ∧ (t.core n.val).hlu = [] ∧ t.ncPc n.val = next ∧
            t.getN b 0xAC = min (s.getN b 0xAC + haloSize w) 0xFFFFFFFF ∧ t.mem = s.mem ∧ t.check = s.check ∧
            (∀ c : Fin 16, c ≠ n → c ≠ p → t.core c.val = s.core c.val) ∧ SameRegs [b.at 0x54, b.at 0xAC] s t)) ∧
      (there.any (fun e => e.tag == haloTag w) = true → Completes (.haloSend n) s (trapped 3)) ∧
      (there.any (fun e => e.tag == haloTag w) = false → (4 ≤ there.length ∨ 128 < used + haloSize w) →
        Completes (.haloSend n) s (trapped 2))) ∧
    (haloRecvs w = true → s.direct n.val d = false →
      (∀ e, (s.landing n.val d).find? (fun e => e.state == .published && e.tag == haloTag w) = some e →
        (e.size = haloSize w → e.data.length = len → (s.core n.val).clash = [] → (s.landing n.val d).filter (· == e) = [e] →
          Completes (.haloRecv n) s (fun t =>
            t.bytes tile len = e.data ∧ SameMem tile len s t ∧ (t.core n.val).hlu = [] ∧ t.ncPc n.val = next ∧
              t.landing n.val d = (s.landing n.val d).map (fun f => if f = e then { e with state := .held, cl := k } else f) ∧
              t.check = s.check ∧ SameRegs [b.at 0x54] s t)) ∧
        (e.size ≠ haloSize w → Completes (.haloRecv n) s (trapped 4))) ∧
      ((s.landing n.val d).find? (fun e => e.state == .published && e.tag == haloTag w) = none →
        Completes (.haloRecv n) s (trapped 1))) ∧
    (s.direct n.val d = true →
      (headToward s p.val n.val = none →
        let waits := fun (t : State) => (t.core n.val).hlu = [s.ncPc n.val] ∧ t.ncPc n.val = next ∧ t.mem = s.mem ∧
          t.check = s.check ∧ SameRegs [b.at 0x54] s t
        (haloRecvs w = false → Completes (.haloSend n) s waits) ∧ (haloRecvs w = true → Completes (.haloRecv n) s waits)) ∧
      (∀ v, headToward s p.val n.val = some v → isPair w v = false →
        (haloRecvs w = false → Completes (.haloSend n) s (trapped 5)) ∧
        (haloRecvs w = true → Completes (.haloRecv n) s (trapped 5))))

/-- A DIRECT pair at the heads of two link units moves its bytes and completes (R604), here of one row each, with no access of
another unit open (R452); a collective starts on every member
in one step or not at all (R622, R623), with the estimate and algorithm of R632, which depend on KIND, N, ROOT and PART alone
(R633) and for a 4 x 4 ALL_REDUCE are TREE up to N = 9,216, MESH up to 28,672 and RING beyond; each member's result stands
when its core commits (R619).
The model's choices and readings in it: log entries 7, 73 and 74. -/
def Obligations.PairsAndCollectivesRun : Prop :=
  (∀ (n p : Fin 16) (s : State) (i j : Nat),
    let w := s.imWord n.val i
    let v := s.imWord p.val j
    let src := tileBase n.val + 64 * iF w 27 16
    let dst := tileBase p.val + 64 * iF v 27 16
    let len := 64 * iF w 35 28
    (s.core n.val).hlu = [i] → (s.core p.val).hlu = [j] → neighbour n.val (haloDir w) = some p.val →
    neighbour p.val (haloDir v) = some n.val → s.direct n.val (haloDir w) = true → s.direct p.val (haloDir v) = true →
    haloRecvs w = false → isPair w v = true → s.ncPhase n.val = 1 → s.ncPhase p.val = 1 → iF w 47 36 = 1 → iF v 47 36 = 1 →
    (∀ x ∈ (s.core n.val).spans ++ (s.core p.val).spans, x.unit = 3) → (s.core p.val).clash = [] →
    Completes (.haloRendezvous n) s (fun t =>
      (∀ a, a < len → t.byte (dst + a) = s.byte (src + a)) ∧ SameMem dst len s t ∧ (t.core n.val).hlu = [] ∧ (t.core p.val).hlu = [] ∧
        t.getN (.nc n.val) 0xAC = min (s.getN (.nc n.val) 0xAC + haloSize w) 0xFFFFFFFF ∧
        (∀ c : Fin 16, c ≠ n → c ≠ p → t.core c.val = s.core c.val) ∧ SameRegs [Blk.at (.nc n.val) 0xAC] s t)) ∧
  (∀ (k : Fin 4) (clock q : Nat) (i : Image) (c : Cmd) (s : State), s.imageOn k.val = some i → s.nextCmd k.val = some (q, c) →
    let ms := collMembers s k.val
    let blk := (c.descs.headD (0, [])).2
    (c.coll = true → ms.length ≤ 4 → k.val ∈ ms → ms.Nodup → ms.all (fun j => decide (j < 4)) = true →
      ms.all (fun j => s.mayStart j clock && waitsWith s k.val j) = true →
      Completes (.collectiveStart k clock) s (fun t =>
        (∀ j ∈ ms, t.csqPhase j = 1 ∧ t.getF (.csq j) 0x74 15 0 = cbId blk ∧ t.getF (.csq j) 0x74 17 16 = (collSelect blk).1 ∧
          t.getB (.csq j) 0x74 24 = true ∧ t.getB (.csq j) 0x74 20 = false ∧ t.getN (.csq j) 0x78 = (collSelect blk).2 % 2 ^ 32) ∧
        t.ora = s.ora ∧ t.check = s.check)) ∧
    ((c.coll = false ∨ ms.all (fun j => s.mayStart j clock && waitsWith s k.val j) = false) →
      Completes (.collectiveStart k clock) s (Unchanged s)) ∧
    (c.coll = true → s.mayStart k.val clock = true →
      Completes (.commandStart k clock) s (fun t =>
        t.getB (.csq k.val) 0x74 20 = true ∧ t.csqPhase k.val = 0 ∧ t.getF (.csq k.val) 0x74 15 0 = cbId blk ∧ t.cores = s.cores ∧
          SameRegs [Blk.at (.csq k.val) 0x54, Blk.at (.csq k.val) 0x74] s t))) ∧
  (∀ (n : Fin 16) (s : State) (o : CollOut), s.coll.filter (fun x => x.core == n.val) = [o] → (s.core n.val).coll = true →
    s.ncPhase n.val = 1 → (s.core n.val).hlu = [] → (s.coresOn (clusterOf n.val)).any (fun q => q.2 == n.val) = true →
    s.csqPhase (clusterOf n.val) = 2 →
    Completes (.commit n) s (fun t =>
      (∀ a (h : a < o.data.length), t.byte (tileBase n.val + o.ofs + a) = o.data[a]) ∧
        SameMem (tileBase n.val + o.ofs) o.data.length s t ∧ t.ncPhase n.val = 2 ∧ t.csqPhase (clusterOf n.val) = 2)) ∧
  (∀ a b : List Byte, cbKind a = cbKind b → cbBytes a = cbBytes b → cbPart a = cbPart b → cbRoot a = cbRoot b →
    collSelect a = collSelect b) ∧
  (∀ b : List Byte, cbKind b = 0 → cbPart b = 0xFFFF → cbBytes b % 1024 = 0 → 1024 ≤ cbBytes b → cbBytes b ≤ 65536 →
    (collSelect b).1 = if cbBytes b ≤ 9216 then 3 else if cbBytes b ≤ 28672 then 2 else 1)


/-! ### Serving loops and the scheduler (14) -/

/-- Decisions and closes, where loop `l` alone is served (R651-R653, R662, R665, R668). A head that fails a check, and a
BULK head at its age limit, ends with its record and never starts, where the record reaches its ring and the crossbar applies Dispatch's pointer writes (R380); one that passes starts on its whole placement with
CSQ_PLACE as R586 gives it. A step that has finished closes: its record is written, its clusters are free and its slots
without MODEL are EMPTY with GEN 0x00 (R584). An URGENT head preempts a lower step on its placement (R668, R675), and a
boundary preemption waits for phase 0 or 2 (R676).
The model's choices and readings in it: log entries 17 and 75. -/
def Obligations.LoopsServeTheirHeads : Prop :=
  (∀ s : State, s.serving = false → Completes .schedulerDecision s (Unchanged s)) ∧
  (∀ (l : Fin 16) (s : State) (i : Image),
    let e := s.headBytes l.val
    let q := s.srcRing l.val
    let p := doneRing l.val
    let record := fun (r : Rec) (t : State) =>
      t.bytes (s.rgSlot p (s.rgTail p)) 32 = r.bytes s.dt ∧ (t.loop l.val).step = none ∧ (t.loop l.val).head = none ∧
        t.lp l.val 0x28 = (s.lp l.val 0x28 + 1) % 2 ^ 32 ∧ t.rgHead q = (s.rgHead q + 1) % (2 * s.rgN q) ∧
        t.rgTail p = (s.rgTail p + 1) % (2 * s.rgN p) ∧ t.images = s.images ∧ t.cores = s.cores ∧
        SameMem (s.rgSlot p (s.rgTail p)) 32 s t
    s.serving = true → s.admits = true → (∀ j, j < 16 → (s.loop j).step = none ∧ (j ≠ l.val → s.lpServing j = false)) →
    s.images.all (fun j => !j.leaving) = true → s.hasHead l.val = true → s.lpPaused l.val = false →
    (s.loop l.val).head = none → (s.loop l.val).abandon = 0 → s.disp.abandoning = false → s.rgOcc q = 1 →
    let ends := entryLands s .dispatch p 32 = true ∧ headFrees s .dispatch q = true
    (∀ o r, ends → headCheck s l.val e = some (o, r) → r ≠ 0x220C →
      Completes .schedulerDecision s (record (Rec.unstarted (headSeq e) o r (s.loop l.val).defer))) ∧
    (ends → headCheck s l.val e = none → s.lpClass l.val = 0 → s.lp l.val 0xC ≠ 0 →
      (readEntry s l.val e).origin + s.lp l.val 0xC ≤ s.dt →
      Completes .schedulerDecision s (record (Rec.unstarted (headSeq e) 3 0x2233 (s.loop l.val).defer))) ∧
    (headCheck s l.val e = none → s.lpImage l.val = some i → i.placed = true → (i.hot = false ∨ i.resident = true) →
      i.clusters.Nodup → i.clusters.all (fun k => decide (k < 4)) = true →
      (s.lpClass l.val = 2 ∨ (s.lpClass l.val = 0 ∧ s.lp l.val 0xC = 0) ∨ (s.lpClass l.val = 1 ∧ stepCost s l.val ≤ s.lp l.val 0x24)) →
      Completes .schedulerDecision s (fun t =>
        (t.loop l.val).step.map (fun x => (x.model, x.entry, x.bound, x.outcome)) = some (i.model, readEntry s l.val e, true, none) ∧
          (∀ j (h : j < i.clusters.length), t.getN (.csq i.clusters[j]) 0x40 = 0x10 ∧
            t.getN (.csq i.clusters[j]) 0x44 = placeWord i j % 2 ^ 32 ∧ (t.cseq i.clusters[j]).loop = l.val ∧
            (t.cseq i.clusters[j]).done = 0) ∧
          t.getB .disp (lpOff l.val 0x1C) 0 = true ∧ t.rgHead q = s.rgHead q ∧ t.mem = s.mem ∧ t.cores = s.cores))) ∧
  (∀ (k : Fin 4) (l : Fin 16) (s : State) (x : StepSt) (i : Image),
    let p := doneRing l.val
    let o := stepOutcome x s.dt
    let done : Rec := { seq := x.entry.seq, outcome := o.1, reason := o.2, defer := x.defer, preempts := x.preempts,
                        reruns := x.reruns, cores := i.cores, startOfs := (x.start.map (· - x.entry.origin)).getD 0xFFFFFFFF,
                        run := (x.start.map (fun y => s.dt - y)).getD 0 }
    (s.loop l.val).step = some x → s.image x.model = some i → s.boundOn k.val l.val = true → closeReady s l.val = true →
    (∀ j, j < 16 → j ≠ l.val → (s.loop j).step = none) → s.images.all (fun j => !j.leaving) = true → o.2 ≠ 0x220A →
    entryLands s .dispatch p 32 = true → s.check.retDisp = false →
    Completes (.stepClose k) s (fun t =>
      (t.loop l.val).step = none ∧
        t.bytes (s.rgSlot p (s.rgTail p)) 32 = done.bytes s.dt ∧
        SameMem (s.rgSlot p (s.rgTail p)) 32 s t ∧ t.getB .disp (lpOff l.val 0x1C) 0 = false ∧
        (∀ j ∈ i.clusters, s.csqStep j = true → (s.cseq j).loop = l.val → t.csqStep j = false) ∧
        (∀ r (hr : r < i.slots.length), i.slots[r].model = false →
          (t.slot (i.handle0 + r)).state = 0 ∧ (t.slot (i.handle0 + r)).gen = 0) ∧
        (∀ n ∈ i.pcores, (t.core n).land = []))) ∧
  (∀ (k : Fin 4) (l m : Fin 16) (s : State) (e : Entry) (i j : Image) (x : StepSt), l ≠ m →
    s.serving = true → s.admits = true → (∀ c, c < 16 → c ≠ l.val → c ≠ m.val → s.lpServing c = false ∧ (s.loop c).step = none) →
    s.images.all (fun c => !c.leaving) = true → s.hasHead l.val = true → s.lpPaused l.val = false → s.lpClass l.val = 2 →
    s.lpCfg l.val 4 4 = 0 → s.lpClass m.val < 2 → (s.loop l.val).head = some e → (s.loop l.val).abandon = 0 →
    s.disp.abandoning = false → s.lpImage l.val = some i → s.imageBusy (s.lp l.val 4) = false →
    (s.loop m.val).step = some x → x.bound = true → x.outcome = none → s.image x.model = some j →
    k.val ∈ i.clusters → k.val ∈ j.clusters → s.csqStep k.val = true → (s.cseq k.val).loop = m.val →
    s.csqPhase k.val = 1 → s.csqPreempted k.val = false → s.getB (.csq k.val) 0x74 24 = false →
    (∀ c ∈ j.clusters, c < 4) → j.clusters.Nodup →
    Completes .schedulerDecision s (fun t =>
      t.csqPhase k.val = 3 ∧ (t.cseq k.val).kill = some (1, 0) ∧ (t.loop l.val).step = none)) ∧
  (∀ (k : Fin 4) (s : State),
    (atBoundary s k.val = false → Completes (.boundaryPreempt k) s (Unchanged s)) ∧
    (∀ (l : Fin 16) (x : StepSt), s.csqPhase k.val = 2 → (s.loop l.val).step = some x → k.val ∈ x.waits →
      (∀ j : Fin 16, j ≠ l → (s.loop j.val).step = none) → s.csqStep k.val = true → (s.cseq k.val).loop = l.val →
      s.csqPreempted k.val = false →
      Completes (.boundaryPreempt k) s (fun t =>
        (t.cseq k.val).preempt = true ∧ (t.loop l.val).step.map (·.waits) = some (x.waits.filter (· != k.val)) ∧ t.regs = s.regs)))

/-- A decision never binds two steps to one cluster, nor two to one image, where none were (R656, R668, R670).
The model's choices and readings in it: log entries 17 and 19. -/
def Obligations.DecisionsBindEachClusterOnce : Prop :=
  ∀ s : State,
    let once := fun (u : State) => ∀ l, l < 16 → ∀ m, m < 16 → l ≠ m →
      (∀ k, k < 4 → ¬ (u.boundOn k l = true ∧ u.boundOn k m = true)) ∧
      ((u.loop l).step.isSome = true → (u.loop l).step.map (·.model) ≠ (u.loop m).step.map (·.model))
    (∀ i ∈ s.images, ∀ k ∈ i.clusters, k < 4) → once s → Completes .schedulerDecision s once

/-- Attachment, the heartbeat, quiescence and the loop check (R687-R692, R697-R699, R704-R706), with no entry queued.
The model's choices and readings in it: log entries 45 and 75. -/
def Obligations.HostsAttachAndLoopsAreEnabled : Prop :=
  ∀ (m : Master) (v mask : Word) (s : State),
    (Applies s m .disp 0x54 v mask → bit v 16 = true → bit v 17 = false → (∀ l, l < 16 → s.lpServing l = false) →
      Completes (.attach m v) s (fun t =>
        t.disp.attach = 1 ∧ t.getB .sys 0x44 8 = true ∧ t.getN .disp 0x58 = fld v 15 0 ∧ t.disp.hbDt = s.dt ∧
          t.disp.abandoning = false ∧ t.getB .disp offRaw 9 = true ∧ Raised s t [(Blk.disp.unit, 0x2241, 3)] ∧
          t.images = s.images ∧ t.mem = s.mem ∧ t.cores = s.cores)) ∧
    (Applies s m .disp 0x54 v mask → bit v 16 = false → bit v 17 = true →
      Completes (.detach m v) s (fun t =>
        t.disp.attach = 0 ∧ t.getB .sys 0x44 8 = false ∧ t.getN .disp 0x5C = s.dt % 2 ^ 32 ∧ t.disp.orphanDt = some s.dt ∧
          t.check = s.check ∧ t.images = s.images ∧ t.mem = s.mem)) ∧
    (Applies s m .disp 0x54 v mask → bit v 16 = true → bit v 17 = true → m ≠ .xspi →
      Completes (.attach m v) s (fun t => t.disp = s.disp ∧ t.getB .disp offRaw 3 = true ∧ t.getF .sys 0x44 31 0 = s.getF .sys 0x44 31 0)) ∧
    (Applies s m .disp 0x4C v mask →
      Completes (.heartbeat m v) s (fun t =>
        t.disp = (if s.disp.attach = 1 then { s.disp with hbDt := s.dt } else s.disp) ∧ t.regs = s.regs)) ∧
    (s.disp.attach = 1 → s.disp.hbDt + s.getN .disp 0x50 ≤ s.dt →
      Completes .orphan s (fun t =>
        t.disp.attach = 2 ∧ t.getB .sys 0x44 8 = false ∧ t.getN .disp 0x5C = s.dt % 2 ^ 32 ∧ t.getB .disp offRaw 10 = true ∧
          Raised s t [(Blk.disp.unit, 0x2240, 3)] ∧ t.images = s.images ∧ t.mem = s.mem)) ∧
    ((s.disp.attach ≠ 1 ∨ s.dt < s.disp.hbDt + s.getN .disp 0x50) → Completes .orphan s (Unchanged s)) ∧
    (∀ d, s.disp.attach ≠ 1 → s.disp.orphanDt = some d →
      (d + 1966080000 ≤ s.dt → (∀ l, l < 16 → s.lpServing l = false) →
        Completes .orphanAbandon s (fun t => t.disp = { s.disp with abandoning := true } ∧ t.regs = s.regs ∧ t.mem = s.mem)) ∧
      (s.dt < d + 1966080000 → Completes .orphanAbandon s (Unchanged s))) ∧
    (Applies s m .disp 0x9C v mask → bit v 0 = true →
      Completes (.quiesceRequest m v) s (fun t => t.quiescing = true ∧ t.disp = s.disp ∧ OnlyRegs [Blk.at .disp 0x9C] s t)) ∧
    (Applies s m .disp 0x9C v mask → bit v 0 = false → s.disp.attach < 4 →
      Completes (.quiesceEnd m v) s (fun t =>
        t.quiescing = false ∧ t.getF .disp 0x40 1 0 = s.disp.attach ∧ OnlyRegs [Blk.at .disp 0x9C, Blk.at .disp 0x40] s t)) ∧
    ((s.quiescing && (List.range 16).all (fun l => (s.loop l).step.isNone)) = true →
      Completes .quiesced s (fun t => t.getF .disp 0x40 1 0 = 3 ∧ t.getB .disp offRaw 11 = true ∧
        OnlyRegs [Blk.at .disp 0x40, Blk.at .disp offRaw] s t)) ∧
    ((s.quiescing && (List.range 16).all (fun l => (s.loop l).step.isNone)) = false → Completes .quiesced s (Unchanged s)) ∧
    (∀ l : Fin 16,
      let b := plainStore .disp (lpOff l.val 0) v mask s
      let cfg := lpOff l.val 0
      (Applies s m .disp cfg v mask → bit v 0 = true → s.lpServing l.val = false →
        (loopCheck (b.setB .disp cfg 0 true) l.val = none →
          Completes (.loopEnable m l v) s (fun t =>
            t.lpServing l.val = true ∧ t.getB .disp (lpOff l.val 0x1C) 5 = false ∧ t.lp l.val 0x20 = 0 ∧ t.disp = s.disp ∧
              OnlyRegs [Blk.at .disp cfg, Blk.at .disp (lpOff l.val 0x1C), Blk.at .disp (lpOff l.val 0x20)] s t)) ∧
        (∀ c o, loopCheck (b.setB .disp cfg 0 true) l.val = some (c, o) →
          Completes (.loopEnable m l v) s (fun t =>
            t.lpServing l.val = false ∧ t.getB .disp (lpOff l.val 0x1C) 5 = true ∧ t.lp l.val 0x20 = (c + o * 0x10000) % 2 ^ 32 ∧
              t.lpCfg l.val 0 0 = 0 ∧ t.disp = s.disp ∧ t.mem = s.mem))) ∧
      (Applies s m .disp cfg v mask → bit v 0 = false →
        Completes (.loopDisable m l v) s (fun t =>
          t.lpCfg l.val 0 0 = 0 ∧ t.lpServing l.val = (s.lpServing l.val && (s.loop l.val).step.isSome) ∧
            (t.loop l.val).step = (s.loop l.val).step ∧ t.mem = s.mem ∧
            SameRegs [Blk.at .disp cfg, Blk.at .disp (lpOff l.val 0x1C), Blk.at .disp (lpOff l.val 0x24)] s t)))


/-! ### Camera ports and image pipelines (15) -/

/-- A frame of context `c`, which alone owns its virtual channel and routes RAW. An FS opens it at the next free entry of the
ring with its stamp and buffer (R727, R728), or counts a drop on a full ring; one with a frame open closes that with NO_FE
first (R749). A line lands at its place in the buffer (R734); a bad CRC is delivered, counted and raised once a frame (R726,
R748); a line without room is lost with OVERFLOW (R735). An FE closes the frame, TRUNC where lines are missing (R729, R733);
CX_TMO closes it with NO_FE and not before. Publication writes the entry into the ring, where that write does not fail, and
counts (R730, R733).
The model's choices and readings in it: log entries 20, 21, 22 and 76. -/
def Obligations.FramesOpenDeliverAndPublish : Prop :=
  ∀ (p c : Fin 4) (vc : Fin 16) (num : Nat) (fixed : Bool) (s : State),
    let b : Blk := .csi p.val
    let q := camRing p.val c.val
    let x := s.cam p.val c.val
    let cx := fun (r : Nat) => b.at (cxOff c.val r)
    let opened := fun (held : Nat) => newFrame s p.val c.val ((s.rgTail q + held) % (2 * s.rgN q)) num
    s.csiUp p.val = true → camsOf s p.val vc.val = [c.val] → cfgRoute (s.cx p.val c.val 0) = 2 →
    (x.frame = none → s.rgProduces q = true → s.rgOcc q + x.closed.length < s.rgN q →
      Completes (.frameStart p vc num fixed) s (fun t =>
        t.cam p.val c.val = { x with frame := some (opened x.closed.length) } ∧
          t.getN b (cxOff c.val 0x20) = s.dt % 2 ^ 32 ∧ t.getF b (cxOff c.val 0x1C) 31 16 = num % 0x10000 ∧
          t.getF b (cxOff c.val 0x1C) 15 0 = 1 ∧ t.getN b 0x4C = min (s.getN b 0x4C + fixed.toNat) 0xFFFFFFFF ∧
          t.mem = s.mem ∧ t.rings = s.rings ∧ t.check = s.check ∧
          SameRegs [cx 0x1C, cx 0x20, cx 0x24, b.at 0x4C] s t)) ∧
    (x.frame = none → s.rgProduces q = true → s.rgN q ≤ s.rgOcc q + x.closed.length →
      Completes (.frameStart p vc num fixed) s (fun t =>
        t.cams = s.cams ∧ t.getN b (cxOff c.val 0x2C) = min (s.getN b (cxOff c.val 0x2C) + 1) 0xFFFFFFFF ∧
          (t.ring q).fullRec = true ∧ t.rgTail q = s.rgTail q ∧ t.mem = s.mem)) ∧
    (∀ f, x.frame = some f → cfgRoute f.cfg = 2 →
      (f.lines < fld f.size 29 16 → s.rgProduces q = true → s.rgOcc q + x.closed.length + 1 < s.rgN q →
        Completes (.frameStart p vc num fixed) s (fun t =>
          (t.cam p.val c.val).frame = some (opened (x.closed.length + 1)) ∧
            (t.cam p.val c.val).closed.length = x.closed.length + 1 ∧
            ((t.cam p.val c.val).closed.getLast?.map (fun g => (g.flags, g.close))) = some (f.flags ||| 0x12, some s.dt) ∧
            t.getB b 0x48 3 = true ∧ t.mem = s.mem)) ∧
      Completes (.frameEnd p vc num fixed) s (fun t =>
        t.cam p.val c.val = { frame := none, closed := x.closed ++
            [{ f with flags := f.flags ||| (if f.lines < fld f.size 29 16 then 2 else 0), close := some s.dt }] } ∧
          t.getF b (cxOff c.val 0x1C) 15 0 = 0 ∧ t.mem = s.mem ∧ t.check = s.check ∧ t.rings = s.rings ∧
          SameRegs [cx 0x1C, b.at 0x4C] s t) ∧
      (s.dt < f.dt + (s.cx p.val c.val 0x18).toNat → Completes (.frameTimeout p c) s (Unchanged s)) ∧
      (f.dt + (s.cx p.val c.val 0x18).toNat ≤ s.dt → f.once.contains 0x4032 = false →
        Completes (.frameTimeout p c) s (fun t =>
          (t.cam p.val c.val).frame = none ∧
            ((t.cam p.val c.val).closed.getLast?.map (fun g => g.flags)) =
              some (f.flags ||| 0x10 ||| (if f.lines < fld f.size 29 16 then 2 else 0)) ∧
            t.getB b 0x48 3 = true ∧ Raised s t [(b.unit, 0x4032, 0)] ∧ t.mem = s.mem)) ∧
      (∀ k : LongPacket, k.vc = vc.val → k.dt = cfgDt (s.cx p.val c.val 0) → longDts.contains k.dt = true → k.fixed = false →
        let out := rawOut f.cfg (fld f.size 13 0) (k.data.take k.wc)
        let a := f.buf + f.wrote * f.stride
        (k.excess = false → k.wc = linkLine (cfgDt f.cfg) (fld f.size 13 0) → f.dead = false → f.lines < fld f.size 29 16 →
          f.flags &&& 8 = 0 → camFails s (cfgAgent f.cfg) a out.length = none →
          (k.crcOk = true →
            Completes (.longPacket p k) s (fun t =>
              (∀ i (h : i < out.length), t.byte (a + i) = out[i]) ∧ SameMem a out.length s t ∧
                (t.cam p.val c.val).frame = some { f with lines := f.lines + 1, wrote := f.wrote + 1 } ∧ t.check = s.check ∧
                t.rings = s.rings)) ∧
          (k.crcOk = false → f.once.contains 0x4031 = false →
            Completes (.longPacket p k) s (fun t =>
              (∀ i (h : i < out.length), t.byte (a + i) = out[i]) ∧
                (t.cam p.val c.val).frame.map (fun g => (g.flags, g.lines, g.wrote)) = some (f.flags ||| 4, f.lines + 1, f.wrote + 1) ∧
                t.getB b 0x48 2 = true ∧ t.getN b 0x50 = min (s.getN b 0x50 + 1) 0xFFFFFFFF ∧
                Raised s t [(b.unit, 0x4031, 0)]))) ∧
        (k.excess = true → f.once.contains 0x4033 = false →
          Completes (.longPacket p k) s (fun t =>
            (t.cam p.val c.val).frame.map (fun g => (g.flags, g.lines, g.wrote)) = some (f.flags ||| 8, f.lines, f.wrote) ∧
              t.getB b 0x48 6 = true ∧ Raised s t [(b.unit, 0x4033, 0)] ∧ t.mem = s.mem)))) ∧
    (x.frame = none →
      Completes (.frameEnd p vc num false) s (fun t =>
        t.cams = s.cams ∧ t.getB b 0x48 3 = true ∧ Raised s t [(b.unit, 0x4032, 0)] ∧ t.mem = s.mem)) ∧
    (∀ k : LongPacket, k.fixed = false → longDts.contains k.dt = true → k.vc = vc.val → k.dt ≠ cfgDt (s.cx p.val c.val 0) →
      Completes (.longPacket p k) s (fun t =>
        t.getN b 0x54 = min (s.getN b 0x54 + 1) 0xFFFFFFFF ∧ OnlyRegs [b.at 0x54] s t)) ∧
    (x.closed = [] → Completes (.framePublish p c) s (Unchanged s)) ∧
    (∀ f fs, x.closed = f :: fs → s.rgProduces q = true → s.rgOcc q < s.rgN q →
      s.ringRegion (s.rgSlot q (s.rgTail q)) 32 = true →
      firstFail s (cfgAgent f.cfg) (s.rgSlot q (s.rgTail q)) 32 true = none →
      Completes (.framePublish p c) s (fun t =>
        t.bytes (s.rgSlot q (s.rgTail q)) 32 = frameEntry p.val c.val f ∧ SameMem (s.rgSlot q (s.rgTail q)) 32 s t ∧
          t.rgTail q = (s.rgTail q + 1) % (2 * s.rgN q) ∧ (t.cam p.val c.val).closed = fs ∧
          t.getN b (cxOff c.val 0x28) = min (s.getN b (cxOff c.val 0x28) + 1) 0xFFFFFFFF ∧
          t.getN b (cxOff c.val 0x30) = min (s.getN b (cxOff c.val 0x30) + (damaged f.flags).toNat) 0xFFFFFFFF ∧
          t.getB b offRaw (8 + c.val) = true ∧ t.check = s.check))

/-- EN at 1 stores the other fields and starts the context check, which makes the page BUSY (R745, R746). At its end a check
that finds nothing sets EN and binds its slot; one that refuses reports its reason and leaves EN as it was (R746); a disable closes the open frame with ABORTED and unbinds (R729). An ISP frame whose
parameter block cannot be read sets PARAM_BAD; a slot without an earlier block marks the frame WRITE_ERR (R742). Link events set
their sticky bits and raise once (R720-R722, R725, R745, R748).
The model's choices and readings in it: log entries 21, 23, 24 and 25. -/
def Obligations.ContextsAreCheckedAndLinksReport : Prop :=
  ∀ (p : Fin 4) (s : State),
    let b : Blk := .csi p.val
    let quiet := ∀ c, c < 4 → (s.cam p.val c).frame = none
    (∀ c : Fin 4,
      let off := cxOff c.val 0
      let r := cfgRoute (s.cx p.val c.val 0)
      let sl := cfgSlot (s.cx p.val c.val 0)
      s.present b = true → s.jobs.get? b.pg = some (.units [c.val]) →
      (camCheck s p.val c.val = none →
        Completes (.enableCheckDone (.page b.pg)) s (fun t =>
          t.cxOn p.val c.val = true ∧ t.jobs.get? b.pg = none ∧ t.getB b offStatus 1 = false ∧ t.getN b offReason = 0 ∧
            (r < 2 → t.getF (.isp r) (slOff sl 0x1C) 5 0 = 1 + 4 * camKey p.val c.val) ∧ t.cams = s.cams ∧ t.mem = s.mem ∧
            SameRegs [b.at off, b.at offStatus, b.at offReason, Blk.at (.isp r) (slOff sl 0x1C)] s t)) ∧
      (∀ code o, camCheck s p.val c.val = some (code, o) →
        Completes (.enableCheckDone (.page b.pg)) s (fun t =>
          t.getB b offStatus 1 = true ∧ t.jobs.get? b.pg = none ∧ t.getN b offReason = (code + o * 0x10000) % 2 ^ 32 ∧
            t.getB b offRaw 0 = true ∧ Raised s t [(b.unit, code, 3)] ∧ t.cams = s.cams ∧ t.mem = s.mem ∧
            t.cxOn p.val c.val = s.cxOn p.val c.val))) ∧
    (∀ (m : Master) (c : Fin 4) (v mask : Word),
      let off := cxOff c.val 0
      let u := plainStore b off v mask s
      Applies s m b off v mask →
      (bit v 0 = true → s.cxOn p.val c.val = false →
        Completes (.contextEnable m p c v) s (fun t =>
          t.jobs.get? b.pg = some (.units [c.val]) ∧ t.cxOn p.val c.val = false ∧ t.regs = u.regs ∧ t.cams = s.cams ∧
            t.mem = s.mem)) ∧
      (bit v 0 = false → s.cxOn p.val c.val = false → Completes (.contextDisable m p c v) s (fun t => OnlyRegs [b.at off] s t)) ∧
      (∀ f, bit v 0 = false → u.cxOn p.val c.val = true → (s.cam p.val c.val).frame = some f → cfgRoute f.cfg = 2 →
        Completes (.contextDisable m p c v) s (fun t =>
          t.cxOn p.val c.val = false ∧ (t.cam p.val c.val).frame = none ∧
            ((t.cam p.val c.val).closed.getLast?.map (fun g => g.flags &&& 0x20)) = some 0x20 ∧ t.mem = s.mem))) ∧
    (∀ (c : Fin 4) (vc : Fin 16) (num : Nat),
      let q := camRing p.val c.val
      let cfg := s.cx p.val c.val 0
      let n := cfgRoute cfg
      let sl := cfgSlot cfg
      let a := (s.sl n sl 0xC).toNat + (fld (s.sl n sl 0x10) 7 0) <<< 32
      s.csiUp p.val = true → camsOf s p.val vc.val = [c.val] → n < 2 → camRoutes s p.val c.val = true →
      (s.cam p.val c.val).frame = none → s.rgProduces q = true → s.rgOcc q + (s.cam p.val c.val).closed.length < s.rgN q →
      (memRead (cfgAgent cfg) a 0x1000 s).2 = none →
      Completes (.frameStart p vc num false) s (fun t =>
        t.params = s.params ∧ t.getB (.isp n) (slOff sl 0x1C) 8 = true ∧ t.mem = s.mem ∧
          (t.cam p.val c.val).frame.map (·.flags) = some (if (s.params.get? (2 * n + sl)).isSome then 0 else 0x80))) ∧
    (s.csiUp p.val = true → quiet →
      Completes (.headerUncorrectable p) s (fun t =>
        t.getB b 0x48 1 = true ∧ t.getB b offRaw 12 = true ∧ Raised s t [(b.unit, 0x4030, 0)] ∧ t.cams = s.cams ∧ t.mem = s.mem)) ∧
    (∀ lane : Fin 4, s.csiUp p.val = true → quiet →
      (lane.val < 2 ^ s.getF b 0x40 1 0 →
        Completes (.dphySotError p lane) s (fun t =>
          t.getB b 0x48 0 = true ∧ Raised s t [(b.unit, 0x4035, 0)] ∧ t.cams = s.cams ∧ t.mem = s.mem)) ∧
      (2 ^ s.getF b 0x40 1 0 ≤ lane.val → Completes (.dphySotError p lane) s (Unchanged s))) ∧
    (s.csiUp p.val = true →
      Completes (.deskewSequence p) s (fun t =>
        t.getB b 0x44 9 = (s.getB b 0x44 9 || decide (150 < s.getF b 0x40 31 20)) ∧ OnlyRegs [b.at 0x44] s t) ∧
      Completes (.ulpsEntry p) s (fun t => t.getB b 0x44 8 = true ∧ OnlyRegs [b.at 0x44] s t) ∧
      Completes (.ulpsExit p) s (fun t => t.getB b 0x44 8 = false ∧ OnlyRegs [b.at 0x44] s t) ∧
      (∀ (vc : Fin 16) (dt : Fin 64), 8 ≤ dt.val → dt.val < 16 →
        Completes (.genericShortPacket p vc dt) s (fun t =>
          t.getN b 0x54 = min (s.getN b 0x54 + 1) 0xFFFFFFFF ∧ OnlyRegs [b.at 0x54] s t)) ∧
      (∀ k : LongPacket, k.fixed = false → longDts.contains k.dt = false → quiet →
        Completes (.longPacket p k) s (fun t =>
          t.getN b 0x54 = min (s.getN b 0x54 + 1) 0xFFFFFFFF ∧ t.getB b 0x48 5 = true ∧ Raised s t [(b.unit, 0x4034, 0)] ∧
            t.cams = s.cams ∧ t.mem = s.mem)))


/-! ### Codecs (16) -/

/-- Decoder: EN at 1 starts the stream check, which makes the page BUSY; one that finds nothing sets EN and WAIT_IRAP, one that
refuses reports it (R782); EN written at 0 drops
the stream's pictures and passes its waiting chunks (R787). A chunk of a running stream is read and its head advances (R760);
one with a bad check byte is skipped, counted and raised (R756). A picture waits for a random access point (R764), stalls
without a free buffer (R762), or is decoded when round robin has come to its stream (R758). A published frame writes its damage area, its entry and its counts (R765, R768,
R769). Encoder: a source is read and its head advances (R771); a unit is written whole where it fits, or waits (R771-R774).
JPEG: a job is taken, or skipped on a bad check byte (R756, R775), and ends with its result record (R779).
The model's choices and readings in it: log entries 26, 27 and 77. -/
def Obligations.CodecsDecodeEncodeAndReport : Prop :=
  ∀ (s : State),
    let d : Blk := .vdec
    (∀ (i : Fin 4) (rsv : Bool),
      let off := vsOff i.val 0
      s.present d = true → s.jobs.get? d.pg = some (.units [i.val + 4 * rsv.toNat]) →
      (vdecCheck s i.val rsv = none →
        Completes (.enableCheckDone (.page d.pg)) s (fun t =>
          t.vsOn i.val = true ∧ t.jobs.get? d.pg = none ∧ t.vs i.val 0x24 = 1 ∧ (t.vd i.val).count = 0 ∧ (t.vd i.val).pics = [] ∧
            t.getN d offReason = 0 ∧ t.mem = s.mem ∧
            SameRegs [d.at off, d.at (vsOff i.val 0x24), d.at offStatus, d.at offReason] s t)) ∧
      (∀ code o, vdecCheck s i.val rsv = some (code, o) →
        Completes (.enableCheckDone (.page d.pg)) s (fun t =>
          t.getB d offStatus 1 = true ∧ t.jobs.get? d.pg = none ∧ t.getN d offReason = (code + o * 0x10000) % 2 ^ 32 ∧
            t.vsOn i.val = s.vsOn i.val ∧ t.getB d offRaw 0 = true ∧ Raised s t [(d.unit, code, 3)] ∧ t.vdec = s.vdec ∧ t.mem = s.mem))) ∧
    (∀ (m : Master) (i : Fin 4) (v mask : Word),
      let off := vsOff i.val 0
      let u := plainStore d off v mask s
      Applies s m d off v mask →
      (bit v 0 = true → s.vsOn i.val = false →
        Completes (.vdecStreamEnable m i v) s (fun t =>
          t.jobs.get? d.pg = some (.units [if v &&& 0xFFFFFFF8 = 0 then i.val else i.val + 4]) ∧ t.vsOn i.val = false ∧
            t.regs = u.regs ∧ t.vdec = s.vdec ∧ t.mem = s.mem)) ∧
      (bit v 0 = false → u.vsOn i.val = true →
        Completes (.vdecStreamDisable m i v) s (fun t =>
          t.vsOn i.val = false ∧ t.vs i.val 0x24 = 0 ∧ (t.vd i.val).pics = [] ∧ (t.vd i.val).out = [] ∧
            (t.vd i.val).chunks = [] ∧ (t.vd i.val).skip = s.rgOcc 96 ∧ t.rings = s.rings ∧ t.mem = s.mem ∧
            SameRegs [d.at off, d.at (vsOff i.val 0x24)] s t))) ∧
    (∀ (units : Nat),
      let e := s.rgFront 96
      let i := eByte e 2 % 4
      s.up d = true → s.rgWaits 96 = true → s.armedFor 5 96 = none →
      (checkOk e = false →
        Completes (.bitstreamChunk units none) s (fun t =>
          t.rgHead 96 = (s.rgHead 96 + 1) % (2 * s.rgN 96) ∧ t.getN d 0x44 = min (s.getN d 0x44 + 1) 0xFFFFFFFF ∧
            t.getB d offRaw 12 = true ∧ Raised s t [(d.unit, 0x4832, 0)] ∧ t.mem = s.mem)) ∧
      (checkOk e = true → s.vsOn i = true → (s.vd i).skip = 0 → bit (s.vs i 0x24) 1 = true →
        Completes (.bitstreamChunk units none) s (Unchanged s)) ∧
      (checkOk e = true → s.vsOn i = true → (s.vd i).skip = 0 → bit (s.vs i 0x24) 1 = false → eByte e 1 % 8 = 2 →
        (s.vd i).eos = false → readFails s agVdec (eNum e 16 5) (eNum e 24 4) = none →
        Completes (.bitstreamChunk units none) s (fun t =>
          t.rgHead 96 = (s.rgHead 96 + 1) % (2 * s.rgN 96) ∧ t.vd i = { s.vd i with chunks := (s.vd i).chunks ++ [(some (eNum e 8 8), units)] } ∧
            t.check = s.check ∧ t.mem = s.mem))) ∧
    (∀ (i : Fin 4) (o : PictureOut) (stamp : Option Nat) (rest : List (Option Nat × Nat)),
      let x := s.vd i.val
      let wait := bit (s.vs i.val 0x24) 0
      let st := fld (s.vs i.val 0x18) 15 0
      let bytes := if o.ten && bit (s.vs i.val 0) 1 && !bit (s.vs i.val 0) 2 then 2 else 1
      let shown := (x.pics.filter (fun q => q.ref && q.buf.isSome)).getLast?.isSome
      s.up d = true → s.vsOn i.val = true → takePicture x.chunks = some (stamp, rest) → x.eos = false →
      pictureRunsOk o = true →
      (wait = true → o.irap = false → s.vdReady i.val = false ∨ s.vdTurn = some i.val →
        Completes (.pictureDecode i o) s (fun t =>
          t.vd i.val = { x with chunks := rest } ∧ t.getN d (vsOff i.val 0x30) = min (s.getN d (vsOff i.val 0x30) + 1) 0xFFFFFFFF ∧
            OnlyRegs [d.at (vsOff i.val 0x30)] s { t with vdec := s.vdec, vdecLast := s.vdecLast })) ∧
      (wait = false → o.rasl = false → o.unsup = false → o.need + s.rgN (97 + i.val) + 1 ≤ s.vsCount i.val → vdFree s i.val = [] →
        Completes (.pictureDecode i o) s (fun t => bit (t.vs i.val 0x24) 1 = true ∧ OnlyRegs [d.at (vsOff i.val 0x24)] s t)) ∧
      (wait = false → o.rasl = false → o.unsup = false → o.need + s.rgN (97 + i.val) + 1 ≤ s.vsCount i.val →
        o.width ≤ fld (s.vs i.val 4) 12 0 → o.height ≤ fld (s.vs i.val 4) 28 16 → o.output = [] → o.drop = [] →
        (∀ b ∈ vdFree s i.val, camFails s agVdec (s.vsPool i.val + b * (s.vs i.val 0x14).toNat) (vdBytes s i.val o.height) = none) →
        s.vdTurn = some i.val → bytes * o.width ≤ st → o.width % 2 = 0 → o.height % 2 = 0 →
        Completes (.pictureDecode i o) s (fun t =>
          ∃ b ∈ vdFree s i.val,
            (t.vd i.val).count = x.count + 1 ∧
              ((t.vd i.val).pics.getLast?.map (fun p => (p.no, p.buf, p.stamp, p.runs, p.ref, p.held))) =
                some (x.count + 1, some b, stamp.getD s.dt,
                  o.runs.map (fun r => { first := r.first, units := r.units, cause := r.cause, method := dmgMethod shown r.cause }),
                  o.ref, true) ∧
              SameMem (s.vsPool i.val + b * (s.vs i.val 0x14).toNat) (vdBytes s i.val o.height) s t ∧ t.check = s.check ∧
              bit (t.vs i.val 0x24) 1 = false))) ∧
    (∀ (i : Fin 4) (no : Nat) (last : Bool) (rest : List (Nat × Bool)) (p : VPic),
      let x := s.vd i.val
      let q := 97 + i.val
      let area := dmgArea p
      let a := s.vsDmg i.val + (s.rgTail q % s.rgN q) * 4096
      let entry := s.rgSlot q (s.rgTail q)
      s.up d = true → s.vsOn i.val = true → s.rgProduces q = true → x.out = (no, last) :: rest →
      x.pics.find? (fun p => p.no == no) = some p → s.rgOcc q < s.rgN q → camFails s agVdec a area.length = none →
      (entry + 32 ≤ a ∨ a + area.length ≤ entry) → s.ringRegion entry 32 = true → firstFail s agVdec entry 32 true = none →
      Completes (.decodedFramePublish i) s (fun t =>
        t.bytes a area.length = area ∧ t.bytes entry 32 = vdEntry s i.val p last ∧
          t.rgTail q = (s.rgTail q + 1) % (2 * s.rgN q) ∧ (t.vd i.val).out = rest ∧
          t.getN d (vsOff i.val 0x28) = min (s.getN d (vsOff i.val 0x28) + 1) 0xFFFFFFFF ∧
          t.getN d (vsOff i.val 0x2C) = min (s.getN d (vsOff i.val 0x2C) + (!p.runs.isEmpty).toNat) 0xFFFFFFFF ∧
          t.getB d offRaw (8 + i.val) = true ∧ Raised s t (if p.runs = [] then [] else [(d.unit, 0x4830, 0)]))) ∧
    (let e := s.rgFront 101
     let len := eNum e 22 2 * (s.veDims.2 + s.veDims.2 / 2)
     s.up .venc = true → s.rgWaits 101 = true → s.armedFor 5 101 = none →
     (checkOk e = false →
       Completes .sourceFrame s (fun t =>
         t.rgHead 101 = (s.rgHead 101 + 1) % (2 * s.rgN 101) ∧ t.venc = s.venc ∧ Raised s t [(Blk.unit .venc, 0x4932, 0)] ∧ t.mem = s.mem)) ∧
     (checkOk e = true → s.veMode ≠ 3 → readFails s agVenc (eNum e 16 5) len = none →
       Completes .sourceFrame s (fun t =>
         t.rgHead 101 = (s.rgHead 101 + 1) % (2 * s.rgN 101) ∧
           t.venc.src = s.venc.src ++ [{ flags := eByte e 1, seq := eNum e 4 4, dt := eNum e 8 8, clipStart := false, clipEnd := false, left := 0 }] ∧
           t.check = s.check ∧ t.mem = s.mem))) ∧
    (∀ (y : UnitOut) (src : VencSrc) (rest : List VencSrc),
      let len := y.data.length
      s.up .venc = true → s.rgProduces 102 = true → s.venc.src = src :: rest → s.veMode = 0 → len = y.size → src.clipEnd = false →
      (∀ z ∈ rest, z.clipStart = false) → y.qp = (if veIdr s src then s.getF .venc 0x50 5 0 else s.getF .venc 0x50 13 8) →
      (vePlace s len = none →
        Completes (.encodedUnit y) s (fun t => t.getB .venc 0x70 1 = true ∧ OnlyRegs [Blk.at .venc 0x70] s t)) ∧
      (∀ o, vePlace s len = some o → s.rgOcc 102 < s.rgN 102 → camFails s agVenc (s.veBs + o) len = none →
        (s.rgSlot 102 (s.rgTail 102) + 32 ≤ s.veBs + o ∨ s.veBs + o + len ≤ s.rgSlot 102 (s.rgTail 102)) →
        s.ringRegion (s.rgSlot 102 (s.rgTail 102)) 32 = true → firstFail s agVenc (s.rgSlot 102 (s.rgTail 102)) 32 true = none →
        Completes (.encodedUnit y) s (fun t =>
          t.bytes (s.veBs + o) len = y.data ∧ t.rgTail 102 = (s.rgTail 102 + 1) % (2 * s.rgN 102) ∧
            (let e := t.bytes (s.rgSlot 102 (s.rgTail 102)) 32
             checkOk e = true ∧ eNum e 4 4 = src.seq % 2 ^ 32 ∧ eNum e 16 5 = (s.veBs + o) % 2 ^ 40 ∧ eNum e 24 4 = len % 2 ^ 32) ∧
            t.venc.src = rest ∧ t.venc.wp = o + len ∧ t.getB .venc 0x70 1 = false ∧
            t.getN .venc 0x78 = min (s.getN .venc 0x78 + 1) 0xFFFFFFFF ∧ t.getB .venc offRaw 8 = true ∧ t.check = s.check))) ∧
    (let e := s.rgFront 103
     s.up .jpeg = true → s.rgWaits 103 = true → s.armedFor 5 103 = none → s.jpeg = none →
     (checkOk e = true →
       Completes .jpegJob s (fun t =>
         t.jpeg = some e ∧ t.getB .jpeg 0x40 0 = true ∧ OnlyRegs [Blk.at .jpeg 0x40] s { t with jpeg := none })) ∧
     (checkOk e = false →
       Completes .jpegJob s (fun t =>
         t.jpeg = none ∧ t.rgHead 103 = (s.rgHead 103 + 1) % (2 * s.rgN 103) ∧
           t.getN .jpeg 0x48 = min (s.getN .jpeg 0x48 + 1) 0xFFFFFFFF ∧ Raised s t [(Blk.unit .jpeg, 0x4A32, 0)] ∧ t.mem = s.mem))) ∧
    (∀ (e : List Byte) (o : JpegOut),
      let r := eNum e 18 5
      let st := (jobStatus s e o).1
      s.up .jpeg = true → s.jpeg = some e → 0 < s.rgN 103 → camFails s agJpeg r 32 = none → jobForeign s e o = false → st ≠ 1 → st ≠ 4 → st ≠ 5 →
      Completes (.jpegJobDone o) s (fun t =>
        (let w := t.bytes r 32
         checkOk w = true ∧ eByte w 0 = st ∧ eNum w 8 4 = (jobStatus s e o).2 % 2 ^ 32 ∧ eNum w 12 4 = 0xFFFFFFFF ∧ eNum w 16 8 = s.dt % 2 ^ 64) ∧
          t.jpeg = none ∧ t.rgHead 103 = (s.rgHead 103 + 1) % (2 * s.rgN 103) ∧ t.getB .jpeg 0x40 0 = false ∧
          t.getF .jpeg 0x40 10 8 = st ∧ t.getN .jpeg 0x44 = min (s.getN .jpeg 0x44 + 1) 0xFFFFFFFF ∧ t.getB .jpeg offRaw 8 = true ∧
          (jobBad e = true → SameMem r 32 s t) ∧ Raised s t (if st = 2 then [(Blk.unit .jpeg, 0x4A30, 0)] else [])))


/-! ### Sample pipeline (17) -/

/-- EN at 1 starts the stream check and sets BUSY; a check that finds nothing enables the stream at INDEX_BASE, one that refuses
clears EN and reports in SP_REASON (R822). The stream
whose turn it is takes the entry at its source head; each entry takes one sample index (R795): an entry is skipped or dropped
with its counter and record, its head moves at once and no memory changes (R796, R797), or it is accepted and its head waits. A
completed sample writes its tensor and its record in its slot and nothing else, and moves the head (R797, R809, R813). A batch
closes at its last sample, at BATCH_TMO and not before, or with FLUSH when the stream is disabled (R811, R825); a drop run ends at
BATCH_TMO and not before (R816). Publication whose write does not fail writes the entry, moves the tail and lets a disabled stream end (R815, R825); a full
ring holds the batch or the record (R817).
The model's choices and readings in it: log entries 28 and 78. -/
def Obligations.StreamsTakeFillAndPublish : Prop :=
  ∀ (i : Fin 16) (s : State),
    let b : Blk := .spl
    let x := s.sp i.val
    let r := fun (k : Nat) => spOff i.val k
    let src := s.spSrc i.val
    let e := s.rgFront src
    let q := spRing i.val
    let busy := (s.splJob.map (fun j => j.stream == i.val)).getD false
    let next := fun (t : State) => t.spNext i.val = (s.spNext i.val + 1) % 2 ^ 60
    let moved := fun (t : State) => t.rgHead src = (s.rgHead src + 1) % (2 * s.rgN src)
    let plus := fun (k : Nat) (t : State) => t.getN b (r k) = min (s.getN b (r k) + 1) 0xFFFFFFFF
    (s.spBusy i.val = true →
      (spCheck s i.val = none →
        Completes (.enableCheckDone (.stream i)) s (fun t =>
          t.spOn i.val = true ∧ t.spBusy i.val = false ∧ t.spNext i.val = s.spN i.val 24 8 ∧ (t.sp i.val).open_ = [] ∧
            (t.sp i.val).queue = [] ∧ (t.sp i.val).seq = 0 ∧ t.getN b (r 8) = 0 ∧ t.mem = s.mem ∧ t.check = s.check ∧
            SameRegs [b.at (r 4), b.at (r 8), b.at (r 0xC), b.at (r 0x10)] s t)) ∧
      (∀ code o, spCheck s i.val = some (code, o) →
        Completes (.enableCheckDone (.stream i)) s (fun t =>
          t.spOn i.val = s.spOn i.val ∧ t.spBusy i.val = false ∧ t.spEn i.val = false ∧ t.getB b (r 4) 1 = true ∧
            t.getN b (r 8) = (code + o * 0x10000) % 2 ^ 32 ∧ Raised s t [(b.unit, code, 3)] ∧ t.spl = s.spl ∧ t.mem = s.mem))) ∧
    (∀ (m : Master) (v mask : Word), Applies s m b (r 0) v mask →
      (bit v 0 = true → s.spOn i.val = false → s.spBusy i.val = false →
        Completes (.splStreamEnable m i v) s (fun t =>
          t.spBusy i.val = true ∧ t.spEn i.val = true ∧ t.spOn i.val = false ∧ OnlyRegs [b.at (r 0), b.at (r 4)] s t)) ∧
      (bit v 0 = false → s.spOn i.val = true → busy = false → x.run = none →
        (x.open_ = [] → x.queue = [] →
          Completes (.splStreamDisable m i v) s (fun t =>
            t.spOn i.val = false ∧ t.spNext i.val = s.spNext i.val ∧ t.spl = s.spl ∧ t.mem = s.mem ∧
              SameRegs [b.at (r 0), b.at (r 4)] s t)) ∧
        (∀ y : Batch, x.open_ = [y] → y.count ≠ 0 → camFails s agSpl (s.spBuf i.val y.buf) (s.spInLen i.val) = none →
          Completes (.splStreamDisable m i v) s (fun t =>
            t.spOn i.val = true ∧ t.spEn i.val = false ∧ t.spNext i.val = s.spNext i.val ∧ (t.sp i.val).open_ = [] ∧
              (t.sp i.val).queue = x.queue ++ [.batch { y with flags := 0x20, seq := x.seq }])))) ∧
    (s.up b = true → s.splJob = none → s.armedFor 5 src = none →
      (spTurn s ≠ some i.val → Completes (.sampleTake i) s (Unchanged s)) ∧
      (spTurn s = some i.val →
        (judgeEntry s i.val e = .skip →
          Completes (.sampleTake i) s (fun t => next t ∧ moved t ∧ plus 0x1C t ∧ Raised s t [(b.unit, 0x5030, 0)] ∧ t.mem = s.mem ∧ t.spl = s.spl)) ∧
        (judgeEntry s i.val e = .badFormat ∨ judgeEntry s i.val e = .badGeometry →
          Completes (.sampleTake i) s (fun t => next t ∧ moved t ∧ plus 0x1C t ∧ Raised s t [(b.unit, 0x5031, 3)] ∧ t.mem = s.mem ∧ t.spl = s.spl)) ∧
        (judgeEntry s i.val e = .damaged →
          Completes (.sampleTake i) s (fun t => next t ∧ moved t ∧ plus 0x1C t ∧ t.check = s.check ∧ t.mem = s.mem ∧ t.spl = s.spl)) ∧
        (judgeEntry s i.val e = .stale → x.run = none →
          Completes (.sampleTake i) s (fun t =>
            next t ∧ moved t ∧ plus 0x18 t ∧ t.check = s.check ∧ t.mem = s.mem ∧
              t.sp i.val = { x with run := some { first := s.spNext i.val, capture := eNum e 8 8, count := 1, since := s.dt, ended := false } })) ∧
        (judgeEntry s i.val e = .accept → spDescOk s i.val = true → x.run = none →
          let k := bucketOf s i.val (nextDraws s i.val e).cw (nextDraws s i.val e).ch
          Completes (.sampleTake i) s (fun t =>
            next t ∧ plus 0x14 t ∧ t.rgHead src = s.rgHead src ∧ t.mem = s.mem ∧ t.check = s.check ∧
              t.splJob = some { stream := i.val, entry := e, index := s.spNext i.val, bucket := k } ∧
              t.getN b 0x40 = 1 + 256 * i.val ∧ (t.sp i.val).open_.any (fun y => y.bucket == k) = true)))) ∧
    (∀ (j : SplJob) (y : Batch),
      let d := drawsOf s i.val j.index (eNum j.entry 22 2) (eNum j.entry 24 2)
      let base := s.spBuf i.val y.buf
      let at_ := base + y.count * s.spStride i.val
      let rec_ := base + s.spBatchN i.val * s.spStride i.val + 64 + 32 * y.count
      let z := tensor s i.val j.bucket (sourceOf j.entry) d
      s.splJob = some j → j.stream = i.val → s.spEn i.val = true →
      (sourceRows (sourceOf j.entry) d).findSome? (fun w => readFails s agSpl w.1 w.2) = none →
      x.open_.find? (fun w => w.bucket == j.bucket) = some y → camFails s agSpl base (s.spInLen i.val) = none →
      y.count + 1 < s.spBatchN i.val → y.expired = false → z.length ≤ s.spStride i.val →
      Completes (.sampleComplete i) s (fun t =>
        t.bytes at_ z.length = z ∧ t.bytes rec_ 32 = sampleRecord j.entry j.index d ∧
          (∀ a, (a < at_ ∨ at_ + z.length ≤ a) → (a < rec_ ∨ rec_ + 32 ≤ a) → t.mem.get? a = s.mem.get? a) ∧
          moved t ∧ t.splJob = none ∧ t.getN b 0x44 = min (s.getN b 0x44 + 1) 0xFFFFFFFF ∧ t.check = s.check ∧
          ((t.sp i.val).open_.find? (fun w => w.bucket == j.bucket)).map (·.count) = some (y.count + 1) ∧
          (t.sp i.val).queue = x.queue)) ∧
    (∀ y : Batch, s.splJob = none → x.open_ = [y] → y.expired = false →
      (s.spTmo i.val = 0 ∨ s.dt < y.since + s.spTmo i.val → Completes (.batchTimeout i) s (Unchanged s)) ∧
      (s.spTmo i.val ≠ 0 → y.since + s.spTmo i.val ≤ s.dt → y.count ≠ 0 →
        (∀ w, x.run = some w → w.ended = true ∨ s.dt < w.since + s.spTmo i.val) →
        camFails s agSpl (s.spBuf i.val y.buf) (s.spInLen i.val) = none →
        Completes (.batchTimeout i) s (fun t =>
          (t.sp i.val).open_ = [] ∧ (t.sp i.val).queue = x.queue ++ [.batch { y with flags := 0x10, seq := x.seq }] ∧ t.check = s.check))) ∧
    (∀ w : DropRun, x.run = some w → w.ended = false →
      (s.spTmo i.val = 0 ∨ s.dt < w.since + s.spTmo i.val → Completes (.dropRunTimeout i) s (Unchanged s)) ∧
      (s.spTmo i.val ≠ 0 → w.since + s.spTmo i.val ≤ s.dt →
        Completes (.dropRunTimeout i) s (fun t =>
          t.sp i.val = { x with run := some { w with ended := true }, queue := x.queue ++ [.drop x.seq], seq := x.seq + 1 } ∧
            OnlyRegs [] s { t with spl := s.spl }))) ∧
    (let slot := s.rgSlot q (s.rgTail q)
     let put := fun (entry : List Byte) (rest : List SplItem) (t : State) =>
       t.bytes slot 64 = entry ∧ SameMem slot 64 s t ∧ t.rgTail q = (s.rgTail q + 1) % (2 * s.rgN q) ∧ (t.sp i.val).queue = rest ∧
         t.spOn i.val = (s.spOn i.val && (s.spEn i.val || !rest.isEmpty || !x.open_.isEmpty || busy)) ∧ t.check = s.check
     let hold := fun (t : State) =>
       t.spl = s.spl ∧ t.rgTail q = s.rgTail q ∧ t.mem = s.mem ∧ (t.ring q).fullRec = true ∧
         t.getN (rgBlk q) (rgOff q 0x34) = min (s.getN (rgBlk q) (rgOff q 0x34) + 1) 0xFFFFFFFF
     s.rgProduces q = true →
     let lands := s.ringRegion slot 64 = true ∧ firstFail s agSpl slot 64 true = none
     (∀ (y : Batch) (rest : List SplItem), x.queue = .batch y :: rest →
       (lands → s.rgOcc q < s.rgN q → Completes (.batchPublish i) s (put (batchEntry s i.val y) rest)) ∧
       (s.rgN q ≤ s.rgOcc q → Completes (.batchPublish i) s hold)) ∧
     (∀ (seq : Nat) (w : DropRun) (rest : List SplItem), x.queue = .drop seq :: rest → x.run = some w →
       (lands → s.rgOcc q < s.rgN q → Completes (.dropRecordPublish i) s (put (dropEntryOf s i.val seq w) rest)) ∧
       (s.rgN q ≤ s.rgOcc q → Completes (.dropRecordPublish i) s hold)))


/-! ### Gatehouse (18) -/

/-- The always-on island. A wake-source event asserts the wake line outside RUN when its source is enabled, sets its PEND bit when
not, and joins the record of its tick (R849-R854, R873, R875, R876); the alarm fires at its time and not before (R850). A record is
written into its slot and its message queued (R852, R853). Queue: an append past the queue is refused and counted, Belvedere's head
write moves the head (R857, R862). Link: a message that arrives intact moves the head, a damaged one does not (R858); tokens clear
misses, silent periods and abandoned transfers are misses, and the third is LINK_DOWN (R859); attempts start at their time, restore
the link, wait 10 ms or fail at the third (R860, R861, R868). A core reset frees its locks and leaves the hardware (R837); a write
to a protected region is dropped (R836). KWS: a frame lands in the ring (R838), a hop is computed when its last frame is there
(R847), a detection is recorded (R840); its enable check refuses or restarts the count (R870). AOI3C: polls sample, count or fail
(R865, R866).
The model's choices and readings in it: log entries 29, 30, 31, 32, 33, 34 and 79. -/
def Obligations.TheGatehouseWakesLinksAndListens : Prop :=
  ∀ (s : State),
    let b : Blk := .gate
    let main := s.mainCode
    let heard := fun (k : Nat) (slot : Option Nat) (t : State) =>
      let en := s.getB b 0x4C k
      let wakes := en && decide (1 ≤ main) && decide (main ≤ 4)
      t.power.wakePend = (if wakes ∧ main ≠ 4 ∧ s.power.wakePend = none then some s.dt else s.power.wakePend) ∧
        t.getB b 0x54 k = (s.getB b 0x54 k || !en) ∧ t.mem = s.mem ∧
        (t.gate.recs.getLast?.map (fun r => (r.tick, r.source / 2 ^ k % 2))) = some (s.time.a, 1) ∧
        (s.gate.recs.getLast?.map (·.tick) ≠ some s.time.a →
          (t.gate.recs.getLast?.map (fun r => (r.main, r.action, r.slot))) =
            some (main, if main = 0 then 0 else if wakes then main else 5, slot.getD 0xFF) ∧
          (t.gate.recs.getLast?.map (·.dt)) = some s.dt)
    let link := fun (t : State) => t.getF b 0x68 1 0
    (∀ (m : Master) (v mask : Word), Applies s m b 0x58 v mask → bit v 0 = true →
      (main = 0 → Completes (.fwWake m v) s (Unchanged s)) ∧ (main ≠ 0 → Completes (.fwWake m v) s (heard 3 none))) ∧
    (∀ (i : Fin 8) (rising : Bool),
      let sel := s.getF b 0x50 (2 * i.val + 1) (2 * i.val)
      s.gateUp = true →
      (sel = 3 ∨ sel = (if rising then 1 else 2) → Completes (.gpioWakeEdge i rising) s (heard (8 + i.val) none)) ∧
      (sel = 0 ∨ sel = (if rising then 2 else 1) → Completes (.gpioWakeEdge i rising) s (Unchanged s))) ∧
    (∀ (m : Master) (v mask : Word), Applies s m b 0x60 v mask →
      Completes (.alarmArm m v) s (fun t => t.gate.alarm = true ∧ OnlyRegs [b.at 0x60] s { t with gate := s.gate })) ∧
    (s.gateUp = true → s.gate.alarm = true →
      (s.alarm ≤ 1000 * s.time.a → Completes .wakeAlarm s (fun t => heard 2 none t ∧ t.gate.alarm = false)) ∧
      (1000 * s.time.a < s.alarm → Completes .wakeAlarm s (Unchanged s))) ∧
    (∀ (r : WakeRec) (rest : List WakeRec),
      let n := s.getF b 0x64 31 16
      let a := gtSram + 0x61000 + 32 * (n % 64)
      s.gate.recs = r :: rest → s.mqOcc < 4096 →
      Completes .wakeReasonRecord s (fun t =>
        t.bytes a 32 = wakeRecord r ∧ t.gate.recs = rest ∧ t.getF b 0x64 31 16 = (n + 1) % 65536 ∧ t.getF b 0x64 5 0 = n % 64 ∧
          t.mqTail = (s.mqTail + 1) % 8192 ∧
          (t.bytes (mqBase + 16 * (s.mqTail % 4096)) 1).map (·.toNat) =
            [if r.source % 2 = 1 ∧ (r.main = 0 ∨ r.main = 4) then 0x11 else 0x10] ∧
          checkOk (t.bytes (mqBase + 16 * (s.mqTail % 4096)) 16) = true)) ∧
    (∀ (m : Master) (v mask : Word), Applies s m b 0x74 v mask →
      (ringDiff 4096 (fld v 12 0) s.mqHead ≤ 4096 →
        Completes (.mqAppend m v) s (fun t => t.mqTail = fld v 12 0 ∧ t.getB b offRaw 10 = true ∧ OnlyRegs [b.at 0x74, b.at offRaw] s t)) ∧
      (4096 < ringDiff 4096 (fld v 12 0) s.mqHead →
        Completes (.mqAppend m v) s (fun t => t.mqTail = s.mqTail ∧ t.getN b 0x78 = min (s.getN b 0x78 + 1) 0xFFFFFFFF ∧ t.mem = s.mem))) ∧
    (∀ (m : Master) (v mask : Word), Applies s m b 0x70 v mask → ringDiff 4096 s.mqTail (fld v 12 0) ≤ s.mqOcc →
      Completes (.mqHeadWrite m v) s (fun t => t.mqHead = fld v 12 0 ∧ OnlyRegs [b.at 0x70] s t)) ∧
    (s.linkLive = true →
      (s.mqOcc ≠ 0 → checkOk s.mqFront = true → (s.mqFront.headD 0).toNat ≠ 0x13 →
        Completes (.linkMessage true true) s (fun t =>
          t.mqHead = (s.mqHead + 1) % 8192 ∧ t.check = s.check ∧ t.mem = s.mem ∧ SameRegs [b.at 0x70] s t)) ∧
      (s.mqOcc ≠ 0 → checkOk s.mqFront = true → (s.mqFront.headD 0).toNat = 0x13 →
        s.gate.link.rxSeq ≠ some ((s.mqFront.drop 1).headD 0).toNat →
        Completes (.linkMessage true true) s (fun t =>
          t.mqHead = (s.mqHead + 1) % 8192 ∧ t.check.raised.map (·.2) = s.check.raised.map (·.2) ++ [msgRecord s.mqFront])) ∧
      Completes (.linkMessage true false) s (Unchanged s) ∧ Completes (.linkMessage false true) s (Unchanged s) ∧
      (s.getF b 0x68 5 4 < 2 →
        Completes (.linkTransferTimeout true) s (fun t => t.getF b 0x68 5 4 = s.getF b 0x68 5 4 + 1 ∧ link t = 0 ∧ OnlyRegs [b.at 0x68] s t) ∧
        (s.gate.link.sinceAo + 32768 ≤ s.dt →
          Completes (.linkTokenPeriod false) s (fun t =>
            t.getF b 0x68 5 4 = s.getF b 0x68 5 4 + 1 ∧ link t = 0 ∧ t.gate.link.sinceAo = s.dt ∧ SameRegs [b.at 0x68] s t))) ∧
      (s.dt < s.gate.link.sinceAo + 32768 → Completes (.linkTokenPeriod false) s (Unchanged s)) ∧
      (2 ≤ s.getF b 0x68 5 4 → within s.dt (60 * oneSecond) s.gate.link.downs = [] → s.gate.link.inj = none → s.mqOcc < 4096 →
        Completes (.linkTransferTimeout true) s (fun t =>
          link t = 1 ∧ t.getF b 0x68 31 16 = min (s.getF b 0x68 31 16 + 1) 0xFFFF ∧ t.getF b 0x68 13 12 = 1 ∧
            t.gate.link.next = s.dt + 32768 ∧ t.getB b offRaw 9 = true ∧ Raised s t [(Blk.unit .belv, 0x6030, 0)] ∧
            t.mqTail = (s.mqTail + 1) % 8192)) ∧
      (s.gate.link.suppress = 0 →
        Completes (.linkToken false) s (fun t => t.getF b 0x68 5 4 = 0 ∧ t.gate.link.sinceAo = s.dt ∧ link t = 0 ∧ SameRegs [b.at 0x68] s t))) ∧
    (s.gateUp = true → s.power.pstate = .run → link s = 1 → s.gate.link.inj = none →
      (s.gate.link.next ≤ s.dt →
        Completes .linkResetAttempt s (fun t =>
          link t = 2 ∧ t.getF b 0x68 9 8 = min (s.getF b 0x68 9 8 + 1) 3 ∧ OnlyRegs [b.at 0x68, b.at offRaw] s t)) ∧
      (s.dt < s.gate.link.next → Completes .linkResetAttempt s (Unchanged s))) ∧
    (link s = 2 → s.gate.link.hs = false → s.mqOcc < 4096 →
      Completes (.linkAttemptEnd true) s (fun t =>
        link t = 0 ∧ t.getF b 0x68 5 4 = 0 ∧ t.getF b 0x68 9 8 = 0 ∧ t.gate.link.sinceAo = s.dt ∧ t.mqTail = (s.mqTail + 1) % 8192) ∧
      (s.getF b 0x68 9 8 < 3 →
        Completes (.linkAttemptEnd false) s (fun t => link t = 1 ∧ t.gate.link.next = s.dt + 327680 ∧ t.mem = s.mem)) ∧
      (s.getF b 0x68 9 8 = 3 → Completes (.linkAttemptEnd false) s (fun t => link t = 3 ∧ t.mqTail = (s.mqTail + 1) % 8192))) ∧
    (∀ (m : Master) (v mask : Word), Applies s m b 0x6C v mask → bit v 0 = true → s.gate.link.inj = none →
      (link s = 1 → Completes (.gtLinkReset m v) s (fun t => link t = 2 ∧ OnlyRegs [b.at 0x68, b.at offRaw] s t)) ∧
      (link s ≠ 1 → Completes (.gtLinkReset m v) s (fun t => t = { s.reject b 0x6C 0x6021 with resp := t.resp, seq := s.seq + 1 }))) ∧
    (∀ (m : Master) (v mask : Word), Applies s m b 0x44 v mask → bit v 1 = true →
      Completes (.gatehouseCoreReset m v) s (fun t =>
        t.gate = s.gate ∧ t.mem = s.mem ∧ t.power = s.power ∧ t.time = s.time ∧
          ∀ n : Fin 64, ((lockHeld (s.get .lock (lockOff n.val)) && (lockHolder (s.get .lock (lockOff n.val))).2 == 0x30) = true →
            lockHeld (t.get .lock (lockOff n.val)) = false) ∧
          ((lockHeld (s.get .lock (lockOff n.val)) && (lockHolder (s.get .lock (lockOff n.val))).2 == 0x30) = false →
            t.get .lock (lockOff n.val) = s.get .lock (lockOff n.val)))) ∧
    (∀ (m : Master) (a : Nat), accJudge s (.cpu m) a true = .gate → (∀ c, m ≠ .channel c) →
      Completes (.protectedSramWrite (.cpu m) a) s (fun t =>
        t.mem = s.mem ∧ t.resp.busErr = true ∧ Raised s t [(b.unit, 0x6034, 3)] ∧ SameRegs [b.at offErrcnt] s t)) ∧
    (∀ (b0 b1 : List Bool),
      let a := audioBase + 4 * (s.kwsFrames % 32000)
      s.kwsUp = true →
      Completes (.audioFrame b0 b1) s (fun t =>
        SameMem a 4 s t ∧ (s.getB .kws 0x40 1 = false → t.bytes (a + 2) 2 = [0, 0]) ∧ t.kwsFrames = (s.kwsFrames + 1) % 2 ^ 64 ∧
          t.getN .kws 0x4C = (s.kwsFrames + 1) % 32000)) ∧
    (s.kwsUp = true →
      (s.kwsFrames < 160 * (s.gate.kws.hops + 1) → Completes .kwsHop s (Unchanged s)) ∧
      (160 * (s.gate.kws.hops + 1) ≤ s.kwsFrames → kwsOutside s = false → kwsBad s = false →
        let score := kwsScore s (160 * (s.gate.kws.hops + 1) - 1)
        let hit := decide (s.getF .kws 0x44 15 0 ≤ score)
        let run := if hit then s.gate.kws.run + 1 else 0
        Completes .kwsHop s (fun t =>
          t.getN .kws 0x68 = score ∧ t.gate.kws.run = run ∧ t.gate.kws.hops = s.gate.kws.hops + 1 ∧ t.mem = s.mem ∧ t.check = s.check ∧
            (if hit ∧ run = s.getF .kws 0x44 23 16 then
               t.getN .kws 0x64 = (s.getN .kws 0x64 + 1) % 2 ^ 32 ∧ t.get64 .kws 0x58 = s.dt % 2 ^ 64 ∧
                 (t.gate.recs.getLast?.map (fun r => (r.source % 2, r.dt))) = some (1, s.dt)
             else t.getN .kws 0x64 = s.getN .kws 0x64 ∧ t.gate.recs = s.gate.recs)))) ∧
    (∀ (m : Master) (v mask : Word),
      let u := plainStore .kws 0x40 v mask s
      Applies s m .kws 0x40 v mask →
      (bit v 0 = false → Completes (.kwsDisable m v) s (fun t =>
        t.getB .kws 0x40 0 = false ∧ t.enabled .kws = false ∧ t.mem = s.mem ∧ t.gate = s.gate ∧ SameRegs [Blk.at .kws 0x40, Blk.at .kws offStatus] s t)) ∧
      (bit v 0 = true → s.getB .kws 0x40 0 = false → s.clockOn 61 = true →
        (kwsCheck u = none → Completes (.kwsEnable m v) s (fun t =>
          t.getB .kws 0x40 0 = true ∧ t.enabled .kws = true ∧ t.kwsFrames = 0 ∧ t.getN .kws 0x4C = 0 ∧ t.gate.kws = KwsSt.init ∧ t.mem = s.mem)) ∧
        (∀ c o, kwsCheck u = some (c, o) → s.mqOcc < 4096 → Completes (.kwsEnable m v) s (fun t =>
          t.getB .kws offStatus 1 = true ∧ t.getN .kws offReason = (c + o * 0x10000) % 2 ^ 32 ∧ t.gate = s.gate)))) ∧
    (∀ (k : Fin 8),
      let off := 0x100 + 0x10 * k.val + 8
      let n := fld (s.ai k.val 8) 15 0
      let a := gtSram + 0x72000 + 0x400 * k.val + 16 * (n % 64)
      s.aiUp = true → s.aiOn k.val = true →
      (bit (s.ai k.val 4) 20 = true → Completes (.aoi3cIbi k) s (heard 1 (some k.val))) ∧
      (bit (s.ai k.val 4) 20 = false → Completes (.aoi3cIbi k) s (Unchanged s)) ∧
      ((s.gate.polls.get? k.val).getD 0 + fld (s.ai k.val 0) 31 20 ≤ s.time.a →
        (∀ bs : List Byte, fld (s.ai k.val 4) 17 16 = 0 →
          Completes (.aoi3cPoll k (some bs)) s (fun t =>
            t.bytes a 16 = aiSample s (bs.take (min 8 (fld (s.ai k.val 0) 19 16))) ∧ SameMem a 16 s t ∧
              t.getF .aoi off 15 0 = (n + 1) % 65536 ∧ t.gate.recs = s.gate.recs ∧ SameRegs [Blk.at .aoi off] s t)) ∧
        (s.mqOcc < 4096 → Completes (.aoi3cPoll k none) s (fun t =>
          t.getF .aoi off 31 16 = min (fld (s.ai k.val 8) 31 16 + 1) 0xFFFF ∧ t.mqTail = (s.mqTail + 1) % 8192 ∧ t.gate.recs = s.gate.recs)))) ∧
    (∀ (m : Master) (v mask : Word) (reply : List Byte), Applies s m .aoi 0x44 v mask → s.aiUp = true →
      Completes (.aiCmd m v (some reply)) s (fun t =>
        t.gate.aiTx = [] ∧ t.gate.aiRx = s.gate.aiRx ++ wordsOf reply ∧ OnlyRegs [] s { t with gate := s.gate }))


/-! ### Belvedere, firmware and the management network (19) -/

/-- SENS publishes every sensor and monitor at once (R881, R933). A kick restarts a timer (R899); an expiry before its time is
none, one at its time restarts the component with record 0x0830, and the third within 600 s quarantines it (R900, R901). FW_READY
makes a component RUNNING (R890); FW_SEL is kept for each master but an XFE channel (R909). A request of a management ring is answered in its response
ring and its head moves, where the write and the pointer moves are applied (R380, R912-R914): GET_FW, GET_DIGEST, GET_SENSORS, GET_LOG, an unknown command, and BAD_ENTRY for a bad check byte.
SLEEP asks for quiescence, or is answered at once BUSY or BLOCKS_ENABLED; it waits, and times out at its limit (R915).
The model's choices and readings in it: log entries 80 and 81. -/
def Obligations.FirmwareAnswersRingsAndWatchdogs : Prop :=
  ∀ (s : State),
    (∀ (temps : List Int) (mvs : List Nat), s.present .sens = true →
      Completes (.sensorSample temps mvs) s (fun t =>
        (∀ i : Fin 12, t.getN .sens (0x40 + 4 * i.val) = 0x80000000 + unsigned 16 (temps.getD i.val 0)) ∧
          (∀ i : Fin 10, t.getN .sens (0x80 + 4 * i.val) = 0x80000000 + mvs.getD i.val 0 % 65536) ∧
          t.getN .sens 0xAC = s.dt % 2 ^ 32 ∧ t.getF .sens 0xA8 15 0 = unsigned 16 (hottest ((List.range 12).map (fun i => temps.getD i 0))).1 ∧
          t.fw.snDt = s.dt ∧ t.mem = s.mem ∧ t.check = s.check ∧ OtherPages .sens s t ∧ (s.fw.events = none → t.resp.msgs = []))) ∧
    (∀ (m : Master) (v mask : Word),
      let c := fld v 2 0
      let x := s.comp c
      (Applies s m .fw 0xB0 v mask →
        (x.state = 2 → Completes (.watchdogKick m v) s (fun t =>
          t.comp c = { x with kicks := x.kicks.put (kickKey m) s.dt } ∧ OnlyRegs [] s { t with fw := s.fw })) ∧
        (x.state ≠ 2 → Completes (.watchdogKick m v) s (Unchanged s))) ∧
      (Applies s m .fw 0xB4 v mask →
        (x.state = 2 ∨ x.state = 3 ∨ (x.state = 1 ∧ x.started.isSome = true) → x.staged = false → (c = 1 → s.fw.pending = false) →
          Completes (.fwReady m v) s (fun t =>
            t.comp c = { x with state := 2, reason := 0, started := none, kicks := freshKicks c s.dt } ∧ t.getB .fw offRaw 10 = true ∧
              OnlyRegs [Blk.at .fw offRaw] s { t with fw := s.fw })) ∧
        (x.state = 4 ∨ x.state = 5 ∨ x.state = 6 → Completes (.fwReady m v) s (Unchanged s))) ∧
      (Applies s m .fw 0x4C v mask →
        (hasLatch m = false → Completes (.fwSelWrite m v) s (Unchanged s)) ∧
        (hasLatch m = true → Completes (.fwSelWrite m v) s (fun t =>
          t.fwSel m = c ∧ (∀ k : Fin 256, k.val ≠ m.code → t.fw.sel.get? k.val = s.fw.sel.get? k.val) ∧ OnlyRegs [] s { t with fw := s.fw })))) ∧
    (∀ (c : Fin 6) (pair : Fin 4),
      let x := s.comp c.val
      let recent := within s.dt (600 * oneSecond) x.restarts
      (wdogDue s c.val pair.val = false → Completes (.watchdogExpiry c pair) s (Unchanged s)) ∧
      (wdogDue s c.val pair.val = true → x.staged = false → 2 ≤ c.val → c.val ≤ 4 →
        (recent.length < 2 →
          Completes (.watchdogExpiry c pair) s (fun t =>
            (t.comp c.val).state = 3 ∧ (t.comp c.val).restarts = recent ++ [s.dt] ∧ (t.comp c.val).started = some s.dt ∧
              (c.val = 4 → Raised s t [(Blk.unit .fw, 0x0830, 0)]))) ∧
        (2 ≤ recent.length →
          Completes (.watchdogExpiry c pair) s (fun t =>
            (t.comp c.val).state = 4 ∧ (t.comp c.val).reason = 0x0826 ∧ (t.comp c.val).started = none ∧
              (c.val = 4 → Raised s t [(Blk.unit .fw, 0x0830, 0), (Blk.unit .fw, 0x0831, 1)]))))) ∧
    (∀ (p : Fin 4) (e : List Byte),
      let q := reqRing p.val
      let slot := s.rgSlot (q + 1) (s.rgTail (q + 1))
      let cmd := eByte e 1
      let answered := fun (status : Nat) (info data : List Byte) (t : State) =>
        t.bytes slot 64 = response cmd status (if checkOk e then eNum e 4 4 else 0xFFFFFFFF) info data ∧ SameMem slot 64 s t ∧
          t.rgTail (q + 1) = (s.rgTail (q + 1) + 1) % (2 * s.rgN (q + 1)) ∧ t.rgHead q = (s.rgHead q + 1) % (2 * s.rgN q)
      mgmtHead s p.val = some e → entryLands s .belvedere (q + 1) 64 = true → headFrees s .belvedere q = true →
      (checkOk e = false → Completes (.getFw p) s (answered 1 [] [])) ∧
      (reqBad e = false →
        (cmd = 1 → Completes (.getFw p) s (answered 0 (leBytes (s.getN .fw 0x48) 1) ((List.range 6).flatMap (fwRow s)))) ∧
        (cmd = 2 →
          (∀ d, s.digestOf (eByte e 8) = some d → Completes (.getDigest p) s (answered 0 [] d)) ∧
          (s.digestOf (eByte e 8) = none → Completes (.getDigest p) s (answered 5 [] []))) ∧
        (cmd = 3 → Completes (.getSensors p) s (fun t =>
          checkOk (t.bytes slot 64) = true ∧ eByte (t.bytes slot 64) 2 = 0 ∧ eNum (t.bytes slot 64) 8 7 = s.fw.snDt % 2 ^ 56 ∧
            (∀ i : Fin 12, eNum (t.bytes slot 64) (15 + 2 * i.val) 2 = s.getF .sens (0x40 + 4 * i.val) 15 0) ∧
            (∀ i : Fin 10, eNum (t.bytes slot 64) (39 + 2 * i.val) 2 = s.getF .sens (0x80 + 4 * i.val) 15 0) ∧
            SameMem slot 64 s t ∧ t.rgHead q = (s.rgHead q + 1) % (2 * s.rgN q))) ∧
        (cmd = 4 →
          (s.logHas (eNum e 8 4) = true → Completes (.getLog p) s (answered 0 (leBytes (eNum e 8 4 + 1) 4) (s.logRec (eNum e 8 4)))) ∧
          (s.logHas (eNum e 8 4) = false → Completes (.getLog p) s (answered 6 [] []))) ∧
        (cmd = 0 ∨ 6 ≤ cmd → Completes (.unknownCmd p) s (answered 2 [] [])) ∧
        (cmd = 5 → p.val = 2 → Completes (.unknownCmd p) s (answered 2 [] [])) ∧
        (cmd = 5 → p.val ≠ 2 →
          (s.fw.sleep = none → s.updState = 0 →
            (blocksOn s ≠ 0 → Completes (.sleep p) s (answered 4 (leBytes (blocksOn s) 1) [])) ∧
            (blocksOn s = 0 → Completes (.sleep p) s (fun t =>
              t.fw.sleep.map (fun r => (r.pair, r.limit, r.gone)) =
                some (p.val, s.dt + 32768 * (if eNum e 8 2 = 0 then 1000 else eNum e 8 2), false) ∧
              t.getB .disp 0x9C 0 = true ∧ OnlyRegs [Blk.at .disp 0x9C] s { t with fw := s.fw }))) ∧
          (s.fw.sleep = none → s.updState ≠ 0 → Completes (.sleep p) s (answered 3 [] [])) ∧
          (∀ r, s.fw.sleep = some r →
            (r.pair ≠ p.val → Completes (.sleep p) s (answered 3 [] [])) ∧
            (r.pair = p.val → r.gone = false → s.quiet = false →
              (s.dt < r.limit → Completes (.sleep p) s (Unchanged s)) ∧
              (r.limit ≤ s.dt → Completes (.sleep p) s (fun t =>
                answered 7 [] [] t ∧ t.fw.sleep = none ∧ t.getB .disp 0x9C 0 = false)))))))

/-- The management endpoint, awake and under FW1 (R917-R927). Every message is answered with a completion code and data. Endpoint
and terminus IDs, the event receiver and a sensor's enable are stored; the rest of a query changes nothing. An update goes through
its states in order, one at a time: RequestUpdate, PassComponentTable, UpdateComponent, pieces of data at their place in the staging
area, cancel, and the end by inactivity at 120 s and not before (R921, R923, R936). ActivateFirmware without a self-contained request
waits, and one whose flash image does not hold its digest changes nothing (R922). SET_POLICY is in force at once (R926). A report is
sent again after 1 s and its answer moves the report pointer (R927). The layouts are those of log entry 40.
The model's choices and readings in it: log entries 40, 80 and 81. -/
def Obligations.TheManagementNetworkAnswers : Prop :=
  ∀ (s : State) (msg : Mctp),
    let b := msg.body
    let answers := fun (code : Nat) (data : List Byte) (t : State) => t.resp.bytes = leBytes code 1 ++ data
    let only := fun (code : Nat) (data : List Byte) (t : State) => answers code data t ∧ Unchanged s t
    let upd := s.updState
    let keeps := fun (f : State → Prop) (t : State) => f t ∧ t.mem = s.mem ∧ SameRegs [Blk.at .belv 0x48] s t
    s.mctpUp = true → s.fwRuns 1 = true →
    (b.length = 2 → at' b 0 1 % 4 ≤ 1 → at' b 1 1 ≠ 0 → at' b 1 1 ≠ 0xFF →
      Completes (.setEndpointId msg) s (fun t =>
        answers 0 ([0] ++ leBytes (at' b 1 1) 1 ++ [0]) t ∧ t.getF .belv 0x44 7 0 = at' b 1 1 ∧ t.getF .belv 0x44 15 8 = msg.src % 256 ∧
          t.mem = s.mem ∧ SameRegs [Blk.at .belv 0x44] s t)) ∧
    Completes (.getEndpointId msg) s (only 0 (leBytes (s.getF .belv 0x44 7 0) 1 ++ [0, 0])) ∧
    Completes (.getEndpointUuid msg) s (only 0 (leBytes Config.uuid.toNat 16)) ∧
    (∀ ty ∈ [0xFF, 0x00, 0x01, 0x7F], b.length = 1 → at' b 0 1 = ty →
      Completes (.getMctpVersionSupport msg) s (only 0 ([1] ++ leBytes (Config.mctpVersion ty).toNat 4))) ∧
    Completes (.getMessageTypeSupport msg) s (only 0 [2, 0x01, 0x7F]) ∧
    (b.length = 1 → at' b 0 1 = 0 → Completes (.getVendorDefinedMessageSupport msg) s (fun t =>
      t.resp.bytes.take 7 = [0, 0xFF, 1] ++ beBytes Config.iana.toNat 4 ∧ Unchanged s t)) ∧
    (upd = 0 ∨ s.fw.upd.who ≠ msg.src →
      Completes (.getTid msg) s (only 0 (leBytes s.fw.tid 1)) ∧
      (b.length = 1 → at' b 0 1 ≠ 0 → at' b 0 1 ≠ 0xFF → Completes (.setTid msg) s (fun t =>
        answers 0 [] t ∧ t.fw.tid = at' b 0 1 ∧ OnlyRegs [] s { t with fw := s.fw })) ∧
      (b.length = 6 → at' b 5 1 ∈ pldmTypes → Completes (.getPldmVersion msg) s (fun t =>
        t.resp.bytes.take 10 = [0, 0, 0, 0, 0, 5] ++ leBytes (Config.pldmVersion (at' b 5 1)).toNat 4 ∧ Unchanged s t)) ∧
      Completes (.getPldmTypes msg) s (only 0 (leBytes 0x25 8)) ∧
      (b.length = 5 → at' b 0 1 ∈ pldmTypes → at' b 1 4 = (Config.pldmVersion (at' b 0 1)).toNat → Completes (.getPldmCommands msg) s
        (only 0 (leBytes ((pldmCommands (at' b 0 1)).foldl (fun a k => a + 2 ^ k) 0) 32))) ∧
      (3 ≤ b.length → at' b 0 1 ≤ 1 → at' b 1 1 = 0 → Completes (.setEventReceiver msg) s (fun t =>
        answers 0 [] t ∧ t.fw.events = (if at' b 0 1 = 1 then some (at' b 2 1) else none) ∧ OnlyRegs [] s { t with fw := s.fw })) ∧
      (b.length = 3 → 1 ≤ at' b 0 2 → at' b 0 2 ≤ 28 → Completes (.getSensorReading msg) s (fun t =>
        let v := sensorValue s (at' b 0 2)
        eByte t.resp.bytes 0 = 0 ∧ eByte t.resp.bytes 1 = v.1 ∧
          eByte t.resp.bytes 2 = (if (s.sensor (at' b 0 2)).off then 1 else if v.2.2.isNone then 2 else 0) ∧ Unchanged s t)) ∧
      (b.length = 4 → 1 ≤ at' b 0 2 → at' b 0 2 ≤ 12 → at' b 2 1 ≤ 1 → at' b 3 1 ≤ 2 → Completes (.setNumericSensorEnable msg) s (fun t =>
        answers 0 [] t ∧ (t.sensor (at' b 0 2)).off = (at' b 2 1 == 1) ∧ OnlyRegs [] s { t with fw := s.fw })) ∧
      Completes (.getPdrRepositoryInfo msg) s (fun t => eNum t.resp.bytes 28 4 = 28 ∧ Unchanged s t) ∧
      (b.length = 13 → at' b 0 4 ≤ 28 → Completes (.getPdr msg) s (fun t =>
        let h := if at' b 0 4 = 0 then 1 else at' b 0 4
        eByte t.resp.bytes 0 = 0 ∧ eNum t.resp.bytes 1 4 = (if h = 28 then 0 else h + 1) ∧ eNum t.resp.bytes 12 4 = h ∧ Unchanged s t)) ∧
      Completes (.queryDeviceIdentifiers msg) s (fun t =>
        eByte t.resp.bytes 0 = 0 ∧ eByte t.resp.bytes 5 = 2 ∧ eNum t.resp.bytes 10 4 = Config.iana.toNat ∧
          eNum t.resp.bytes 20 4 = s.getN .sys 0x40 ∧ Unchanged s t) ∧
      Completes (.getFirmwareParameters msg) s (fun t => eByte t.resp.bytes 0 = 0 ∧ eNum t.resp.bytes 5 2 = 6 ∧ Unchanged s t) ∧
      Completes (.getStatus msg) s (fun t => eByte t.resp.bytes 0 = 0 ∧ eByte t.resp.bytes 1 = upd ∧ Unchanged s t)) ∧
    (upd = 0 → 11 ≤ b.length → s.fw.sleep = none → 32 ≤ at' b 0 4 → Completes (.requestUpdate msg) s (keeps (fun t =>
      answers 0 [0, 0, 0] t ∧ t.getN .belv 0x48 = 1 ∧ t.fw.upd = { UpdSt.init with who := msg.src, dt := s.dt, xfer := min 1024 (at' b 0 4) }))) ∧
    (upd ≠ 0 → 11 ≤ b.length → Completes (.requestUpdate msg) s (keeps (fun t => answers 0x81 [] t ∧ t.getN .belv 0x48 = s.getN .belv 0x48))) ∧
    (upd = 0 → 11 ≤ b.length → s.fw.sleep.isSome = true → Completes (.requestUpdate msg) s (only 0x04 [])) ∧
    (upd = 1 → 12 ≤ b.length → 1 ≤ at' b 3 2 → at' b 3 2 ≤ 5 → Completes (.passComponentTable msg) s (keeps (fun t =>
      answers 0 [0, 0] t ∧ t.updState = if at' b 0 1 = 4 ∨ at' b 0 1 = 5 then 2 else 1))) ∧
    (upd = 2 → 19 ≤ b.length → 1 ≤ at' b 2 2 → at' b 2 2 ≤ 5 → 1 ≤ at' b 9 4 → at' b 9 4 ≤ 0x80000 →
      Completes (.updateComponent msg) s (keeps (fun t =>
        eByte t.resp.bytes 0 = 0 ∧ t.updState = 3 ∧ t.getF .belv 0x48 10 8 = at' b 2 2 ∧ t.fw.upd.size = at' b 9 4 ∧ t.fw.upd.got = 0 ∧
          t.resp.msgs.map (fun o => (o.kind, o.body)) = [(0x0515, leBytes 0 4 ++ leBytes (min s.fw.upd.xfer (at' b 9 4)) 4)]))) ∧
    (upd = 3 → msg.src = s.fw.upd.who → at' b 0 1 = 0 → 1 ≤ b.length →
      let u := s.fw.upd
      let piece := b.drop 1
      piece.length = min u.xfer (u.size - u.got) → u.got + piece.length ≠ u.size →
      Completes (.requestFirmwareData msg) s (fun t =>
        t.bytes (stagingBase + u.got) piece.length = piece ∧ SameMem (stagingBase + u.got) piece.length s t ∧
          t.fw.upd = { u with got := u.got + piece.length, dt := s.dt } ∧ t.regs = s.regs ∧ t.resp.msgs.map (·.kind) = [0x0515])) ∧
    (upd = 2 → b.length = 1 → s.fw.upd.done ≠ [] →
      (at' b 0 1 ≠ 1 → Completes (.activateFirmware msg) s (keeps (fun t => answers 0 [0, 0] t ∧ t.updState = 0 ∧ t.fw.comps = s.fw.comps))) ∧
      (at' b 0 1 = 1 → s.fw.upd.done.all (digestHolds s) = false →
        Completes (.activateFirmware msg) s (keeps (fun t => answers 0x01 [] t ∧ t.updState = 2 ∧ t.fw.comps = s.fw.comps ∧ t.fw.flash = s.fw.flash)))) ∧
    (upd = 3 ∨ upd = 4 ∨ upd = 5 → Completes (.cancelUpdateComponent msg) s (fun t =>
      answers 0 [] t ∧ t.updState = 2 ∧ SameMem stagingBase 0x80000 s t ∧ SameRegs [Blk.at .belv 0x48] s t)) ∧
    (1 ≤ upd → upd ≤ 6 → Completes (.cancelUpdate msg) s (fun t =>
      answers 0 (List.replicate 9 0#8) t ∧ t.updState = 0 ∧ t.fw.upd = UpdSt.init ∧ t.fw.flash = s.fw.flash ∧
        SameMem stagingBase 0x80000 s t ∧ SameRegs [Blk.at .belv 0x48] s t)) ∧
    (s.present .belv = true → upd ≠ 0 →
      (s.dt < s.fw.upd.dt + updateLimit → Completes .updateTimeout s (Unchanged s)) ∧
      (s.fw.upd.dt + updateLimit ≤ s.dt → Completes .updateTimeout s (fun t =>
        t.updState = 0 ∧ t.fw.flash = s.fw.flash ∧ t.fw.comps = s.fw.comps ∧ Raised s t [(Blk.unit .fw, 0x0836, 0)] ∧
          SameMem 0x80280000 0x80000 s t))) ∧
    (∀ (d first n : Nat), s.fw.report = some (d, first, n) →
      (msg.src = s.reportDst → (at' b 0 4 + 2 ^ 32 - first) % 2 ^ 32 ≤ n → s.logNext = at' b 0 4 →
        Completes (.errorReport msg) s (fun t => t.getN .belv 0x50 = at' b 0 4 ∧ t.fw.report = none ∧ t.mem = s.mem)) ∧
      (d + oneSecond ≤ s.dt → Completes .errorReportResend s (fun t =>
        t.resp.msgs.map (fun o => (o.dst, o.kind, o.body)) = [(s.reportDst, 0x7F01, reportBody s first n)] ∧
          t.fw.report = some (s.dt, first, n) ∧ OnlyRegs [] s { t with fw := s.fw })) ∧
      (s.dt < d + oneSecond → Completes .errorReportResend s (Unchanged s))) ∧
    (b.length = 5 → at' b 4 1 = 1 →
      (s.logHas (at' b 0 4) = true → Completes (.vdmGetLog msg) s (only 0 ([1, 0, 0, 0] ++ s.logRec (at' b 0 4)))) ∧
      (s.logHas (at' b 0 4) = false → Completes (.vdmGetLog msg) s (only 0x81 []))) ∧
    (b.length = 0 →
      Completes (.getFwState msg) s (only 0 ((List.range 6).flatMap (stateRow s))) ∧
      Completes (.getPolicy msg) s (only 0 (leBytes (s.getN .fw 0x48) 4))) ∧
    (b.length = 1 → ∀ boot : Boot,
      (∀ d, s.digestOf (at' b 0 1) = some d → Completes (.vdmGetDigest msg) s (only 0 d)) ∧
      (at' b 0 1 = 4 → (s.comp 4).state = 2 → (s.comp 4).staged = false →
        Completes (.restart msg boot) s (fun t => answers 0 [] t ∧ (t.comp 4).state = 3 ∧ (t.comp 4).restarts = (s.comp 4).restarts))) ∧
    (b.length = 4 → at' b 0 4 ≤ 3 → Completes (.setPolicy msg) s (fun t =>
      answers 0 (leBytes (at' b 0 4) 4) t ∧ t.getN .fw 0x48 = at' b 0 4 ∧ t.mem = s.mem ∧ SameRegs [Blk.at .fw 0x48] s t)) ∧
    (∀ a : Fin 128, Completes (.dynamicAddressAssign a true) s (fun t =>
      t.getN .mi3c 0x4C = a.val + 0x180 ∧ OnlyRegs [Blk.at .mi3c 0x4C] s t)) ∧
    Completes .mctpPacketDrop s (fun t => t.getN .belv 0x54 = min (s.getN .belv 0x54 + 1) 0xFFFFFFFF ∧ OnlyRegs [Blk.at .belv 0x54] s t)


/-! ### Checking and faults (20) -/

/-- Records and the ERR page (R959, R961, R964, R966-R972, R976, R977): a record enters, merges or is dropped; its mirror
entry goes to Q104, unless that lies in disabled DRAM; POP removes the oldest; RAISE_GO enters a staged record; ARM arms an injection. -/
def Obligations.ErrorRecordsEnterLeaveAndMirror : Prop :=
  ∀ (s : State) (r : ErrRec) (m : Master) (v mask : Word),
    let k := s.check
    let q : ErrRec := { r with cls := r.cls % 128 + (if s.untested then 128 else 0) }
    let like := fun x : ErrRec => x.unit = q.unit ∧ x.code = q.code ∧ x.op = q.op ∧ x.cls = q.cls
    let fresh := ∀ y ∈ k.queue, ¬ like y
    let kept := q.cls % 8 = 1 ∨ q.cls % 8 = 2
    let fits := k.queue.length < 56 ∨ (k.queue.length < 64 ∧ kept)
    let merged := fun (k0 : CheckSt) (a : List ErrRec) (x : ErrRec) (b : List ErrRec) (t : State) =>
      t.check = { k0 with queue := a ++ { x with rpt := min (x.rpt + 1) 255 } :: b } ∧ t.regs = s.regs ∧ t.mem = s.mem
    let added := fun (k0 : CheckSt) (t : State) =>
      t.check = { k0 with queue := k.queue ++ [q], mirror := k.mirror ++ [q] } ∧
        (q.cls % 8 = 1 → t.getB .err offRaw 10 = true) ∧ SameRegs [Blk.at .err offRaw] s t ∧ t.mem = s.mem
    let dropped := fun (k0 : CheckSt) (t : State) =>
      t.check = k0 ∧ t.getN .err 0x44 = min (s.getN .err 0x44 + 1) 0xFFFFFFFF ∧ t.getB .err 0x40 8 = true ∧
        t.getB .err offRaw 9 = true ∧ SameRegs [Blk.at .err 0x40, Blk.at .err 0x44, Blk.at .err offRaw] s t ∧ t.mem = s.mem
    (k.raised = [] → Completes .errorRecordEntry s (Unchanged s)) ∧
    (∀ g, k.raised = [(g, r)] →
      let k0 : CheckSt := { k with raised := [] }
      (∀ a x b, k.queue = a ++ x :: b → (∀ y ∈ a, ¬ like y) → like x → Completes .errorRecordEntry s (merged k0 a x b)) ∧
      (fresh → fits → Completes .errorRecordEntry s (added k0)) ∧
      (fresh → ¬ fits → Completes .errorRecordEntry s (dropped k0))) ∧
    (k.mirror = [] → Completes .mirrorEntry s (Unchanged s)) ∧
    (∀ rest, k.mirror = r :: rest →
      (s.mirrors = false →
        Completes .mirrorEntry s (fun t => t = { s with check := { k with mirror := rest }, resp := t.resp, seq := t.seq })) ∧
      (s.mirrors = true → s.rgFull 104 = true →
        Completes .mirrorEntry s (fun t =>
          t.getN .err 0x48 = min (s.getN .err 0x48 + 1) 0xFFFFFFFF ∧ t.check = { k with mirror := rest } ∧ t.mem = s.mem ∧
            SameRegs [Blk.at .err 0x48] s t)) ∧
      (s.mirrors = true → s.rgFull 104 = false → (inDramWindow (s.rgSlot 104 (s.rgTail 104)) 1 = true → s.enabled .ddrc = true) →
        Completes .mirrorEntry s (fun t =>
          t.bytes (s.rgSlot 104 (s.rgTail 104)) 16 =
              withCheck ([3#8, 1#8] ++ leBytes r.unit 2 ++ leBytes r.dt 8 ++ leBytes r.code 2 ++ leBytes r.cls 1) ∧
            SameMem (s.rgSlot 104 (s.rgTail 104)) 16 s t ∧ t.check = { k with mirror := rest } ∧
            t.rgTail 104 = (s.rgTail 104 + 1) % (2 * s.rgN 104)))) ∧
    (Applies s m .err 0x4C v mask → bit v 0 = true →
      (k.queue = [] → Completes (.pop m v) s (Rejected s m .err 0x4C 0x0722)) ∧
      (∀ rest, k.queue = r :: rest →
        ((m ≠ .belvedere ∨ s.belvSec = true) →
          Completes (.pop m v) s (fun t => t.check = { k with queue := rest } ∧ t.regs = s.regs ∧ t.mem = s.mem)) ∧
        (m = .belvedere → s.belvSec = false → s.enabled .ddrc = true → s.logOpen < 4096 → r.cls % 8 ≠ 1 →
          Completes (.pop m v) s (fun t =>
            t.check = { k with queue := rest } ∧ t.logNext = (s.logNext + 1) % 2 ^ 32 ∧ t.logAck = s.logAck ∧
              t.bytes (0x80400000 + 32 * (s.logNext % 4096)) 32 = r.bytes ∧
              SameMem (0x80400000 + 32 * (s.logNext % 4096)) 32 s t)))) ∧
    (Applies s m .err 0x90 v mask → bit v 0 = true → recOfBytes (s.stagedBytes m.code) = r →
      (5 ≤ r.cls % 8 → m ≠ .xspi → Completes (.raiseGo m v) s (fun t => t.check = k ∧ t.getN .err 0x44 = s.getN .err 0x44)) ∧
      (r.cls % 8 < 5 → raiseMay (m.dom s) r.unit = false → Completes (.raiseGo m v) s (Rejected s m .err 0x90 0x0720)) ∧
      (r.cls % 8 < 5 → raiseMay (m.dom s) r.unit = true →
        (∀ a x b, k.queue = a ++ x :: b → (∀ y ∈ a, ¬ like y) → like x → Completes (.raiseGo m v) s (merged k a x b)) ∧
        (fresh → fits → Completes (.raiseGo m v) s (added k)) ∧
        (fresh → ¬ fits → Completes (.raiseGo m v) s (dropped k)))) ∧
    (Applies s m .err 0xC0 v mask → bit v 16 = true →
      let kind := fld v 3 0
      let target := fld v 15 8
      (k.armed.isSome = true → Completes (.errInjArm m v) s (Rejected s m .err 0xC0 0x0721)) ∧
      (k.armed = none → (kind = 0 ∨ 7 ≤ kind ∨ injRange kind target = false ∨ (kind = 6 ∧ fld v 23 20 = 0)) →
        Completes (.errInjArm m v) s (fun t => t.check = k ∧ t.get .err 0xC0 = s.get .err 0xC0)) ∧
      (k.armed = none → (kind = 1 ∨ kind = 4 ∨ kind = 5 ∨ (kind = 6 ∧ fld v 23 20 ≠ 0)) → injRange kind target = true →
        Completes (.errInjArm m v) s (fun t =>
          (t.check.armed.map (fun x => (x.kind, x.target, x.nocount, x.count))) = some (kind, target, bit v 18, fld v 23 20) ∧
            t.check = { k with armed := t.check.armed } ∧ OnlyRegs [Blk.at .err 0xC0] s { t with check := k })) ∧
      (k.armed = none → kind = 2 → target < 6 → s.pairRetired target = false →
        Completes (.errInjArm m v) s (fun t =>
          (t.pair target).scrMain = 0#32 ∧ (t.pair target).scrChk = 1#32 ∧ (t.pair target).times = (s.pair target).times ∧
            t.check.armed = none ∧ OnlyRegs [Blk.at .err 0xC0] s { t with check := k })))

/-- Lockstep divergences (one at the write that an armed OUTPUT_DIV waits for is the injected one, R987), the scrub at its
points (R945), a fired injection and control memories (R945-R953, R957, R962, R972, R979).
The model's choices and readings in it: log entry 82. -/
def Obligations.PairsDivergeScrubAndRetire : Prop :=
  ∀ (s : State) (p : Fin 6) (g : Fin 3) (a b : Word),
    let old := (s.pair p.val).times.filter (fun x => decide (s.dt ≤ x + 327680000))
    let o := 0xA0 + 4 * p.val
    let unit := if p.val = 0 then 0x8000 else if p.val = 1 then 0x2200 else 0x2100 + (p.val - 2)
    let k := p.val - 2
    let op := if 2 ≤ p.val ∧ s.csqPhase k ≠ 0 then s.getN (.csq k) 0x50 else 0
    let rec0 := fun (code cls kind idx : Nat) (x y : Word) =>
      s.record s.dt unit code op cls false
        ([BitVec.ofNat 8 p.val, BitVec.ofNat 8 kind] ++ leBytes idx 2 ++ leBytes x.toNat 4 ++ leBytes y.toNat 2)
    let raised := fun (e : ErrRec) (t : State) => (s.seq, e) ∈ t.check.raised
    let counted := fun (t : State) =>
      t.getF .err o 31 16 = min (s.getF .err o 31 16 + 1) 0xFFFF
    (s.pairRetired p.val = true →
      Completes (.outputDivergence p g a b) s (Unchanged s) ∧ Completes (.scrubPoint p none) s (Unchanged s)) ∧
    (∀ x, s.armedFor 1 p.val = some x → 0 < p.val → s.pairRetired p.val = false → old = [] → x.nocount = true →
      Completes (.outputDivergence p g a b) s (fun t =>
        t.check.armed = none ∧ t.pairRetired p.val = false ∧ counted t ∧
          (t.check.raised.drop s.check.raised.length).map (fun y => (y.2.unit, y.2.code, y.2.cls)) = [(unit, 0x0730, 0x40)])) ∧
    (s.pairRetired p.val = false → s.armedFor 1 p.val = none → old = [] → (p.val = 0 → (s.comp 1).staged = false ∧ s.keptOk 1 = true) →
      Completes (.outputDivergence p g a b) s (fun t =>
        raised (rec0 0x0730 0 1 g.val a b) t ∧ counted t ∧ t.getF .err o 10 9 = 1 ∧ t.pairRetired p.val = false ∧
          (2 ≤ p.val → s.csqPhase k = 1 → s.group k = [k] →
            (t.cseq k).kill = some (10, 0x0730) ∧ t.csqPhase k = 3 ∧ (t.pair p.val).times = [s.dt]) ∧
          (p.val = 1 → t.disp.attach = 0 ∧ ∀ l, l < 16 → ∀ x, (s.loop l).step = some x → x.outcome = none →
            (t.loop l).step.map (·.outcome) = some (some (7, 0x2236))))) ∧
    (s.pairRetired p.val = false → s.armedFor 1 p.val = none → old ≠ [] →
      Completes (.outputDivergence p g a b) s (fun t =>
        raised (rec0 0x0732 1 1 g.val a b) t ∧ counted t ∧ (p.val ≠ 0 → t.pairRetired p.val = true ∧ t.getB .err o 8 = true) ∧
          (p.val = 1 → t.getB .disp offStatus 4 = true ∧ (t.comp 2).state = 4 ∧ (t.comp 2).reason = 0x080A) ∧
          (2 ≤ p.val →
            t.check.retCl.getLsbD k = true ∧ t.getB (.csq k) offStatus 4 = true ∧
              (∀ n, n < 16 → clusterOf n = k → t.getB (.nc n) 0x48 4 = true) ∧
              (s.csqPhase k = 1 → s.group k = [k] → (t.cseq k).kill = some (12, 0x0732) ∧ t.csqPhase k = 3)))) ∧
    (∀ diff : Option (Fin 41 × Word × Word),
      (s.scrubDue p.val = false → Completes (.scrubPoint p diff) s (Unchanged s)) ∧
      (s.scrubDue p.val = true → s.pairRetired p.val = false → (s.pair p.val).diverged = false → (2 ≤ p.val → s.csqPhase k ≠ 3) →
      (diff = none → (s.pair p.val).scrMain = (s.pair p.val).scrChk →
        Completes (.scrubPoint p diff) s (fun t =>
          t.pair p.val = { s.pair p.val with scrubDt := s.dt } ∧ t.check.raised = s.check.raised ∧ t.regs = s.regs)) ∧
      (∀ i : Fin 41, diff = some (i, a, b) → i.val < 40 → a ≠ b → (s.pair p.val).scrMain = (s.pair p.val).scrChk → old = [] → 0 < p.val →
        Completes (.scrubPoint p diff) s (fun t =>
          raised (rec0 0x0731 2 2 i.val a b) t ∧ counted t ∧ t.getF .err o 10 9 = 2 ∧
            (2 ≤ p.val → s.csqPhase k = 1 → s.group k = [k] → (t.cseq k).kill = some (11, 0x0731)))) ∧
      (diff = none → (s.pair p.val).scrMain = 0#32 → (s.pair p.val).scrChk = 1#32 → (s.pair p.val).injected = false →
        old = [] → 0 < p.val → Completes (.scrubPoint p diff) s (raised (rec0 0x0731 2 2 40 0 1))))) ∧
    (s.check.armed = none → Completes .injectionFire s (Unchanged s)) ∧
    (∀ x, s.check.armed = some x →
      (x.kind = 1 → x.target = p.val → 0 < p.val → s.pairRetired p.val = false → old = [] → x.nocount = true →
        Completes .injectionFire s (fun t =>
          t.check.armed = none ∧ t.pairRetired p.val = false ∧ counted t ∧
            (t.check.raised.drop s.check.raised.length).map (fun y => (y.2.unit, y.2.code, y.2.cls)) = [(unit, 0x0730, 0x40)])) ∧
      (x.kind = 6 → s.linkLive = true →
        Completes .injectionFire s (fun t =>
          t.check = { s.check with armed := none } ∧ t.gate = { s.gate with link := { s.gate.link with suppress := x.count, inj := some x.nocount } } ∧
            t.regs = s.regs ∧ t.mem = s.mem)) ∧
      (x.kind = 3 → Completes .injectionFire s (Unchanged s))) ∧
    (∀ (w : Agent) (x : Nat),
      (parityComp w x = none → (inWindow x 1 belvSram belvSramSize || inWindow x 1 dispSram dispSramSize) = true →
        Completes (.controlMemoryParity w x) s (fun t =>
          (s.seq, s.record s.dt 0x0700 0x0734 0 0 false (leBytes x 5)) ∈ t.check.raised ∧ t.resp.busErr = hearsBusErrors w ∧
            t.mem = s.mem)) ∧
      ((inWindow x 1 belvSram belvSramSize || inWindow x 1 dispSram dispSramSize || inWindow x 1 gtSram 0x40000) = false →
        Completes (.controlMemoryParity w x) s (Unchanged s)))


/-! ### GPIO and pins (21) -/

/-- Pins (R994-R996, R999, R1001, R1002, R1004, R1006-R1008, R1013, R1017, R1021): a domain changes the outputs of its
own pins alone, frozen bits stay, owners and locks follow their rules, and pin events, captures and PWMs do what they
say.
The model's choices and readings in it: log entries 38 and 83. -/
def Obligations.PinsKeepOwnersLocksAndFunctions : Prop :=
  ∀ (m : Master) (hi : Bool) (v mask : Word) (s : State),
    let base := if hi then 32 else 0
    let width := if hi then 16 else 32
    let h := if hi then 4 else 0
    let frozen := fun (isOut : Bool) (i : Nat) => s.pinLocked (base + i) && (!isOut || s.getB .pmux (0x100 + 4 * (base + i)) 20)
    let free := fun (isOut : Bool) => ∀ i, i < width → bit mask i = true → frozen isOut i = false
    let tries := fun (isOut : Bool) (r : Nat) (f : Bool → Bool → Bool) =>
      m ≠ .xspi ∧ s.refusedB .gpio = false ∧
        ∃ i, i < width ∧ bit mask i = true ∧ frozen isOut i = true ∧ f (s.getB .gpio r i) (bit v i) ≠ s.getB .gpio r i
    let wrote := fun (r : Nat) (f : Bool → Bool → Bool) (t : State) =>
      (∀ i, i < 32 → t.getB .gpio r i = if i < width ∧ bit mask i = true then f (s.getB .gpio r i) (bit v i) else s.getB .gpio r i) ∧
        OnlyRegs [Blk.at .gpio r] s t
    let partly := fun (isOut : Bool) (off r : Nat) (f : Bool → Bool → Bool) (t : State) =>
      (∀ i, i < 32 → t.getB .gpio r i =
        if i < width ∧ bit mask i = true ∧ frozen isOut i = false then f (s.getB .gpio r i) (bit v i) else s.getB .gpio r i) ∧
        t.getN .gpio offReason = 0x7007 + off * 0x10000 ∧ t.getB .gpio offRaw 3 = true
    let put := fun (_ b : Bool) => b
    let clear := fun (a b : Bool) => a && !b
    (Applies s m .gpio (0x48 + h) v mask →
      (free true → Completes (.gpOutWrite m hi v) s (wrote (0x48 + h) put)) ∧
      (tries true (0x48 + h) put → Completes (.gpOutWrite m hi v) s (partly true (0x48 + h) (0x48 + h) put))) ∧
    (Applies s m .gpio (0x60 + h) v mask →
      (free false → Completes (.gpOeWrite m hi v) s (wrote (0x60 + h) put)) ∧
      (tries false (0x60 + h) put → Completes (.gpOeWrite m hi v) s (partly false (0x60 + h) (0x60 + h) put))) ∧
    (Applies s m .gpio (0x50 + h) v mask →
      (free true → Completes (.gpSet m hi v) s (wrote (0x48 + h) or)) ∧
      (tries true (0x48 + h) or → Completes (.gpSet m hi v) s (partly true (0x50 + h) (0x48 + h) or))) ∧
    (Applies s m .gpio (0x58 + h) v mask →
      (free true → Completes (.gpClr m hi v) s (wrote (0x48 + h) clear)) ∧
      (tries true (0x48 + h) clear → Completes (.gpClr m hi v) s (partly true (0x58 + h) (0x48 + h) clear))) ∧
    (∀ k : Fin 6,
      let off := 0x40 + 4 * k.val
      let nib := fun (w : Word) (j : Nat) => fld w (4 * j + 3) (4 * j)
      let old := s.get .gown off
      let d := m.dom s
      let may := fun j => d = 1 ∨ d = 2 ∨ (d ≠ 0 ∧ nib old j = d) ∨ (nib old j = 0 ∧ nib v j = d)
      Applies s m .gown off v mask →
        ((∃ j, j < 8 ∧ nib v j ≠ nib old j ∧ 7 ≤ nib v j) → Completes (.glOwnWrite m k v) s (Rejected s m .gown off 0x7002)) ∧
        ((∀ j, j < 8 → nib v j ≠ nib old j → nib v j < 7) → v ≠ old → (∀ j, j < 8 → nib v j ≠ nib old j → ¬ may j) →
          Completes (.glOwnWrite m k v) s (Rejected s m .gown off 0x7006)) ∧
        ((∀ j, j < 8 → nib v j ≠ nib old j → nib v j < 7 ∧ (may j → s.pinLocked (8 * k.val + j) = false)) →
          (v = old ∨ ∃ j, j < 8 ∧ nib v j ≠ nib old j ∧ may j) →
          Completes (.glOwnWrite m k v) s (fun t =>
            (∀ j, j < 8 → nib (t.get .gown off) j = if nib v j ≠ nib old j ∧ may j then nib v j else nib old j) ∧
              OnlyRegs [Blk.at .gown off] s t))) ∧
    (Applies s m .gown 0x60 v mask →
      let st := (s.pins.keys.get? m.code).getD 0
      let new := if fld v 15 0 = 0x5A5A then 1 else if fld v 15 0 = 0xA5A5 ∧ st = 1 then 2 else 0
      (hasLatch m = true → Completes (.glKey m v) s (fun t =>
        t = { s with pins := { s.pins with keys := s.pins.keys.put m.code new }, resp := t.resp, seq := s.seq + 1 })) ∧
      (hasLatch m = false → Completes (.glKey m v) s (Unchanged s))) ∧
    (let off := if hi then 0x68 else 0x64
     let st := (s.pins.keys.get? m.code).getD 0
     let mine := fun i => i < width ∧ bit v i = true ∧ s.pinMay (m.dom s) (base + i) = true
     Applies s m .gown off v mask →
      (st ≠ 2 → m ≠ .xspi → s.refusedB .gown = false →
        Completes (.glLock m hi v) s (fun t =>
          t.pins.locked = s.pins.locked ∧ t.getN .gown offReason = 0x7020 + off * 0x10000)) ∧
      (st = 2 → m ≠ .xspi → s.refusedB .gown = false → (∃ i, i < width ∧ bit v i = true) → (∀ i, i < width → ¬ mine i) →
        Completes (.glLock m hi v) s (fun t =>
          t.pins.locked = s.pins.locked ∧ t.getN .gown offReason = 0x7006 + off * 0x10000 ∧ t.pins.keys.get? m.code = some 0)) ∧
      (st = 2 → (∃ i, i < width ∧ mine i) →
        Completes (.glLock m hi v) s (fun t =>
          (∀ n, n < 48 → t.pinLocked n =
            (s.pinLocked n || (decide (base ≤ n) && decide (n < base + width) && bit v (n - base) && s.pinMay (m.dom s) n))) ∧
            t.pins.keys.get? m.code = some 0 ∧ t.regs = s.regs))) ∧
    (∀ n : Fin 48,
      let off := 0x100 + 4 * n.val
      let w := merge (s.get .pmux off) v (0x00177777#32 &&& mask)
      Applies s m .pmux off v mask →
        (pmReserved n.val v = true → Completes (.pmPinWrite m n v) s (Rejected s m .pmux off 0x7102)) ∧
        (pmReserved n.val v = false → s.pinLocked n.val = true → w ≠ s.get .pmux off →
          Completes (.pmPinWrite m n v) s (Rejected s m .pmux off 0x7107)) ∧
        (pmReserved n.val v = false → s.pinLocked n.val = false →
          Completes (.pmPinWrite m n v) s (fun t =>
            t.get .pmux off = w ∧ (fld v 14 12 < 4 → SameRegs [Blk.at .pmux off, Blk.at .pmux 0x40, Blk.at .pmux offRaw, Blk.at .pmux offErrcnt] s t) ∧
              t.pins = s.pins ∧ t.mem = s.mem ∧
              (∀ k, k < 16 →
                bit (t.get .pmux 0x40) k = decide (2 ≤ (t.selecting k).length) ∧
                (bit (t.get .pmux 0x40) k = true → t.funcIn k = decide (k < 8) ∧
                  (bit (s.get .pmux 0x40) k = false → t.getB .pmux offRaw 8 = true)))))) ∧
    (∀ (n : Fin 48) (b : Bool),
      let o := 0x68 + 4 * (n.val / 32)
      let kind := s.getF .pmux (0x100 + 4 * n.val) 14 12
      let was := s.pins.level.getLsbD n.val
      let edge := (kind = 1 ∧ b = true ∧ was = false) ∨ (kind = 2 ∧ b = false ∧ was = true) ∨ (kind = 3 ∧ b ≠ was)
      let level := (kind = 4 ∧ b = true) ∨ (kind = 5 ∧ b = false)
      let live := s.getB .pmux (0x100 + 4 * n.val) 4 = true ∧ s.rail (if n.val < 40 then 10 else 1) = true ∧ (n.val < 40 → s.gpioRuns = true)
      Completes (.pinEvent n b) s (fun t =>
        t.pins.level.getLsbD n.val = b ∧ (∀ j, j < 48 → j ≠ n.val → t.pins.level.getLsbD j = s.pins.level.getLsbD j) ∧
          t.getB .gpio o (n.val % 32) = (s.getB .gpio o (n.val % 32) || decide (live ∧ (edge ∨ level))) ∧
          SameRegs [Blk.at .gpio o] s t ∧ t.mem = s.mem)) ∧
    (let off := 0x70 + h
     Applies s m .gpio off v mask →
      Completes (.gpHoldRelease m hi v) s (fun t =>
        (∀ i, i < 32 → t.getB .gpio off i =
          (s.getB .gpio off i && !(bit v i && bit mask i && decide (i < if hi then 8 else 32)))) ∧
        (∀ i, i < 32 → t.pins.held.get? (base + i) =
          if s.getB .gpio off i && bit v i && bit mask i && decide (i < if hi then 8 else 32) then none else s.pins.held.get? (base + i)) ∧
        SameRegs [Blk.at .gpio off] s t)) ∧
    (∀ (n : Fin 8) (rising : Bool),
      let o := 0xA0 + 0x10 * n.val
      let sel := s.getF .gpio o 1 0
      let seen := s.gpioRuns = true ∧ s.fed (8 + n.val) = true ∧ (sel = 3 ∨ (sel = 1 ∧ rising = true) ∨ (sel = 2 ∧ rising = false))
      (seen → Completes (.tcapEdge n rising) s (fun t =>
        t.get64 .gpio (o + 4) = s.dt % 2 ^ 64 ∧ t.getN .gpio (o + 12) = min (s.getN .gpio (o + 12) + 1) 0xFFFFFFFF ∧
          t.getB .gpio offRaw (8 + n.val) = true ∧
          SameRegs [Blk.at .gpio (o + 4), Blk.at .gpio (o + 8), Blk.at .gpio (o + 12), Blk.at .gpio offRaw] s t)) ∧
      (¬ seen → Completes (.tcapEdge n rising) s (Unchanged s)) ∧
      (s.present .gpio = true → s.check.parity = none →
        (hasLatch m = true → Completes (.tcapLoRead m n) s (fun t =>
          t.resp.data = [s.get .gpio (o + 4)] ∧ t.regs = s.regs ∧
            t.pins = { s.pins with cap := s.pins.cap.put (8 * m.code + n.val) (s.get .gpio (o + 8)) })) ∧
        (hasLatch m = false → Completes (.tcapLoRead m n) s (fun t =>
          t.resp.data = [s.get .gpio (o + 4)] ∧ Unchanged s t)))) ∧
    (∀ n : Fin 6,
      let r := s.pwmReg n.val
      let now := if n.val < 4 then s.dt else s.time.a
      let runs := if n.val < 4 then s.gpioRuns = true else s.rail 0 = true
      (¬ runs → Completes (.pwmPeriod n) s (Unchanged s)) ∧
      (runs → r.1 = 0 → Completes (.pwmPeriod n) s (fun t => t.pwmLevel n.val = false ∧ t.regs = s.regs)) ∧
      (∀ start b, runs → r.1 ≠ 0 → s.pins.pwm.get? n.val = some (start, b) → start ≤ now →
        Completes (.pwmPeriod n) s (fun t => t.pwmLevel n.val = decide ((now - start) % r.1 < r.2) ∧ t.regs = s.regs)))


/-! ### The application cluster and the TAP (22, 23) -/

/-- Application cores and their peripherals (R1038-R1041, R1044, R1046-R1048).
The model's choices and readings in it: log entries 37 and 84. -/
def Obligations.TheClusterResetsAndItsPeripheralsMoveBytes : Prop :=
  ∀ (m : Master) (v mask : Word) (s : State),
    let a := s.app
    let uart := fun (t : State) => SameRegs [Blk.at .appc offRaw] s t ∧ t.mem = s.mem
    (∀ dirty, Applies s m .appc 0x44 v mask →
      (v ≠ 0x5A17#32 → Completes (.clusterReset m v dirty) s (Rejected s m .appc 0x44 0x9020)) ∧
      (v = 0x5A17#32 → s.power.opApp = none →
        Completes (.clusterReset m v dirty) s (fun t =>
          t.getN .appc 0x40 = 1 ∧ t.getN .appc 0x48 = (s.getN .appc 0x48 + 1) % 2 ^ 32 ∧
            (∀ c, c < 4 → t.mtcmp c = 0xFFFFFFFFFFFFFFFF ∧ t.getB .appc (0x50 + 4 * c) 0 = decide (c = 0) ∧
              (∀ w, w < 16 → t.get .appc (0x300 + 0x40 * c + 4 * w) = 0)) ∧
            t.get .appc 0xC0 = 0 ∧ t.app = { a with suspend := 0, mtip := 0, rst := none } ∧
            (∀ n : Fin 64, s.getB .lock (lockOff n.val) 0 = true → 0x40 ≤ s.getF .lock (lockOff n.val) 27 20 →
              s.getF .lock (lockOff n.val) 27 20 ≤ 0x43 → t.get .lock (lockOff n.val) = 2) ∧
            (dirty = 0 → t.check = s.check) ∧
            (dirty ≠ 0 → (s.seq, s.record s.dt 0x9000 0x9030 0 0 false (leBytes dirty 4)) ∈ t.check.raised) ∧
            t.disp = s.disp ∧ (∀ l, l < 16 → t.loop l = s.loop l) ∧ t.images = s.images ∧ t.pins = s.pins ∧ t.mem = s.mem ∧
            (∀ x, (x < Blk.at .appc 0 ∨ Blk.at .appc 0x1000 ≤ x) → (x < Blk.at .lock 0x100 ∨ Blk.at .lock 0x200 ≤ x) →
              t.reg x = s.reg x))) ∧
      (v = 0x5A17#32 → s.power.opApp.isSome = true →
        Completes (.clusterReset m v dirty) s (fun t => t.app = { a with rst := some dirty } ∧ t.regs = s.regs))) ∧
    (∀ c : Fin 4,
      let off := 0x50 + 4 * c.val
      (Applies s m .appc off v mask → bit v 0 = true →
        Completes (.coreRun m c v) s (fun t =>
          t.getF .appc off 1 0 = fld (merge (s.get .appc off) v (3#32 &&& mask)) 1 0 ∧ t.getB .appc 0x40 c.val = true ∧
            OnlyRegs [Blk.at .appc off, Blk.at .appc 0x40] s t)) ∧
      (Applies s m .appc off v mask → bit v 0 = false →
        Completes (.coreRun m c v) s (fun t =>
          t.getF .appc off 1 0 = fld (merge (s.get .appc off) v (3#32 &&& mask)) 1 0 ∧
            t.getB .appc 0x40 c.val = false ∧ t.getB .appc 0x40 (4 + c.val) = false ∧ t.app = a ∧ t.mem = s.mem ∧
            (∀ x, x ∉ [Blk.at .appc off, Blk.at .appc 0x40] → (x < Blk.at .lock 0x100 ∨ Blk.at .lock 0x200 ≤ x) → t.reg x = s.reg x) ∧
            (∀ n : Fin 64, s.getB .lock (lockOff n.val) 0 = true → s.getF .lock (lockOff n.val) 27 20 = 0x40 + c.val →
              t.get .lock (lockOff n.val) = 2))) ∧
      (∀ hi : Bool,
        let off := (if hi then 0xA4 else 0xA0) + 8 * c.val
        Applies s m .appc off v mask →
          Completes (.mtcmpWrite m c hi v) s (fun t =>
            t.get .appc off = merge (s.get .appc off) v mask ∧ t.timerDue c.val = (hi && decide (t.mtcmp c.val ≤ t.dt)) ∧
              (∀ d, d < 4 → d ≠ c.val → t.timerDue d = s.timerDue d) ∧ SameRegs [Blk.at .appc off] s t)) ∧
      (s.present .appc = true → s.timerDue c.val = true →
        Completes (.machineTimer c) s (fun t =>
          t.app = { a with mtip := t.app.mtip } ∧ t.app.mtip.getLsbD c.val = true ∧
            (∀ d, d < 4 → d ≠ c.val → t.app.mtip.getLsbD d = a.mtip.getLsbD d) ∧ SameRegs [Blk.at .appc 0x40] s t)) ∧
      (s.timerDue c.val = false → Completes (.machineTimer c) s (Unchanged s))) ∧
    (Applies s m .appc 0x800 v mask →
      (16 ≤ a.uartTx.length → Completes (.uartTxPush m v) s (Unchanged s)) ∧
      (a.uartTx.length < 16 →
        Completes (.uartTxPush m v) s (fun t => t.app = { a with uartTx := a.uartTx ++ [BitVec.ofNat 8 v.toNat] } ∧ uart t))) ∧
    (s.present .appc = true → s.gateMisses m .appc = false → s.check.parity = none → m.dom s = s.owner .appc → s.owner .appc ≠ 0 →
      (∀ b rest, a.uartRx = b :: rest →
        Completes (.uartRxPop m) s (fun t => t.resp.data = [b.setWidth 32] ∧ t.app = { a with uartRx := rest } ∧ t.regs = s.regs)) ∧
      (a.uartRx = [] → Completes (.uartRxPop m) s (fun t => t.resp.data = [0x100#32] ∧ t.app = a ∧ t.regs = s.regs))) ∧
    (∀ (ch : Byte) (fe pe br : Bool),
      let st := s.get .appc 0x808
      ((s.uartOn = false ∨ s.fed 0 = false) → Completes (.uartRxByte ch fe pe br) s (Unchanged s)) ∧
      (s.uartOn = true → s.fed 0 = true →
        (fe = false → pe = false → br = false → a.uartRx.length < 16 → s.getF .appc 0x804 17 16 = 3 →
          Completes (.uartRxByte ch fe pe br) s (fun t =>
            t.app = { a with uartRx := a.uartRx ++ [ch] } ∧ t.get .appc 0x808 = st ∧ uart t ∧
              (s.getB .appc 0x80C 0 = true → s.getF .appc 0x80C 7 4 ≤ a.uartRx.length + 1 → t.getB .appc offRaw 8 = true))) ∧
        (fe = false → pe = false → br = false → 16 ≤ a.uartRx.length →
          Completes (.uartRxByte ch fe pe br) s (fun t =>
            t.app = a ∧ t.getB .appc 0x808 17 = true ∧ (s.getB .appc 0x80C 2 = true → t.getB .appc offRaw 8 = true))) ∧
        ((fe || pe || br) = true →
          Completes (.uartRxByte ch fe pe br) s (fun t =>
            t.app = a ∧ t.getB .appc 0x808 18 = (fe || bit st 18) ∧ t.getB .appc 0x808 19 = (pe || bit st 19) ∧
              t.getB .appc 0x808 20 = (br || bit st 20) ∧ (s.getB .appc 0x80C 2 = true → t.getB .appc offRaw 8 = true))))) ∧
    ((s.uartOn = true → 0 < a.uartRx.length → a.uartRx.length < s.getF .appc 0x80C 7 4 → s.getF .appc 0x810 7 0 ≠ 0 →
        s.getB .appc 0x80C 3 = true →
        Completes .uartRxTimeout s (fun t => t.getB .appc offRaw 8 = true ∧ OnlyRegs [Blk.at .appc offRaw] s t)) ∧
      ((s.uartOn = false ∨ a.uartRx = [] ∨ s.getF .appc 0x80C 7 4 ≤ a.uartRx.length) → Completes .uartRxTimeout s (Unchanged s))) ∧
    ((∀ b rest, a.uartTx = b :: rest → s.uartOn = true →
        Completes .uartTxByteSent s (fun t =>
          t.resp.bytes = [b] ∧ t.app = { a with uartTx := rest } ∧ uart t ∧
            (s.getB .appc 0x80C 1 = true → rest.length ≤ s.getF .appc 0x80C 11 8 → t.getB .appc offRaw 8 = true))) ∧
      (a.uartTx = [] → Completes .uartTxByteSent s (Unchanged s))) ∧
    (∀ x : Fin 2,
      let o := 0x900 + 0x100 * x.val
      (Applies s m .appc (o + 4) v mask →
        (s.getB .appc o 8 = true → s.getB .appc (o + 12) 0 = false →
          Completes (.i2cCmd m x v) s (fun t =>
            t.getB .appc (o + 12) 0 = true ∧ t.app = a ∧ OnlyRegs [Blk.at .appc (o + 4), Blk.at .appc (o + 12)] s t)) ∧
        ((s.getB .appc o 8 = false ∨ s.getB .appc (o + 12) 0 = true) → Completes (.i2cCmd m x v) s (Unchanged s))) ∧
      (∀ (nack arb : Bool) (d : Option Byte),
        let f := (a.i2c.get? x.val).getD []
        (s.getB .appc (o + 12) 0 = false → Completes (.i2cByteComplete x nack arb d) s (Unchanged s)) ∧
        (s.present .appc = true → s.getB .appc (o + 12) 0 = true →
          Completes (.i2cByteComplete x nack arb d) s (fun t =>
            t.getB .appc (o + 12) 0 = false ∧ t.getB .appc (o + 12) 1 = nack ∧ t.getB .appc (o + 12) 2 = arb ∧
              t.getB .appc offRaw (9 + x.val) = true ∧
              (t.app.i2c.get? x.val).getD [] =
                (match d with
                 | some b => if s.getB .appc (o + 4) 10 = true ∧ f.length < 16 then f ++ [b] else f
                 | none => f) ∧
              SameRegs [Blk.at .appc (o + 12), Blk.at .appc offRaw] s t)))) ∧
    (let rd := s.getN .appc 0xB10
     let n := 2 * [2, 4, 8, 8].getD (s.getF .appc 0xB00 5 4) 2
     let base := s.getN .appc 0xB04 + s.getF .appc 0xB08 7 0 * 2 ^ 32
     let len := s.getN .appc 0xB0C
     let on := s.present .appc = true ∧ s.getB .appc 0xB00 8 = true
     (on → rd = s.getN .appc 0xB14 →
        Completes .i2sUnderrun s (fun t =>
          t.resp.bytes = List.replicate n 0#8 ∧ t.getB .appc offRaw 11 = true ∧ OnlyRegs [Blk.at .appc offRaw] s t)) ∧
      ((¬ on ∨ rd ≠ s.getN .appc 0xB14) → Completes .i2sUnderrun s (Unchanged s)) ∧
      (¬ on → Completes .i2sFrame s (Unchanged s)) ∧
      (on → rd ≠ s.getN .appc 0xB14 → 0 < len →
        Completes .i2sFrame s (fun t =>
          t.resp.bytes = (List.range n).map (fun i => s.byte (base + (rd + i) % len)) ∧
            t.getN .appc 0xB10 = (rd + n) % len ∧ OnlyRegs [Blk.at .appc 0xB10] s t)))

/-- The TAP (R1070-R1072, R1076): with VDD_IO good each instruction selects itself, EXTEST, CLAMP and HIGHZ take the pads
until TAP reset, and no instruction reaches a register, memory or the functions of the device.
The model's choices and readings in it: log entry 39. -/
def Obligations.TheTapTakesThePads : Prop :=
  ∀ (s : State) (load : Nat) (code : Fin 32),
    let onlyTap := fun (t : State) => t = { s with tap := t.tap, resp := t.resp, seq := t.seq }
    let id := if s.part.code % 0x10000 = 0x4108 then 0x1410856B else if s.part.code % 0x10000 = 0x4116 then 0x1411656B else 0x1413256B
    (s.rail 10 = true →
      Completes .extest s (fun t =>
        t.tap.ir = 0 ∧ onlyTap t ∧
          ∀ n, n < 48 → s.rail (if n < 40 then 10 else 1) = true → t.pad n = { drive := some (s.tap.boundary.testBit n), pull := 0 }) ∧
      Completes (.samplePreload load) s (fun t =>
        t.tap = { s.tap with ir := 1, boundary := load } ∧ onlyTap t ∧
          ∀ n, n < 32 → bit (t.resp.data.getD 0 0) n = s.pins.level.getLsbD n) ∧
      Completes .idcode s (fun t => t.tap = { s.tap with ir := 2 } ∧ onlyTap t ∧ t.resp.data = [BitVec.ofNat 32 id]) ∧
      Completes .clamp s (fun t =>
        t.tap.ir = 3 ∧ onlyTap t ∧
          ∀ n, n < 48 → s.rail (if n < 40 then 10 else 1) = true → t.pad n = { drive := some (s.tap.boundary.testBit n), pull := 0 }) ∧
      Completes .highz s (fun t => t.tap.ir = 4 ∧ onlyTap t ∧ ∀ n, n < 48 → (t.pad n).drive = none) ∧
      (5 ≤ code.val → Completes (.bypass code) s (fun t => t.tap = { s.tap with ir := code.val } ∧ onlyTap t)) ∧
      Completes .tapReset s (fun t => t.tap.ir = 2 ∧ t.tap.control = 0 ∧ onlyTap t)) ∧
    (s.rail 10 = false → ∀ c ∈ [Instr.extest, .samplePreload load, .idcode, .clamp, .highz, .bypass code, .tapReset],
      Completes c s (Unchanged s))
end

