-- ==== Sys2Proof/Laws/Bits.lean ====
section
/-! SUPPORT. Bit fields: what a field or a bit reads after a field or a bit was set. -/

namespace Sys2Proof.Machine

/-- A bit of a field's mask. -/
theorem fmask_getLsbD (hi lo i : Nat) (h : i < 32) : (fmask hi lo).getLsbD i = (decide (lo ≤ i) && decide (i < hi + 1)) := by
  simp only [fmask, BitVec.getLsbD_ofNat, Nat.testBit_shiftLeft, Nat.testBit_two_pow_sub_one, h, decide_true, Bool.true_and]
  by_cases h1 : lo ≤ i
  · simp only [ge_iff_le, h1, decide_true, Bool.true_and]
    congr 1
    exact propext ⟨fun q => by omega, fun q => by omega⟩
  · simp [h1]

/-- A bit after a field was set: the new value inside the field, the old bit outside it. -/
theorem bit_setFld (w : Word) (hi lo v i : Nat) (h : i < 32) :
    bit (setFld w hi lo v) i = if lo ≤ i ∧ i ≤ hi then v.testBit (i - lo) else bit w i := by
  have hm := fmask_getLsbD hi lo i h
  simp only [bit, setFld, BitVec.getLsbD_or, BitVec.getLsbD_and, BitVec.getLsbD_not, hm, BitVec.getLsbD_ofNat, Nat.testBit_shiftLeft]
  by_cases h1 : lo ≤ i <;> by_cases h2 : i ≤ hi <;> simp [h, h1, h2, Nat.lt_succ_iff]

/-- A bit that was set reads as set. -/
@[simp] theorem bit_setBit_same (w : Word) (i : Nat) (b : Bool) (h : i < 32) : bit (setBit w i b) i = b := by
  rw [setBit, bit_setFld _ _ _ _ _ h]; cases b <;> simp

/-- Setting a bit leaves the others alone. -/
theorem bit_setBit_other (w : Word) (i j : Nat) (b : Bool) (h : j ≠ i) : bit (setBit w i b) j = bit w j := by
  by_cases hj : j < 32
  · rw [setBit, bit_setFld _ _ _ _ _ hj, if_neg]; omega
  · simp [bit, BitVec.getLsbD_of_ge _ _ (Nat.le_of_not_lt hj)]

/-- The bits of a field, as a number's bits. -/
theorem fld_testBit (w : Word) (hi lo i : Nat) : (fld w hi lo).testBit i = (decide (i < hi + 1 - lo) && bit w (lo + i)) := by
  simp only [fld, Nat.testBit_mod_two_pow, Nat.testBit_shiftRight, bit, BitVec.getLsbD]

/-- A field that was set reads as set, cut to its width. -/
theorem fld_setFld_same (w : Word) (hi lo v : Nat) (h : hi < 32) : fld (setFld w hi lo v) hi lo = v % 2 ^ (hi + 1 - lo) := by
  apply Nat.eq_of_testBit_eq
  intro i
  rw [fld_testBit, Nat.testBit_mod_two_pow]
  by_cases hi' : i < hi + 1 - lo
  · rw [bit_setFld _ _ _ _ _ (by omega), if_pos (by omega)]
    simp
  · simp [hi']

/-- Setting a field leaves a field beside it alone. -/
theorem fld_setFld_other (w : Word) (hi lo v hi2 lo2 : Nat) (h : hi < lo2 ∨ hi2 < lo) :
    fld (setFld w hi lo v) hi2 lo2 = fld w hi2 lo2 := by
  apply Nat.eq_of_testBit_eq
  intro i
  rw [fld_testBit, fld_testBit]
  by_cases hi' : i < hi2 + 1 - lo2
  · by_cases h32 : lo2 + i < 32
    · rw [bit_setFld _ _ _ _ _ h32, if_neg (by omega)]
    · simp [bit, BitVec.getLsbD_of_ge _ _ (Nat.le_of_not_lt h32)]
  · simp [hi']

/-- A field is smaller than its range. -/
theorem fld_lt (w : Word) (hi lo : Nat) : fld w hi lo < 2 ^ (hi + 1 - lo) := Nat.mod_lt _ (Nat.two_pow_pos _)

/-- A bit after a merge. -/
theorem bit_merge (old v mask : Word) (i : Nat) (h : i < 32) :
    bit (merge old v mask) i = if bit mask i = true then bit v i else bit old i := by
  simp only [bit, merge, BitVec.getLsbD_or, BitVec.getLsbD_and, BitVec.getLsbD_not, h, decide_true, Bool.true_and]
  by_cases hm : mask.getLsbD i = true
  · simp [hm]
  · simp [Bool.not_eq_true _ ▸ hm]

/-- `crc8From` is the left fold of its step. -/
theorem crc8From_eq_foldl (bs : List Byte) (c : Byte) : crc8From c bs = bs.foldl crc8Step c := by
  induction bs generalizing c with
  | nil => rfl
  | cons b bs ih => simp only [crc8From, ih, List.foldl_cons]; split <;> simp_all

/-- `crc32From` is the left fold of its step. -/
theorem crc32From_eq_foldl (bs : List Byte) (c : Word) : crc32From c bs = bs.foldl crc32Step c := by
  induction bs generalizing c with
  | nil => rfl
  | cons b bs ih => simp only [crc32From, ih, List.foldl_cons]; split <;> simp_all

end Sys2Proof.Machine
end

