-- ==== Sys2Proof/Laws/Map.lean ====
section
/-! SUPPORT. What the sparse maps do: a read after a write at the same key and at another, and that every operation
keeps the keys strictly rising. -/

namespace Sys2Proof.Machine

theorem smap_get_nil (k : Nat) : SMap.get? ([] : SMap α) k = none := rfl

theorem smap_get_cons (p : Nat × α) (l : SMap α) (k : Nat) :
    SMap.get? (p :: l) k = if p.1 = k then some p.2 else SMap.get? l k := by
  by_cases h : p.1 = k <;> simp [SMap.get?, h]

theorem smap_get_put_same (l : SMap α) (k : Nat) (v : α) : (l.put k v).get? k = some v := by
  induction l with
  | nil => simp [SMap.put, smap_get_cons]
  | cons p l ih =>
    obtain ⟨a, b⟩ := p
    simp only [SMap.put]
    split
    · simp [smap_get_cons]
    · split
      · simp [smap_get_cons]
      · rename_i h1 h2
        have : ¬ a = k := fun e => h2 e.symm
        simp [smap_get_cons, this, ih]

theorem smap_get_put_other (l : SMap α) (k j : Nat) (v : α) (h : j ≠ k) : (l.put k v).get? j = l.get? j := by
  have hk : ¬ k = j := fun e => h e.symm
  induction l with
  | nil => simp [SMap.put, smap_get_cons, smap_get_nil, hk]
  | cons p l ih =>
    obtain ⟨a, b⟩ := p
    simp only [SMap.put]
    split
    · simp [smap_get_cons, hk]
    · split
      · rename_i _ e
        subst e
        simp [smap_get_cons, hk]
      · simp [smap_get_cons, ih]

theorem smap_get_filter (l : SMap α) (q : Nat → Bool) (k : Nat) :
    SMap.get? (l.filter (fun p => q p.1)) k = if q k then l.get? k else none := by
  induction l with
  | nil => simp [smap_get_nil]
  | cons p l ih =>
    obtain ⟨a, b⟩ := p
    by_cases e : a = k
    · subst e
      by_cases hq : q a <;> simp [hq, smap_get_cons, ih]
    · by_cases ha : q a <;> simp [ha, smap_get_cons, ih, e]

theorem smap_get_del_same (l : SMap α) (k : Nat) : (l.del k).get? k = none := by
  have := smap_get_filter l (fun a => a != k) k
  simpa [SMap.del] using this

theorem smap_get_del_other (l : SMap α) (k j : Nat) (h : j ≠ k) : (l.del k).get? j = l.get? j := by
  have := smap_get_filter l (fun a => a != k) j
  simpa [SMap.del, h] using this

theorem smap_get_clear_in (l : SMap α) (lo n k : Nat) (h1 : lo ≤ k) (h2 : k < lo + n) : (l.clear lo n).get? k = none := by
  have := smap_get_filter l (fun a => !(decide (lo ≤ a) && decide (a < lo + n))) k
  simpa [SMap.clear, h1, h2] using this

theorem smap_get_clear_out (l : SMap α) (lo n k : Nat) (h : k < lo ∨ lo + n ≤ k) : (l.clear lo n).get? k = l.get? k := by
  have := smap_get_filter l (fun a => !(decide (lo ≤ a) && decide (a < lo + n))) k
  rw [SMap.clear, this]
  have : (!(decide (lo ≤ k) && decide (k < lo + n))) = true := by
    rcases h with h | h <;> simp <;> omega
  simp [this]

/-! ### Rising keys -/

theorem smap_sorted_iff (l : SMap α) : l.sorted = true ↔ l.Pairwise (fun p q => p.1 < q.1) := by
  induction l with
  | nil => simp [SMap.sorted]
  | cons p l ih =>
    cases l with
    | nil => simp [SMap.sorted]
    | cons q l =>
      obtain ⟨a, x⟩ := p
      obtain ⟨b, y⟩ := q
      simp only [SMap.sorted, Bool.and_eq_true, decide_eq_true_eq, ih]
      constructor
      · rintro ⟨h, hp⟩
        refine List.pairwise_cons.2 ⟨?_, hp⟩
        intro r hr
        rcases List.mem_cons.1 hr with e | hr
        · subst e; exact h
        · exact Nat.lt_trans h ((List.pairwise_cons.1 hp).1 r hr)
      · intro hp
        exact ⟨(List.pairwise_cons.1 hp).1 _ (List.mem_cons_self ..), (List.pairwise_cons.1 hp).2⟩

theorem smap_mem_put (l : SMap α) (k : Nat) (v : α) (p : Nat × α) (h : p ∈ l.put k v) : p = (k, v) ∨ p ∈ l := by
  induction l with
  | nil => simpa [SMap.put] using h
  | cons q l ih =>
    obtain ⟨a, b⟩ := q
    simp only [SMap.put] at h
    split at h
    · simpa using h
    · split at h
      · rcases List.mem_cons.1 h with h | h
        · exact .inl h
        · exact .inr (List.mem_cons_of_mem _ h)
      · rcases List.mem_cons.1 h with h | h
        · exact .inr (h ▸ List.mem_cons_self ..)
        · exact (ih h).imp id (List.mem_cons_of_mem _)

theorem smap_sorted_put (l : SMap α) (k : Nat) (v : α) (h : l.sorted = true) : (l.put k v).sorted = true := by
  rw [smap_sorted_iff] at *
  induction l with
  | nil => simp [SMap.put]
  | cons q l ih =>
    obtain ⟨a, b⟩ := q
    obtain ⟨h1, h2⟩ := List.pairwise_cons.1 h
    simp only [SMap.put]
    split
    · rename_i hk
      refine List.pairwise_cons.2 ⟨?_, h⟩
      intro r hr
      rcases List.mem_cons.1 hr with e | hr
      · subst e; exact hk
      · exact Nat.lt_trans hk (h1 r hr)
    · split
      · rename_i _ e
        subst e
        exact List.pairwise_cons.2 ⟨h1, h2⟩
      · refine List.pairwise_cons.2 ⟨?_, ih h2⟩
        intro r hr
        rcases smap_mem_put l k v r hr with e | hr
        · subst e; simp only; omega
        · exact h1 r hr

theorem smap_sorted_filter (l : SMap α) (q : Nat × α → Bool) (h : l.sorted = true) : SMap.sorted (l.filter q) = true := by
  rw [smap_sorted_iff] at *
  exact h.filter q

theorem smap_sorted_del (l : SMap α) (k : Nat) (h : l.sorted = true) : (l.del k).sorted = true := smap_sorted_filter l _ h

theorem smap_sorted_clear (l : SMap α) (lo n : Nat) (h : l.sorted = true) : (l.clear lo n).sorted = true :=
  smap_sorted_filter l _ h

end Sys2Proof.Machine
end

