-- ==== Sys2Proof/Laws/State.lean ====
section
/-! SUPPORT. The fields of the state after each named update, and reads of registers and memory after writes. -/

namespace Sys2Proof.Machine

/-! ### setReg -/

@[simp] theorem setReg_part (s : State) (a : Nat) (w : Word) : (s.setReg a w).part = s.part := rfl
@[simp] theorem setReg_hostSel (s : State) (a : Nat) (w : Word) : (s.setReg a w).hostSel = s.hostSel := rfl
@[simp] theorem setReg_belvSec (s : State) (a : Nat) (w : Word) : (s.setReg a w).belvSec = s.belvSec := rfl
@[simp] theorem setReg_mem (s : State) (a : Nat) (w : Word) : (s.setReg a w).mem = s.mem := rfl
@[simp] theorem setReg_jobs (s : State) (a : Nat) (w : Word) : (s.setReg a w).jobs = s.jobs := rfl
@[simp] theorem setReg_held (s : State) (a : Nat) (w : Word) : (s.setReg a w).held = s.held := rfl
@[simp] theorem setReg_keys (s : State) (a : Nat) (w : Word) : (s.setReg a w).keys = s.keys := rfl
@[simp] theorem setReg_time (s : State) (a : Nat) (w : Word) : (s.setReg a w).time = s.time := rfl
@[simp] theorem setReg_latches (s : State) (a : Nat) (w : Word) : (s.setReg a w).latches = s.latches := rfl
@[simp] theorem setReg_port (s : State) (a : Nat) (w : Word) : (s.setReg a w).port = s.port := rfl
@[simp] theorem setReg_power (s : State) (a : Nat) (w : Word) : (s.setReg a w).power = s.power := rfl
@[simp] theorem setReg_ddr (s : State) (a : Nat) (w : Word) : (s.setReg a w).ddr = s.ddr := rfl
@[simp] theorem setReg_ora (s : State) (a : Nat) (w : Word) : (s.setReg a w).ora = s.ora := rfl
@[simp] theorem setReg_chans (s : State) (a : Nat) (w : Word) : (s.setReg a w).chans = s.chans := rfl
@[simp] theorem setReg_rings (s : State) (a : Nat) (w : Word) : (s.setReg a w).rings = s.rings := rfl
@[simp] theorem setReg_check (s : State) (a : Nat) (w : Word) : (s.setReg a w).check = s.check := rfl
@[simp] theorem setReg_cores (s : State) (a : Nat) (w : Word) : (s.setReg a w).cores = s.cores := rfl
@[simp] theorem setReg_seqs (s : State) (a : Nat) (w : Word) : (s.setReg a w).seqs = s.seqs := rfl
@[simp] theorem setReg_images (s : State) (a : Nat) (w : Word) : (s.setReg a w).images = s.images := rfl
@[simp] theorem setReg_coll (s : State) (a : Nat) (w : Word) : (s.setReg a w).coll = s.coll := rfl
@[simp] theorem setReg_disp (s : State) (a : Nat) (w : Word) : (s.setReg a w).disp = s.disp := rfl
@[simp] theorem setReg_pfg (s : State) (a : Nat) (w : Word) : (s.setReg a w).pfg = s.pfg := rfl
@[simp] theorem setReg_fw (s : State) (a : Nat) (w : Word) : (s.setReg a w).fw = s.fw := rfl
@[simp] theorem setReg_cams (s : State) (a : Nat) (w : Word) : (s.setReg a w).cams = s.cams := rfl
@[simp] theorem setReg_params (s : State) (a : Nat) (w : Word) : (s.setReg a w).params = s.params := rfl
@[simp] theorem setReg_vdec (s : State) (a : Nat) (w : Word) : (s.setReg a w).vdec = s.vdec := rfl
@[simp] theorem setReg_venc (s : State) (a : Nat) (w : Word) : (s.setReg a w).venc = s.venc := rfl
@[simp] theorem setReg_jpeg (s : State) (a : Nat) (w : Word) : (s.setReg a w).jpeg = s.jpeg := rfl
@[simp] theorem setReg_spl (s : State) (a : Nat) (w : Word) : (s.setReg a w).spl = s.spl := rfl
@[simp] theorem setReg_splJob (s : State) (a : Nat) (w : Word) : (s.setReg a w).splJob = s.splJob := rfl
@[simp] theorem setReg_splLast (s : State) (a : Nat) (w : Word) : (s.setReg a w).splLast = s.splLast := rfl
@[simp] theorem setReg_vdecLast (s : State) (a : Nat) (w : Word) : (s.setReg a w).vdecLast = s.vdecLast := rfl
@[simp] theorem setReg_gate (s : State) (a : Nat) (w : Word) : (s.setReg a w).gate = s.gate := rfl
@[simp] theorem setReg_pins (s : State) (a : Nat) (w : Word) : (s.setReg a w).pins = s.pins := rfl
@[simp] theorem setReg_app (s : State) (a : Nat) (w : Word) : (s.setReg a w).app = s.app := rfl
@[simp] theorem setReg_tap (s : State) (a : Nat) (w : Word) : (s.setReg a w).tap = s.tap := rfl
@[simp] theorem setReg_seq (s : State) (a : Nat) (w : Word) : (s.setReg a w).seq = s.seq := rfl
@[simp] theorem setReg_resp (s : State) (a : Nat) (w : Word) : (s.setReg a w).resp = s.resp := rfl
@[simp] theorem setReg_pending (s : State) (a : Nat) (w : Word) : (s.setReg a w).pending = s.pending := rfl

/-! ### storeBytes -/

@[simp] theorem storeBytes_part (s : State) (a : Nat) (l : List Byte) : (s.storeBytes a l).part = s.part := rfl
@[simp] theorem storeBytes_hostSel (s : State) (a : Nat) (l : List Byte) : (s.storeBytes a l).hostSel = s.hostSel := rfl
@[simp] theorem storeBytes_belvSec (s : State) (a : Nat) (l : List Byte) : (s.storeBytes a l).belvSec = s.belvSec := rfl
@[simp] theorem storeBytes_regs (s : State) (a : Nat) (l : List Byte) : (s.storeBytes a l).regs = s.regs := rfl
@[simp] theorem storeBytes_jobs (s : State) (a : Nat) (l : List Byte) : (s.storeBytes a l).jobs = s.jobs := rfl
@[simp] theorem storeBytes_held (s : State) (a : Nat) (l : List Byte) : (s.storeBytes a l).held = s.held := rfl
@[simp] theorem storeBytes_keys (s : State) (a : Nat) (l : List Byte) : (s.storeBytes a l).keys = s.keys := rfl
@[simp] theorem storeBytes_time (s : State) (a : Nat) (l : List Byte) : (s.storeBytes a l).time = s.time := rfl
@[simp] theorem storeBytes_latches (s : State) (a : Nat) (l : List Byte) : (s.storeBytes a l).latches = s.latches := rfl
@[simp] theorem storeBytes_port (s : State) (a : Nat) (l : List Byte) : (s.storeBytes a l).port = s.port := rfl
@[simp] theorem storeBytes_power (s : State) (a : Nat) (l : List Byte) : (s.storeBytes a l).power = s.power := rfl
@[simp] theorem storeBytes_ddr (s : State) (a : Nat) (l : List Byte) : (s.storeBytes a l).ddr = s.ddr := rfl
@[simp] theorem storeBytes_ora (s : State) (a : Nat) (l : List Byte) : (s.storeBytes a l).ora = s.ora := rfl
@[simp] theorem storeBytes_chans (s : State) (a : Nat) (l : List Byte) : (s.storeBytes a l).chans = s.chans := rfl
@[simp] theorem storeBytes_rings (s : State) (a : Nat) (l : List Byte) : (s.storeBytes a l).rings = s.rings := rfl
@[simp] theorem storeBytes_check (s : State) (a : Nat) (l : List Byte) : (s.storeBytes a l).check = s.check := rfl
@[simp] theorem storeBytes_cores (s : State) (a : Nat) (l : List Byte) : (s.storeBytes a l).cores = s.cores := rfl
@[simp] theorem storeBytes_seqs (s : State) (a : Nat) (l : List Byte) : (s.storeBytes a l).seqs = s.seqs := rfl
@[simp] theorem storeBytes_images (s : State) (a : Nat) (l : List Byte) : (s.storeBytes a l).images = s.images := rfl
@[simp] theorem storeBytes_coll (s : State) (a : Nat) (l : List Byte) : (s.storeBytes a l).coll = s.coll := rfl
@[simp] theorem storeBytes_disp (s : State) (a : Nat) (l : List Byte) : (s.storeBytes a l).disp = s.disp := rfl
@[simp] theorem storeBytes_pfg (s : State) (a : Nat) (l : List Byte) : (s.storeBytes a l).pfg = s.pfg := rfl
@[simp] theorem storeBytes_fw (s : State) (a : Nat) (l : List Byte) : (s.storeBytes a l).fw = s.fw := rfl
@[simp] theorem storeBytes_cams (s : State) (a : Nat) (l : List Byte) : (s.storeBytes a l).cams = s.cams := rfl
@[simp] theorem storeBytes_params (s : State) (a : Nat) (l : List Byte) : (s.storeBytes a l).params = s.params := rfl
@[simp] theorem storeBytes_vdec (s : State) (a : Nat) (l : List Byte) : (s.storeBytes a l).vdec = s.vdec := rfl
@[simp] theorem storeBytes_venc (s : State) (a : Nat) (l : List Byte) : (s.storeBytes a l).venc = s.venc := rfl
@[simp] theorem storeBytes_jpeg (s : State) (a : Nat) (l : List Byte) : (s.storeBytes a l).jpeg = s.jpeg := rfl
@[simp] theorem storeBytes_spl (s : State) (a : Nat) (l : List Byte) : (s.storeBytes a l).spl = s.spl := rfl
@[simp] theorem storeBytes_splJob (s : State) (a : Nat) (l : List Byte) : (s.storeBytes a l).splJob = s.splJob := rfl
@[simp] theorem storeBytes_splLast (s : State) (a : Nat) (l : List Byte) : (s.storeBytes a l).splLast = s.splLast := rfl
@[simp] theorem storeBytes_vdecLast (s : State) (a : Nat) (l : List Byte) : (s.storeBytes a l).vdecLast = s.vdecLast := rfl
@[simp] theorem storeBytes_gate (s : State) (a : Nat) (l : List Byte) : (s.storeBytes a l).gate = s.gate := rfl
@[simp] theorem storeBytes_pins (s : State) (a : Nat) (l : List Byte) : (s.storeBytes a l).pins = s.pins := rfl
@[simp] theorem storeBytes_app (s : State) (a : Nat) (l : List Byte) : (s.storeBytes a l).app = s.app := rfl
@[simp] theorem storeBytes_tap (s : State) (a : Nat) (l : List Byte) : (s.storeBytes a l).tap = s.tap := rfl
@[simp] theorem storeBytes_seq (s : State) (a : Nat) (l : List Byte) : (s.storeBytes a l).seq = s.seq := rfl
@[simp] theorem storeBytes_resp (s : State) (a : Nat) (l : List Byte) : (s.storeBytes a l).resp = s.resp := rfl
@[simp] theorem storeBytes_pending (s : State) (a : Nat) (l : List Byte) : (s.storeBytes a l).pending = s.pending := rfl

/-! ### undef -/

@[simp] theorem undef_part (s : State) (a n : Nat) : (s.undef a n).part = s.part := rfl
@[simp] theorem undef_hostSel (s : State) (a n : Nat) : (s.undef a n).hostSel = s.hostSel := rfl
@[simp] theorem undef_belvSec (s : State) (a n : Nat) : (s.undef a n).belvSec = s.belvSec := rfl
@[simp] theorem undef_regs (s : State) (a n : Nat) : (s.undef a n).regs = s.regs := rfl
@[simp] theorem undef_jobs (s : State) (a n : Nat) : (s.undef a n).jobs = s.jobs := rfl
@[simp] theorem undef_held (s : State) (a n : Nat) : (s.undef a n).held = s.held := rfl
@[simp] theorem undef_keys (s : State) (a n : Nat) : (s.undef a n).keys = s.keys := rfl
@[simp] theorem undef_time (s : State) (a n : Nat) : (s.undef a n).time = s.time := rfl
@[simp] theorem undef_latches (s : State) (a n : Nat) : (s.undef a n).latches = s.latches := rfl
@[simp] theorem undef_port (s : State) (a n : Nat) : (s.undef a n).port = s.port := rfl
@[simp] theorem undef_power (s : State) (a n : Nat) : (s.undef a n).power = s.power := rfl
@[simp] theorem undef_ddr (s : State) (a n : Nat) : (s.undef a n).ddr = s.ddr := rfl
@[simp] theorem undef_ora (s : State) (a n : Nat) : (s.undef a n).ora = s.ora := rfl
@[simp] theorem undef_chans (s : State) (a n : Nat) : (s.undef a n).chans = s.chans := rfl
@[simp] theorem undef_rings (s : State) (a n : Nat) : (s.undef a n).rings = s.rings := rfl
@[simp] theorem undef_check (s : State) (a n : Nat) : (s.undef a n).check = s.check := rfl
@[simp] theorem undef_cores (s : State) (a n : Nat) : (s.undef a n).cores = s.cores := rfl
@[simp] theorem undef_seqs (s : State) (a n : Nat) : (s.undef a n).seqs = s.seqs := rfl
@[simp] theorem undef_images (s : State) (a n : Nat) : (s.undef a n).images = s.images := rfl
@[simp] theorem undef_coll (s : State) (a n : Nat) : (s.undef a n).coll = s.coll := rfl
@[simp] theorem undef_disp (s : State) (a n : Nat) : (s.undef a n).disp = s.disp := rfl
@[simp] theorem undef_pfg (s : State) (a n : Nat) : (s.undef a n).pfg = s.pfg := rfl
@[simp] theorem undef_fw (s : State) (a n : Nat) : (s.undef a n).fw = s.fw := rfl
@[simp] theorem undef_cams (s : State) (a n : Nat) : (s.undef a n).cams = s.cams := rfl
@[simp] theorem undef_params (s : State) (a n : Nat) : (s.undef a n).params = s.params := rfl
@[simp] theorem undef_vdec (s : State) (a n : Nat) : (s.undef a n).vdec = s.vdec := rfl
@[simp] theorem undef_venc (s : State) (a n : Nat) : (s.undef a n).venc = s.venc := rfl
@[simp] theorem undef_jpeg (s : State) (a n : Nat) : (s.undef a n).jpeg = s.jpeg := rfl
@[simp] theorem undef_spl (s : State) (a n : Nat) : (s.undef a n).spl = s.spl := rfl
@[simp] theorem undef_splJob (s : State) (a n : Nat) : (s.undef a n).splJob = s.splJob := rfl
@[simp] theorem undef_splLast (s : State) (a n : Nat) : (s.undef a n).splLast = s.splLast := rfl
@[simp] theorem undef_vdecLast (s : State) (a n : Nat) : (s.undef a n).vdecLast = s.vdecLast := rfl
@[simp] theorem undef_gate (s : State) (a n : Nat) : (s.undef a n).gate = s.gate := rfl
@[simp] theorem undef_pins (s : State) (a n : Nat) : (s.undef a n).pins = s.pins := rfl
@[simp] theorem undef_app (s : State) (a n : Nat) : (s.undef a n).app = s.app := rfl
@[simp] theorem undef_tap (s : State) (a n : Nat) : (s.undef a n).tap = s.tap := rfl
@[simp] theorem undef_seq (s : State) (a n : Nat) : (s.undef a n).seq = s.seq := rfl
@[simp] theorem undef_resp (s : State) (a n : Nat) : (s.undef a n).resp = s.resp := rfl
@[simp] theorem undef_pending (s : State) (a n : Nat) : (s.undef a n).pending = s.pending := rfl

/-! ### setChan -/

@[simp] theorem setChan_part (s : State) (c : Nat) (x : Chan) : (s.setChan c x).part = s.part := rfl
@[simp] theorem setChan_hostSel (s : State) (c : Nat) (x : Chan) : (s.setChan c x).hostSel = s.hostSel := rfl
@[simp] theorem setChan_belvSec (s : State) (c : Nat) (x : Chan) : (s.setChan c x).belvSec = s.belvSec := rfl
@[simp] theorem setChan_regs (s : State) (c : Nat) (x : Chan) : (s.setChan c x).regs = s.regs := rfl
@[simp] theorem setChan_mem (s : State) (c : Nat) (x : Chan) : (s.setChan c x).mem = s.mem := rfl
@[simp] theorem setChan_jobs (s : State) (c : Nat) (x : Chan) : (s.setChan c x).jobs = s.jobs := rfl
@[simp] theorem setChan_held (s : State) (c : Nat) (x : Chan) : (s.setChan c x).held = s.held := rfl
@[simp] theorem setChan_keys (s : State) (c : Nat) (x : Chan) : (s.setChan c x).keys = s.keys := rfl
@[simp] theorem setChan_time (s : State) (c : Nat) (x : Chan) : (s.setChan c x).time = s.time := rfl
@[simp] theorem setChan_latches (s : State) (c : Nat) (x : Chan) : (s.setChan c x).latches = s.latches := rfl
@[simp] theorem setChan_port (s : State) (c : Nat) (x : Chan) : (s.setChan c x).port = s.port := rfl
@[simp] theorem setChan_power (s : State) (c : Nat) (x : Chan) : (s.setChan c x).power = s.power := rfl
@[simp] theorem setChan_ddr (s : State) (c : Nat) (x : Chan) : (s.setChan c x).ddr = s.ddr := rfl
@[simp] theorem setChan_ora (s : State) (c : Nat) (x : Chan) : (s.setChan c x).ora = s.ora := rfl
@[simp] theorem setChan_rings (s : State) (c : Nat) (x : Chan) : (s.setChan c x).rings = s.rings := rfl
@[simp] theorem setChan_check (s : State) (c : Nat) (x : Chan) : (s.setChan c x).check = s.check := rfl
@[simp] theorem setChan_cores (s : State) (c : Nat) (x : Chan) : (s.setChan c x).cores = s.cores := rfl
@[simp] theorem setChan_seqs (s : State) (c : Nat) (x : Chan) : (s.setChan c x).seqs = s.seqs := rfl
@[simp] theorem setChan_images (s : State) (c : Nat) (x : Chan) : (s.setChan c x).images = s.images := rfl
@[simp] theorem setChan_coll (s : State) (c : Nat) (x : Chan) : (s.setChan c x).coll = s.coll := rfl
@[simp] theorem setChan_disp (s : State) (c : Nat) (x : Chan) : (s.setChan c x).disp = s.disp := rfl
@[simp] theorem setChan_pfg (s : State) (c : Nat) (x : Chan) : (s.setChan c x).pfg = s.pfg := rfl
@[simp] theorem setChan_fw (s : State) (c : Nat) (x : Chan) : (s.setChan c x).fw = s.fw := rfl
@[simp] theorem setChan_cams (s : State) (c : Nat) (x : Chan) : (s.setChan c x).cams = s.cams := rfl
@[simp] theorem setChan_params (s : State) (c : Nat) (x : Chan) : (s.setChan c x).params = s.params := rfl
@[simp] theorem setChan_vdec (s : State) (c : Nat) (x : Chan) : (s.setChan c x).vdec = s.vdec := rfl
@[simp] theorem setChan_venc (s : State) (c : Nat) (x : Chan) : (s.setChan c x).venc = s.venc := rfl
@[simp] theorem setChan_jpeg (s : State) (c : Nat) (x : Chan) : (s.setChan c x).jpeg = s.jpeg := rfl
@[simp] theorem setChan_spl (s : State) (c : Nat) (x : Chan) : (s.setChan c x).spl = s.spl := rfl
@[simp] theorem setChan_splJob (s : State) (c : Nat) (x : Chan) : (s.setChan c x).splJob = s.splJob := rfl
@[simp] theorem setChan_splLast (s : State) (c : Nat) (x : Chan) : (s.setChan c x).splLast = s.splLast := rfl
@[simp] theorem setChan_vdecLast (s : State) (c : Nat) (x : Chan) : (s.setChan c x).vdecLast = s.vdecLast := rfl
@[simp] theorem setChan_gate (s : State) (c : Nat) (x : Chan) : (s.setChan c x).gate = s.gate := rfl
@[simp] theorem setChan_pins (s : State) (c : Nat) (x : Chan) : (s.setChan c x).pins = s.pins := rfl
@[simp] theorem setChan_app (s : State) (c : Nat) (x : Chan) : (s.setChan c x).app = s.app := rfl
@[simp] theorem setChan_tap (s : State) (c : Nat) (x : Chan) : (s.setChan c x).tap = s.tap := rfl
@[simp] theorem setChan_seq (s : State) (c : Nat) (x : Chan) : (s.setChan c x).seq = s.seq := rfl
@[simp] theorem setChan_resp (s : State) (c : Nat) (x : Chan) : (s.setChan c x).resp = s.resp := rfl
@[simp] theorem setChan_pending (s : State) (c : Nat) (x : Chan) : (s.setChan c x).pending = s.pending := rfl

/-! ### setRing -/

@[simp] theorem setRing_part (s : State) (q : Nat) (x : RingSt) : (s.setRing q x).part = s.part := rfl
@[simp] theorem setRing_hostSel (s : State) (q : Nat) (x : RingSt) : (s.setRing q x).hostSel = s.hostSel := rfl
@[simp] theorem setRing_belvSec (s : State) (q : Nat) (x : RingSt) : (s.setRing q x).belvSec = s.belvSec := rfl
@[simp] theorem setRing_regs (s : State) (q : Nat) (x : RingSt) : (s.setRing q x).regs = s.regs := rfl
@[simp] theorem setRing_mem (s : State) (q : Nat) (x : RingSt) : (s.setRing q x).mem = s.mem := rfl
@[simp] theorem setRing_jobs (s : State) (q : Nat) (x : RingSt) : (s.setRing q x).jobs = s.jobs := rfl
@[simp] theorem setRing_held (s : State) (q : Nat) (x : RingSt) : (s.setRing q x).held = s.held := rfl
@[simp] theorem setRing_keys (s : State) (q : Nat) (x : RingSt) : (s.setRing q x).keys = s.keys := rfl
@[simp] theorem setRing_time (s : State) (q : Nat) (x : RingSt) : (s.setRing q x).time = s.time := rfl
@[simp] theorem setRing_latches (s : State) (q : Nat) (x : RingSt) : (s.setRing q x).latches = s.latches := rfl
@[simp] theorem setRing_port (s : State) (q : Nat) (x : RingSt) : (s.setRing q x).port = s.port := rfl
@[simp] theorem setRing_power (s : State) (q : Nat) (x : RingSt) : (s.setRing q x).power = s.power := rfl
@[simp] theorem setRing_ddr (s : State) (q : Nat) (x : RingSt) : (s.setRing q x).ddr = s.ddr := rfl
@[simp] theorem setRing_ora (s : State) (q : Nat) (x : RingSt) : (s.setRing q x).ora = s.ora := rfl
@[simp] theorem setRing_chans (s : State) (q : Nat) (x : RingSt) : (s.setRing q x).chans = s.chans := rfl
@[simp] theorem setRing_check (s : State) (q : Nat) (x : RingSt) : (s.setRing q x).check = s.check := rfl
@[simp] theorem setRing_cores (s : State) (q : Nat) (x : RingSt) : (s.setRing q x).cores = s.cores := rfl
@[simp] theorem setRing_seqs (s : State) (q : Nat) (x : RingSt) : (s.setRing q x).seqs = s.seqs := rfl
@[simp] theorem setRing_images (s : State) (q : Nat) (x : RingSt) : (s.setRing q x).images = s.images := rfl
@[simp] theorem setRing_coll (s : State) (q : Nat) (x : RingSt) : (s.setRing q x).coll = s.coll := rfl
@[simp] theorem setRing_disp (s : State) (q : Nat) (x : RingSt) : (s.setRing q x).disp = s.disp := rfl
@[simp] theorem setRing_pfg (s : State) (q : Nat) (x : RingSt) : (s.setRing q x).pfg = s.pfg := rfl
@[simp] theorem setRing_fw (s : State) (q : Nat) (x : RingSt) : (s.setRing q x).fw = s.fw := rfl
@[simp] theorem setRing_cams (s : State) (q : Nat) (x : RingSt) : (s.setRing q x).cams = s.cams := rfl
@[simp] theorem setRing_params (s : State) (q : Nat) (x : RingSt) : (s.setRing q x).params = s.params := rfl
@[simp] theorem setRing_vdec (s : State) (q : Nat) (x : RingSt) : (s.setRing q x).vdec = s.vdec := rfl
@[simp] theorem setRing_venc (s : State) (q : Nat) (x : RingSt) : (s.setRing q x).venc = s.venc := rfl
@[simp] theorem setRing_jpeg (s : State) (q : Nat) (x : RingSt) : (s.setRing q x).jpeg = s.jpeg := rfl
@[simp] theorem setRing_spl (s : State) (q : Nat) (x : RingSt) : (s.setRing q x).spl = s.spl := rfl
@[simp] theorem setRing_splJob (s : State) (q : Nat) (x : RingSt) : (s.setRing q x).splJob = s.splJob := rfl
@[simp] theorem setRing_splLast (s : State) (q : Nat) (x : RingSt) : (s.setRing q x).splLast = s.splLast := rfl
@[simp] theorem setRing_vdecLast (s : State) (q : Nat) (x : RingSt) : (s.setRing q x).vdecLast = s.vdecLast := rfl
@[simp] theorem setRing_gate (s : State) (q : Nat) (x : RingSt) : (s.setRing q x).gate = s.gate := rfl
@[simp] theorem setRing_pins (s : State) (q : Nat) (x : RingSt) : (s.setRing q x).pins = s.pins := rfl
@[simp] theorem setRing_app (s : State) (q : Nat) (x : RingSt) : (s.setRing q x).app = s.app := rfl
@[simp] theorem setRing_tap (s : State) (q : Nat) (x : RingSt) : (s.setRing q x).tap = s.tap := rfl
@[simp] theorem setRing_seq (s : State) (q : Nat) (x : RingSt) : (s.setRing q x).seq = s.seq := rfl
@[simp] theorem setRing_resp (s : State) (q : Nat) (x : RingSt) : (s.setRing q x).resp = s.resp := rfl
@[simp] theorem setRing_pending (s : State) (q : Nat) (x : RingSt) : (s.setRing q x).pending = s.pending := rfl

/-! ### setCore -/

@[simp] theorem setCore_part (s : State) (n : Nat) (x : CoreSt) : (s.setCore n x).part = s.part := rfl
@[simp] theorem setCore_hostSel (s : State) (n : Nat) (x : CoreSt) : (s.setCore n x).hostSel = s.hostSel := rfl
@[simp] theorem setCore_belvSec (s : State) (n : Nat) (x : CoreSt) : (s.setCore n x).belvSec = s.belvSec := rfl
@[simp] theorem setCore_regs (s : State) (n : Nat) (x : CoreSt) : (s.setCore n x).regs = s.regs := rfl
@[simp] theorem setCore_mem (s : State) (n : Nat) (x : CoreSt) : (s.setCore n x).mem = s.mem := rfl
@[simp] theorem setCore_jobs (s : State) (n : Nat) (x : CoreSt) : (s.setCore n x).jobs = s.jobs := rfl
@[simp] theorem setCore_held (s : State) (n : Nat) (x : CoreSt) : (s.setCore n x).held = s.held := rfl
@[simp] theorem setCore_keys (s : State) (n : Nat) (x : CoreSt) : (s.setCore n x).keys = s.keys := rfl
@[simp] theorem setCore_time (s : State) (n : Nat) (x : CoreSt) : (s.setCore n x).time = s.time := rfl
@[simp] theorem setCore_latches (s : State) (n : Nat) (x : CoreSt) : (s.setCore n x).latches = s.latches := rfl
@[simp] theorem setCore_port (s : State) (n : Nat) (x : CoreSt) : (s.setCore n x).port = s.port := rfl
@[simp] theorem setCore_power (s : State) (n : Nat) (x : CoreSt) : (s.setCore n x).power = s.power := rfl
@[simp] theorem setCore_ddr (s : State) (n : Nat) (x : CoreSt) : (s.setCore n x).ddr = s.ddr := rfl
@[simp] theorem setCore_ora (s : State) (n : Nat) (x : CoreSt) : (s.setCore n x).ora = s.ora := rfl
@[simp] theorem setCore_chans (s : State) (n : Nat) (x : CoreSt) : (s.setCore n x).chans = s.chans := rfl
@[simp] theorem setCore_rings (s : State) (n : Nat) (x : CoreSt) : (s.setCore n x).rings = s.rings := rfl
@[simp] theorem setCore_check (s : State) (n : Nat) (x : CoreSt) : (s.setCore n x).check = s.check := rfl
@[simp] theorem setCore_seqs (s : State) (n : Nat) (x : CoreSt) : (s.setCore n x).seqs = s.seqs := rfl
@[simp] theorem setCore_images (s : State) (n : Nat) (x : CoreSt) : (s.setCore n x).images = s.images := rfl
@[simp] theorem setCore_coll (s : State) (n : Nat) (x : CoreSt) : (s.setCore n x).coll = s.coll := rfl
@[simp] theorem setCore_disp (s : State) (n : Nat) (x : CoreSt) : (s.setCore n x).disp = s.disp := rfl
@[simp] theorem setCore_pfg (s : State) (n : Nat) (x : CoreSt) : (s.setCore n x).pfg = s.pfg := rfl
@[simp] theorem setCore_fw (s : State) (n : Nat) (x : CoreSt) : (s.setCore n x).fw = s.fw := rfl
@[simp] theorem setCore_cams (s : State) (n : Nat) (x : CoreSt) : (s.setCore n x).cams = s.cams := rfl
@[simp] theorem setCore_params (s : State) (n : Nat) (x : CoreSt) : (s.setCore n x).params = s.params := rfl
@[simp] theorem setCore_vdec (s : State) (n : Nat) (x : CoreSt) : (s.setCore n x).vdec = s.vdec := rfl
@[simp] theorem setCore_venc (s : State) (n : Nat) (x : CoreSt) : (s.setCore n x).venc = s.venc := rfl
@[simp] theorem setCore_jpeg (s : State) (n : Nat) (x : CoreSt) : (s.setCore n x).jpeg = s.jpeg := rfl
@[simp] theorem setCore_spl (s : State) (n : Nat) (x : CoreSt) : (s.setCore n x).spl = s.spl := rfl
@[simp] theorem setCore_splJob (s : State) (n : Nat) (x : CoreSt) : (s.setCore n x).splJob = s.splJob := rfl
@[simp] theorem setCore_splLast (s : State) (n : Nat) (x : CoreSt) : (s.setCore n x).splLast = s.splLast := rfl
@[simp] theorem setCore_vdecLast (s : State) (n : Nat) (x : CoreSt) : (s.setCore n x).vdecLast = s.vdecLast := rfl
@[simp] theorem setCore_gate (s : State) (n : Nat) (x : CoreSt) : (s.setCore n x).gate = s.gate := rfl
@[simp] theorem setCore_pins (s : State) (n : Nat) (x : CoreSt) : (s.setCore n x).pins = s.pins := rfl
@[simp] theorem setCore_app (s : State) (n : Nat) (x : CoreSt) : (s.setCore n x).app = s.app := rfl
@[simp] theorem setCore_tap (s : State) (n : Nat) (x : CoreSt) : (s.setCore n x).tap = s.tap := rfl
@[simp] theorem setCore_seq (s : State) (n : Nat) (x : CoreSt) : (s.setCore n x).seq = s.seq := rfl
@[simp] theorem setCore_resp (s : State) (n : Nat) (x : CoreSt) : (s.setCore n x).resp = s.resp := rfl
@[simp] theorem setCore_pending (s : State) (n : Nat) (x : CoreSt) : (s.setCore n x).pending = s.pending := rfl

/-! ### setCseq -/

@[simp] theorem setCseq_part (s : State) (k : Nat) (x : SeqSt) : (s.setCseq k x).part = s.part := rfl
@[simp] theorem setCseq_hostSel (s : State) (k : Nat) (x : SeqSt) : (s.setCseq k x).hostSel = s.hostSel := rfl
@[simp] theorem setCseq_belvSec (s : State) (k : Nat) (x : SeqSt) : (s.setCseq k x).belvSec = s.belvSec := rfl
@[simp] theorem setCseq_regs (s : State) (k : Nat) (x : SeqSt) : (s.setCseq k x).regs = s.regs := rfl
@[simp] theorem setCseq_mem (s : State) (k : Nat) (x : SeqSt) : (s.setCseq k x).mem = s.mem := rfl
@[simp] theorem setCseq_jobs (s : State) (k : Nat) (x : SeqSt) : (s.setCseq k x).jobs = s.jobs := rfl
@[simp] theorem setCseq_held (s : State) (k : Nat) (x : SeqSt) : (s.setCseq k x).held = s.held := rfl
@[simp] theorem setCseq_keys (s : State) (k : Nat) (x : SeqSt) : (s.setCseq k x).keys = s.keys := rfl
@[simp] theorem setCseq_time (s : State) (k : Nat) (x : SeqSt) : (s.setCseq k x).time = s.time := rfl
@[simp] theorem setCseq_latches (s : State) (k : Nat) (x : SeqSt) : (s.setCseq k x).latches = s.latches := rfl
@[simp] theorem setCseq_port (s : State) (k : Nat) (x : SeqSt) : (s.setCseq k x).port = s.port := rfl
@[simp] theorem setCseq_power (s : State) (k : Nat) (x : SeqSt) : (s.setCseq k x).power = s.power := rfl
@[simp] theorem setCseq_ddr (s : State) (k : Nat) (x : SeqSt) : (s.setCseq k x).ddr = s.ddr := rfl
@[simp] theorem setCseq_ora (s : State) (k : Nat) (x : SeqSt) : (s.setCseq k x).ora = s.ora := rfl
@[simp] theorem setCseq_chans (s : State) (k : Nat) (x : SeqSt) : (s.setCseq k x).chans = s.chans := rfl
@[simp] theorem setCseq_rings (s : State) (k : Nat) (x : SeqSt) : (s.setCseq k x).rings = s.rings := rfl
@[simp] theorem setCseq_check (s : State) (k : Nat) (x : SeqSt) : (s.setCseq k x).check = s.check := rfl
@[simp] theorem setCseq_cores (s : State) (k : Nat) (x : SeqSt) : (s.setCseq k x).cores = s.cores := rfl
@[simp] theorem setCseq_images (s : State) (k : Nat) (x : SeqSt) : (s.setCseq k x).images = s.images := rfl
@[simp] theorem setCseq_coll (s : State) (k : Nat) (x : SeqSt) : (s.setCseq k x).coll = s.coll := rfl
@[simp] theorem setCseq_disp (s : State) (k : Nat) (x : SeqSt) : (s.setCseq k x).disp = s.disp := rfl
@[simp] theorem setCseq_pfg (s : State) (k : Nat) (x : SeqSt) : (s.setCseq k x).pfg = s.pfg := rfl
@[simp] theorem setCseq_fw (s : State) (k : Nat) (x : SeqSt) : (s.setCseq k x).fw = s.fw := rfl
@[simp] theorem setCseq_cams (s : State) (k : Nat) (x : SeqSt) : (s.setCseq k x).cams = s.cams := rfl
@[simp] theorem setCseq_params (s : State) (k : Nat) (x : SeqSt) : (s.setCseq k x).params = s.params := rfl
@[simp] theorem setCseq_vdec (s : State) (k : Nat) (x : SeqSt) : (s.setCseq k x).vdec = s.vdec := rfl
@[simp] theorem setCseq_venc (s : State) (k : Nat) (x : SeqSt) : (s.setCseq k x).venc = s.venc := rfl
@[simp] theorem setCseq_jpeg (s : State) (k : Nat) (x : SeqSt) : (s.setCseq k x).jpeg = s.jpeg := rfl
@[simp] theorem setCseq_spl (s : State) (k : Nat) (x : SeqSt) : (s.setCseq k x).spl = s.spl := rfl
@[simp] theorem setCseq_splJob (s : State) (k : Nat) (x : SeqSt) : (s.setCseq k x).splJob = s.splJob := rfl
@[simp] theorem setCseq_splLast (s : State) (k : Nat) (x : SeqSt) : (s.setCseq k x).splLast = s.splLast := rfl
@[simp] theorem setCseq_vdecLast (s : State) (k : Nat) (x : SeqSt) : (s.setCseq k x).vdecLast = s.vdecLast := rfl
@[simp] theorem setCseq_gate (s : State) (k : Nat) (x : SeqSt) : (s.setCseq k x).gate = s.gate := rfl
@[simp] theorem setCseq_pins (s : State) (k : Nat) (x : SeqSt) : (s.setCseq k x).pins = s.pins := rfl
@[simp] theorem setCseq_app (s : State) (k : Nat) (x : SeqSt) : (s.setCseq k x).app = s.app := rfl
@[simp] theorem setCseq_tap (s : State) (k : Nat) (x : SeqSt) : (s.setCseq k x).tap = s.tap := rfl
@[simp] theorem setCseq_seq (s : State) (k : Nat) (x : SeqSt) : (s.setCseq k x).seq = s.seq := rfl
@[simp] theorem setCseq_resp (s : State) (k : Nat) (x : SeqSt) : (s.setCseq k x).resp = s.resp := rfl
@[simp] theorem setCseq_pending (s : State) (k : Nat) (x : SeqSt) : (s.setCseq k x).pending = s.pending := rfl

/-! ### setPair -/

@[simp] theorem setPair_part (s : State) (p : Nat) (x : PairSt) : (s.setPair p x).part = s.part := rfl
@[simp] theorem setPair_hostSel (s : State) (p : Nat) (x : PairSt) : (s.setPair p x).hostSel = s.hostSel := rfl
@[simp] theorem setPair_belvSec (s : State) (p : Nat) (x : PairSt) : (s.setPair p x).belvSec = s.belvSec := rfl
@[simp] theorem setPair_regs (s : State) (p : Nat) (x : PairSt) : (s.setPair p x).regs = s.regs := rfl
@[simp] theorem setPair_mem (s : State) (p : Nat) (x : PairSt) : (s.setPair p x).mem = s.mem := rfl
@[simp] theorem setPair_jobs (s : State) (p : Nat) (x : PairSt) : (s.setPair p x).jobs = s.jobs := rfl
@[simp] theorem setPair_held (s : State) (p : Nat) (x : PairSt) : (s.setPair p x).held = s.held := rfl
@[simp] theorem setPair_keys (s : State) (p : Nat) (x : PairSt) : (s.setPair p x).keys = s.keys := rfl
@[simp] theorem setPair_time (s : State) (p : Nat) (x : PairSt) : (s.setPair p x).time = s.time := rfl
@[simp] theorem setPair_latches (s : State) (p : Nat) (x : PairSt) : (s.setPair p x).latches = s.latches := rfl
@[simp] theorem setPair_port (s : State) (p : Nat) (x : PairSt) : (s.setPair p x).port = s.port := rfl
@[simp] theorem setPair_power (s : State) (p : Nat) (x : PairSt) : (s.setPair p x).power = s.power := rfl
@[simp] theorem setPair_ddr (s : State) (p : Nat) (x : PairSt) : (s.setPair p x).ddr = s.ddr := rfl
@[simp] theorem setPair_ora (s : State) (p : Nat) (x : PairSt) : (s.setPair p x).ora = s.ora := rfl
@[simp] theorem setPair_chans (s : State) (p : Nat) (x : PairSt) : (s.setPair p x).chans = s.chans := rfl
@[simp] theorem setPair_rings (s : State) (p : Nat) (x : PairSt) : (s.setPair p x).rings = s.rings := rfl
@[simp] theorem setPair_cores (s : State) (p : Nat) (x : PairSt) : (s.setPair p x).cores = s.cores := rfl
@[simp] theorem setPair_seqs (s : State) (p : Nat) (x : PairSt) : (s.setPair p x).seqs = s.seqs := rfl
@[simp] theorem setPair_images (s : State) (p : Nat) (x : PairSt) : (s.setPair p x).images = s.images := rfl
@[simp] theorem setPair_coll (s : State) (p : Nat) (x : PairSt) : (s.setPair p x).coll = s.coll := rfl
@[simp] theorem setPair_disp (s : State) (p : Nat) (x : PairSt) : (s.setPair p x).disp = s.disp := rfl
@[simp] theorem setPair_pfg (s : State) (p : Nat) (x : PairSt) : (s.setPair p x).pfg = s.pfg := rfl
@[simp] theorem setPair_fw (s : State) (p : Nat) (x : PairSt) : (s.setPair p x).fw = s.fw := rfl
@[simp] theorem setPair_cams (s : State) (p : Nat) (x : PairSt) : (s.setPair p x).cams = s.cams := rfl
@[simp] theorem setPair_params (s : State) (p : Nat) (x : PairSt) : (s.setPair p x).params = s.params := rfl
@[simp] theorem setPair_vdec (s : State) (p : Nat) (x : PairSt) : (s.setPair p x).vdec = s.vdec := rfl
@[simp] theorem setPair_venc (s : State) (p : Nat) (x : PairSt) : (s.setPair p x).venc = s.venc := rfl
@[simp] theorem setPair_jpeg (s : State) (p : Nat) (x : PairSt) : (s.setPair p x).jpeg = s.jpeg := rfl
@[simp] theorem setPair_spl (s : State) (p : Nat) (x : PairSt) : (s.setPair p x).spl = s.spl := rfl
@[simp] theorem setPair_splJob (s : State) (p : Nat) (x : PairSt) : (s.setPair p x).splJob = s.splJob := rfl
@[simp] theorem setPair_splLast (s : State) (p : Nat) (x : PairSt) : (s.setPair p x).splLast = s.splLast := rfl
@[simp] theorem setPair_vdecLast (s : State) (p : Nat) (x : PairSt) : (s.setPair p x).vdecLast = s.vdecLast := rfl
@[simp] theorem setPair_gate (s : State) (p : Nat) (x : PairSt) : (s.setPair p x).gate = s.gate := rfl
@[simp] theorem setPair_pins (s : State) (p : Nat) (x : PairSt) : (s.setPair p x).pins = s.pins := rfl
@[simp] theorem setPair_app (s : State) (p : Nat) (x : PairSt) : (s.setPair p x).app = s.app := rfl
@[simp] theorem setPair_tap (s : State) (p : Nat) (x : PairSt) : (s.setPair p x).tap = s.tap := rfl
@[simp] theorem setPair_seq (s : State) (p : Nat) (x : PairSt) : (s.setPair p x).seq = s.seq := rfl
@[simp] theorem setPair_resp (s : State) (p : Nat) (x : PairSt) : (s.setPair p x).resp = s.resp := rfl
@[simp] theorem setPair_pending (s : State) (p : Nat) (x : PairSt) : (s.setPair p x).pending = s.pending := rfl

/-! ### setComp -/

@[simp] theorem setComp_part (s : State) (c : Nat) (x : Comp) : (s.setComp c x).part = s.part := rfl
@[simp] theorem setComp_hostSel (s : State) (c : Nat) (x : Comp) : (s.setComp c x).hostSel = s.hostSel := rfl
@[simp] theorem setComp_belvSec (s : State) (c : Nat) (x : Comp) : (s.setComp c x).belvSec = s.belvSec := rfl
@[simp] theorem setComp_regs (s : State) (c : Nat) (x : Comp) : (s.setComp c x).regs = s.regs := rfl
@[simp] theorem setComp_mem (s : State) (c : Nat) (x : Comp) : (s.setComp c x).mem = s.mem := rfl
@[simp] theorem setComp_jobs (s : State) (c : Nat) (x : Comp) : (s.setComp c x).jobs = s.jobs := rfl
@[simp] theorem setComp_held (s : State) (c : Nat) (x : Comp) : (s.setComp c x).held = s.held := rfl
@[simp] theorem setComp_keys (s : State) (c : Nat) (x : Comp) : (s.setComp c x).keys = s.keys := rfl
@[simp] theorem setComp_time (s : State) (c : Nat) (x : Comp) : (s.setComp c x).time = s.time := rfl
@[simp] theorem setComp_latches (s : State) (c : Nat) (x : Comp) : (s.setComp c x).latches = s.latches := rfl
@[simp] theorem setComp_port (s : State) (c : Nat) (x : Comp) : (s.setComp c x).port = s.port := rfl
@[simp] theorem setComp_power (s : State) (c : Nat) (x : Comp) : (s.setComp c x).power = s.power := rfl
@[simp] theorem setComp_ddr (s : State) (c : Nat) (x : Comp) : (s.setComp c x).ddr = s.ddr := rfl
@[simp] theorem setComp_ora (s : State) (c : Nat) (x : Comp) : (s.setComp c x).ora = s.ora := rfl
@[simp] theorem setComp_chans (s : State) (c : Nat) (x : Comp) : (s.setComp c x).chans = s.chans := rfl
@[simp] theorem setComp_rings (s : State) (c : Nat) (x : Comp) : (s.setComp c x).rings = s.rings := rfl
@[simp] theorem setComp_check (s : State) (c : Nat) (x : Comp) : (s.setComp c x).check = s.check := rfl
@[simp] theorem setComp_cores (s : State) (c : Nat) (x : Comp) : (s.setComp c x).cores = s.cores := rfl
@[simp] theorem setComp_seqs (s : State) (c : Nat) (x : Comp) : (s.setComp c x).seqs = s.seqs := rfl
@[simp] theorem setComp_images (s : State) (c : Nat) (x : Comp) : (s.setComp c x).images = s.images := rfl
@[simp] theorem setComp_coll (s : State) (c : Nat) (x : Comp) : (s.setComp c x).coll = s.coll := rfl
@[simp] theorem setComp_disp (s : State) (c : Nat) (x : Comp) : (s.setComp c x).disp = s.disp := rfl
@[simp] theorem setComp_pfg (s : State) (c : Nat) (x : Comp) : (s.setComp c x).pfg = s.pfg := rfl
@[simp] theorem setComp_cams (s : State) (c : Nat) (x : Comp) : (s.setComp c x).cams = s.cams := rfl
@[simp] theorem setComp_params (s : State) (c : Nat) (x : Comp) : (s.setComp c x).params = s.params := rfl
@[simp] theorem setComp_vdec (s : State) (c : Nat) (x : Comp) : (s.setComp c x).vdec = s.vdec := rfl
@[simp] theorem setComp_venc (s : State) (c : Nat) (x : Comp) : (s.setComp c x).venc = s.venc := rfl
@[simp] theorem setComp_jpeg (s : State) (c : Nat) (x : Comp) : (s.setComp c x).jpeg = s.jpeg := rfl
@[simp] theorem setComp_spl (s : State) (c : Nat) (x : Comp) : (s.setComp c x).spl = s.spl := rfl
@[simp] theorem setComp_splJob (s : State) (c : Nat) (x : Comp) : (s.setComp c x).splJob = s.splJob := rfl
@[simp] theorem setComp_splLast (s : State) (c : Nat) (x : Comp) : (s.setComp c x).splLast = s.splLast := rfl
@[simp] theorem setComp_vdecLast (s : State) (c : Nat) (x : Comp) : (s.setComp c x).vdecLast = s.vdecLast := rfl
@[simp] theorem setComp_gate (s : State) (c : Nat) (x : Comp) : (s.setComp c x).gate = s.gate := rfl
@[simp] theorem setComp_pins (s : State) (c : Nat) (x : Comp) : (s.setComp c x).pins = s.pins := rfl
@[simp] theorem setComp_app (s : State) (c : Nat) (x : Comp) : (s.setComp c x).app = s.app := rfl
@[simp] theorem setComp_tap (s : State) (c : Nat) (x : Comp) : (s.setComp c x).tap = s.tap := rfl
@[simp] theorem setComp_seq (s : State) (c : Nat) (x : Comp) : (s.setComp c x).seq = s.seq := rfl
@[simp] theorem setComp_resp (s : State) (c : Nat) (x : Comp) : (s.setComp c x).resp = s.resp := rfl
@[simp] theorem setComp_pending (s : State) (c : Nat) (x : Comp) : (s.setComp c x).pending = s.pending := rfl

/-! ### answer -/

@[simp] theorem answer_part (s : State) (l : List Word) : (s.answer l).part = s.part := rfl
@[simp] theorem answer_hostSel (s : State) (l : List Word) : (s.answer l).hostSel = s.hostSel := rfl
@[simp] theorem answer_belvSec (s : State) (l : List Word) : (s.answer l).belvSec = s.belvSec := rfl
@[simp] theorem answer_regs (s : State) (l : List Word) : (s.answer l).regs = s.regs := rfl
@[simp] theorem answer_mem (s : State) (l : List Word) : (s.answer l).mem = s.mem := rfl
@[simp] theorem answer_jobs (s : State) (l : List Word) : (s.answer l).jobs = s.jobs := rfl
@[simp] theorem answer_held (s : State) (l : List Word) : (s.answer l).held = s.held := rfl
@[simp] theorem answer_keys (s : State) (l : List Word) : (s.answer l).keys = s.keys := rfl
@[simp] theorem answer_time (s : State) (l : List Word) : (s.answer l).time = s.time := rfl
@[simp] theorem answer_latches (s : State) (l : List Word) : (s.answer l).latches = s.latches := rfl
@[simp] theorem answer_port (s : State) (l : List Word) : (s.answer l).port = s.port := rfl
@[simp] theorem answer_power (s : State) (l : List Word) : (s.answer l).power = s.power := rfl
@[simp] theorem answer_ddr (s : State) (l : List Word) : (s.answer l).ddr = s.ddr := rfl
@[simp] theorem answer_ora (s : State) (l : List Word) : (s.answer l).ora = s.ora := rfl
@[simp] theorem answer_chans (s : State) (l : List Word) : (s.answer l).chans = s.chans := rfl
@[simp] theorem answer_rings (s : State) (l : List Word) : (s.answer l).rings = s.rings := rfl
@[simp] theorem answer_check (s : State) (l : List Word) : (s.answer l).check = s.check := rfl
@[simp] theorem answer_cores (s : State) (l : List Word) : (s.answer l).cores = s.cores := rfl
@[simp] theorem answer_seqs (s : State) (l : List Word) : (s.answer l).seqs = s.seqs := rfl
@[simp] theorem answer_images (s : State) (l : List Word) : (s.answer l).images = s.images := rfl
@[simp] theorem answer_coll (s : State) (l : List Word) : (s.answer l).coll = s.coll := rfl
@[simp] theorem answer_disp (s : State) (l : List Word) : (s.answer l).disp = s.disp := rfl
@[simp] theorem answer_pfg (s : State) (l : List Word) : (s.answer l).pfg = s.pfg := rfl
@[simp] theorem answer_fw (s : State) (l : List Word) : (s.answer l).fw = s.fw := rfl
@[simp] theorem answer_cams (s : State) (l : List Word) : (s.answer l).cams = s.cams := rfl
@[simp] theorem answer_params (s : State) (l : List Word) : (s.answer l).params = s.params := rfl
@[simp] theorem answer_vdec (s : State) (l : List Word) : (s.answer l).vdec = s.vdec := rfl
@[simp] theorem answer_venc (s : State) (l : List Word) : (s.answer l).venc = s.venc := rfl
@[simp] theorem answer_jpeg (s : State) (l : List Word) : (s.answer l).jpeg = s.jpeg := rfl
@[simp] theorem answer_spl (s : State) (l : List Word) : (s.answer l).spl = s.spl := rfl
@[simp] theorem answer_splJob (s : State) (l : List Word) : (s.answer l).splJob = s.splJob := rfl
@[simp] theorem answer_splLast (s : State) (l : List Word) : (s.answer l).splLast = s.splLast := rfl
@[simp] theorem answer_vdecLast (s : State) (l : List Word) : (s.answer l).vdecLast = s.vdecLast := rfl
@[simp] theorem answer_gate (s : State) (l : List Word) : (s.answer l).gate = s.gate := rfl
@[simp] theorem answer_pins (s : State) (l : List Word) : (s.answer l).pins = s.pins := rfl
@[simp] theorem answer_app (s : State) (l : List Word) : (s.answer l).app = s.app := rfl
@[simp] theorem answer_tap (s : State) (l : List Word) : (s.answer l).tap = s.tap := rfl
@[simp] theorem answer_seq (s : State) (l : List Word) : (s.answer l).seq = s.seq := rfl
@[simp] theorem answer_pending (s : State) (l : List Word) : (s.answer l).pending = s.pending := rfl

/-! ### answerBytes -/

@[simp] theorem answerBytes_part (s : State) (l : List Byte) : (s.answerBytes l).part = s.part := rfl
@[simp] theorem answerBytes_hostSel (s : State) (l : List Byte) : (s.answerBytes l).hostSel = s.hostSel := rfl
@[simp] theorem answerBytes_belvSec (s : State) (l : List Byte) : (s.answerBytes l).belvSec = s.belvSec := rfl
@[simp] theorem answerBytes_regs (s : State) (l : List Byte) : (s.answerBytes l).regs = s.regs := rfl
@[simp] theorem answerBytes_mem (s : State) (l : List Byte) : (s.answerBytes l).mem = s.mem := rfl
@[simp] theorem answerBytes_jobs (s : State) (l : List Byte) : (s.answerBytes l).jobs = s.jobs := rfl
@[simp] theorem answerBytes_held (s : State) (l : List Byte) : (s.answerBytes l).held = s.held := rfl
@[simp] theorem answerBytes_keys (s : State) (l : List Byte) : (s.answerBytes l).keys = s.keys := rfl
@[simp] theorem answerBytes_time (s : State) (l : List Byte) : (s.answerBytes l).time = s.time := rfl
@[simp] theorem answerBytes_latches (s : State) (l : List Byte) : (s.answerBytes l).latches = s.latches := rfl
@[simp] theorem answerBytes_port (s : State) (l : List Byte) : (s.answerBytes l).port = s.port := rfl
@[simp] theorem answerBytes_power (s : State) (l : List Byte) : (s.answerBytes l).power = s.power := rfl
@[simp] theorem answerBytes_ddr (s : State) (l : List Byte) : (s.answerBytes l).ddr = s.ddr := rfl
@[simp] theorem answerBytes_ora (s : State) (l : List Byte) : (s.answerBytes l).ora = s.ora := rfl
@[simp] theorem answerBytes_chans (s : State) (l : List Byte) : (s.answerBytes l).chans = s.chans := rfl
@[simp] theorem answerBytes_rings (s : State) (l : List Byte) : (s.answerBytes l).rings = s.rings := rfl
@[simp] theorem answerBytes_check (s : State) (l : List Byte) : (s.answerBytes l).check = s.check := rfl
@[simp] theorem answerBytes_cores (s : State) (l : List Byte) : (s.answerBytes l).cores = s.cores := rfl
@[simp] theorem answerBytes_seqs (s : State) (l : List Byte) : (s.answerBytes l).seqs = s.seqs := rfl
@[simp] theorem answerBytes_images (s : State) (l : List Byte) : (s.answerBytes l).images = s.images := rfl
@[simp] theorem answerBytes_coll (s : State) (l : List Byte) : (s.answerBytes l).coll = s.coll := rfl
@[simp] theorem answerBytes_disp (s : State) (l : List Byte) : (s.answerBytes l).disp = s.disp := rfl
@[simp] theorem answerBytes_pfg (s : State) (l : List Byte) : (s.answerBytes l).pfg = s.pfg := rfl
@[simp] theorem answerBytes_fw (s : State) (l : List Byte) : (s.answerBytes l).fw = s.fw := rfl
@[simp] theorem answerBytes_cams (s : State) (l : List Byte) : (s.answerBytes l).cams = s.cams := rfl
@[simp] theorem answerBytes_params (s : State) (l : List Byte) : (s.answerBytes l).params = s.params := rfl
@[simp] theorem answerBytes_vdec (s : State) (l : List Byte) : (s.answerBytes l).vdec = s.vdec := rfl
@[simp] theorem answerBytes_venc (s : State) (l : List Byte) : (s.answerBytes l).venc = s.venc := rfl
@[simp] theorem answerBytes_jpeg (s : State) (l : List Byte) : (s.answerBytes l).jpeg = s.jpeg := rfl
@[simp] theorem answerBytes_spl (s : State) (l : List Byte) : (s.answerBytes l).spl = s.spl := rfl
@[simp] theorem answerBytes_splJob (s : State) (l : List Byte) : (s.answerBytes l).splJob = s.splJob := rfl
@[simp] theorem answerBytes_splLast (s : State) (l : List Byte) : (s.answerBytes l).splLast = s.splLast := rfl
@[simp] theorem answerBytes_vdecLast (s : State) (l : List Byte) : (s.answerBytes l).vdecLast = s.vdecLast := rfl
@[simp] theorem answerBytes_gate (s : State) (l : List Byte) : (s.answerBytes l).gate = s.gate := rfl
@[simp] theorem answerBytes_pins (s : State) (l : List Byte) : (s.answerBytes l).pins = s.pins := rfl
@[simp] theorem answerBytes_app (s : State) (l : List Byte) : (s.answerBytes l).app = s.app := rfl
@[simp] theorem answerBytes_tap (s : State) (l : List Byte) : (s.answerBytes l).tap = s.tap := rfl
@[simp] theorem answerBytes_seq (s : State) (l : List Byte) : (s.answerBytes l).seq = s.seq := rfl
@[simp] theorem answerBytes_pending (s : State) (l : List Byte) : (s.answerBytes l).pending = s.pending := rfl

/-! ### clearPage -/

@[simp] theorem clearPage_part (s : State) (b : Blk) : (s.clearPage b).part = s.part := rfl
@[simp] theorem clearPage_hostSel (s : State) (b : Blk) : (s.clearPage b).hostSel = s.hostSel := rfl
@[simp] theorem clearPage_belvSec (s : State) (b : Blk) : (s.clearPage b).belvSec = s.belvSec := rfl
@[simp] theorem clearPage_mem (s : State) (b : Blk) : (s.clearPage b).mem = s.mem := rfl
@[simp] theorem clearPage_jobs (s : State) (b : Blk) : (s.clearPage b).jobs = s.jobs := rfl
@[simp] theorem clearPage_held (s : State) (b : Blk) : (s.clearPage b).held = s.held := rfl
@[simp] theorem clearPage_keys (s : State) (b : Blk) : (s.clearPage b).keys = s.keys := rfl
@[simp] theorem clearPage_time (s : State) (b : Blk) : (s.clearPage b).time = s.time := rfl
@[simp] theorem clearPage_latches (s : State) (b : Blk) : (s.clearPage b).latches = s.latches := rfl
@[simp] theorem clearPage_port (s : State) (b : Blk) : (s.clearPage b).port = s.port := rfl
@[simp] theorem clearPage_power (s : State) (b : Blk) : (s.clearPage b).power = s.power := rfl
@[simp] theorem clearPage_ddr (s : State) (b : Blk) : (s.clearPage b).ddr = s.ddr := rfl
@[simp] theorem clearPage_ora (s : State) (b : Blk) : (s.clearPage b).ora = s.ora := rfl
@[simp] theorem clearPage_chans (s : State) (b : Blk) : (s.clearPage b).chans = s.chans := rfl
@[simp] theorem clearPage_rings (s : State) (b : Blk) : (s.clearPage b).rings = s.rings := rfl
@[simp] theorem clearPage_check (s : State) (b : Blk) : (s.clearPage b).check = s.check := rfl
@[simp] theorem clearPage_cores (s : State) (b : Blk) : (s.clearPage b).cores = s.cores := rfl
@[simp] theorem clearPage_seqs (s : State) (b : Blk) : (s.clearPage b).seqs = s.seqs := rfl
@[simp] theorem clearPage_images (s : State) (b : Blk) : (s.clearPage b).images = s.images := rfl
@[simp] theorem clearPage_coll (s : State) (b : Blk) : (s.clearPage b).coll = s.coll := rfl
@[simp] theorem clearPage_disp (s : State) (b : Blk) : (s.clearPage b).disp = s.disp := rfl
@[simp] theorem clearPage_pfg (s : State) (b : Blk) : (s.clearPage b).pfg = s.pfg := rfl
@[simp] theorem clearPage_fw (s : State) (b : Blk) : (s.clearPage b).fw = s.fw := rfl
@[simp] theorem clearPage_cams (s : State) (b : Blk) : (s.clearPage b).cams = s.cams := rfl
@[simp] theorem clearPage_params (s : State) (b : Blk) : (s.clearPage b).params = s.params := rfl
@[simp] theorem clearPage_vdec (s : State) (b : Blk) : (s.clearPage b).vdec = s.vdec := rfl
@[simp] theorem clearPage_venc (s : State) (b : Blk) : (s.clearPage b).venc = s.venc := rfl
@[simp] theorem clearPage_jpeg (s : State) (b : Blk) : (s.clearPage b).jpeg = s.jpeg := rfl
@[simp] theorem clearPage_spl (s : State) (b : Blk) : (s.clearPage b).spl = s.spl := rfl
@[simp] theorem clearPage_splJob (s : State) (b : Blk) : (s.clearPage b).splJob = s.splJob := rfl
@[simp] theorem clearPage_splLast (s : State) (b : Blk) : (s.clearPage b).splLast = s.splLast := rfl
@[simp] theorem clearPage_vdecLast (s : State) (b : Blk) : (s.clearPage b).vdecLast = s.vdecLast := rfl
@[simp] theorem clearPage_gate (s : State) (b : Blk) : (s.clearPage b).gate = s.gate := rfl
@[simp] theorem clearPage_pins (s : State) (b : Blk) : (s.clearPage b).pins = s.pins := rfl
@[simp] theorem clearPage_app (s : State) (b : Blk) : (s.clearPage b).app = s.app := rfl
@[simp] theorem clearPage_tap (s : State) (b : Blk) : (s.clearPage b).tap = s.tap := rfl
@[simp] theorem clearPage_seq (s : State) (b : Blk) : (s.clearPage b).seq = s.seq := rfl
@[simp] theorem clearPage_resp (s : State) (b : Blk) : (s.clearPage b).resp = s.resp := rfl
@[simp] theorem clearPage_pending (s : State) (b : Blk) : (s.clearPage b).pending = s.pending := rfl

/-! ### Registers -/

/-- A register that was just stored reads as stored. -/
@[simp] theorem reg_setReg_same (s : State) (a : Nat) (w : Word) : (s.setReg a w).reg a = w := by
  simp only [State.reg, State.setReg]
  split
  · rename_i h
    simp [smap_get_del_same, h]
  · simp [smap_get_put_same]

/-- Storing a register leaves every other one alone. -/
theorem reg_setReg_other (s : State) (a j : Nat) (w : Word) (h : j ≠ a) : (s.setReg a w).reg j = s.reg j := by
  simp only [State.reg, State.setReg]
  split
  · simp [smap_get_del_other _ _ _ h]
  · simp [smap_get_put_other _ _ _ _ h]

/-- A register after a store. -/
theorem reg_setReg (s : State) (a j : Nat) (w : Word) : (s.setReg a w).reg j = if j = a then w else s.reg j := by
  by_cases h : j = a
  · subst h; simp
  · simp [h, reg_setReg_other _ _ _ _ h]

theorem get_eq (s : State) (b : Blk) (off : Nat) : s.get b off = s.reg (b.at off) := rfl
theorem set_eq (s : State) (b : Blk) (off : Nat) (w : Word) : s.set b off w = s.setReg (b.at off) w := rfl
theorem setN_eq (s : State) (b : Blk) (off n : Nat) : s.setN b off n = s.setReg (b.at off) (wd n) := rfl
theorem setF_eq (s : State) (b : Blk) (off hi lo v : Nat) :
    s.setF b off hi lo v = s.setReg (b.at off) (setFld (s.reg (b.at off)) hi lo v) := rfl
theorem setB_eq (s : State) (b : Blk) (off i : Nat) (v : Bool) :
    s.setB b off i v = s.setReg (b.at off) (setBit (s.reg (b.at off)) i v) := rfl
theorem irq_eq (s : State) (b : Blk) (i : Nat) :
    s.irq b i = s.setReg (b.at offRaw) (setBit (s.reg (b.at offRaw)) i true) := rfl
theorem countF_eq (s : State) (b : Blk) (off hi lo k : Nat) :
    s.countF b off hi lo k = s.setF b off hi lo (satAdd (s.getF b off hi lo) k (2 ^ (hi + 1 - lo) - 1)) := rfl
theorem count_eq (s : State) (b : Blk) (off k : Nat) :
    s.count b off k = s.setN b off (satAdd (s.getN b off) k 0xFFFFFFFF) := rfl

/-- The registers are kept canonical. -/
theorem setReg_sorted (s : State) (a : Nat) (w : Word) (h : s.regs.sorted = true) : (s.setReg a w).regs.sorted = true := by
  simp only [State.setReg]
  split
  · exact smap_sorted_del _ _ h
  · exact smap_sorted_put _ _ _ h

/-! ### Memory -/

/-- A read of one byte depends on memory and, where nothing is stored, on the counter of free values. -/
theorem byte_eq (s : State) (a : Nat) : s.byte a = (s.mem.get? a).getD (Config.freeByte s.seq a) := rfl

/-- Bytes outside the stored range stay. -/
theorem putBytes_get_out (l : List Byte) (m : SMap Byte) (a j : Nat) (h : j < a ∨ a + l.length ≤ j) :
    (putBytes m a l).get? j = m.get? j := by
  induction l generalizing m a with
  | nil => rfl
  | cons b l ih =>
    simp only [List.length_cons] at h
    simp only [putBytes]
    rw [ih _ _ (by omega), smap_get_put_other _ _ _ _ (by omega)]

/-- A byte inside the stored range is the one stored. -/
theorem putBytes_get_in (l : List Byte) (m : SMap Byte) (a i : Nat) (h : i < l.length) :
    (putBytes m a l).get? (a + i) = some (l[i]'h) := by
  induction l generalizing m a i with
  | nil => simp at h
  | cons b l ih =>
    simp only [putBytes]
    cases i with
    | zero => simp [putBytes_get_out, smap_get_put_same]
    | succ i =>
      have := ih (m.put a b) (a + 1) i (by simpa using h)
      simpa [Nat.add_assoc, Nat.add_comm 1 i] using this

/-- A store leaves every byte outside its range alone. -/
theorem byte_storeBytes_out (s : State) (a j : Nat) (l : List Byte) (h : j < a ∨ a + l.length ≤ j) :
    (s.storeBytes a l).byte j = s.byte j := by
  simp [State.byte, State.storeBytes, putBytes_get_out _ _ _ _ h]

/-- A byte just stored reads back. -/
theorem byte_storeBytes_in (s : State) (a i : Nat) (l : List Byte) (h : i < l.length) :
    (s.storeBytes a l).byte (a + i) = l[i]'h := by
  simp [State.byte, State.storeBytes, putBytes_get_in _ _ _ _ h]

/-- Bytes made undefined leave the others alone. -/
theorem byte_undef_out (s : State) (a n j : Nat) (h : j < a ∨ a + n ≤ j) : (s.undef a n).byte j = s.byte j := by
  simp [State.byte, State.undef, smap_get_clear_out _ _ _ _ h]

theorem putBytes_sorted (l : List Byte) (m : SMap Byte) (a : Nat) (h : m.sorted = true) : (putBytes m a l).sorted = true := by
  induction l generalizing m a with
  | nil => exact h
  | cons b l ih => exact ih _ _ (smap_sorted_put _ _ _ h)

/-- A store keeps memory canonical. -/
theorem storeBytes_wf (s : State) (a : Nat) (l : List Byte) (h : Memory.wf s.mem = true) :
    Memory.wf (s.storeBytes a l).mem = true := putBytes_sorted l s.mem a h

/-- A store of a number keeps memory canonical. -/
theorem store_wf (s : State) (a n v : Nat) (h : Memory.wf s.mem = true) : Memory.wf (s.store a n v).mem = true :=
  storeBytes_wf s a _ h

/-- Making bytes undefined keeps memory canonical. -/
theorem undef_wf (s : State) (a n : Nat) (h : Memory.wf s.mem = true) : Memory.wf (s.undef a n).mem = true :=
  smap_sorted_clear s.mem a n h

/-- Memory at reset is canonical. -/
theorem reset_mem_wf : Memory.wf State.reset.mem = true := rfl

/-! ### Indexed parts -/

@[simp] theorem chan_setChan_same (s : State) (c : Nat) (x : Chan) : (s.setChan c x).chan c = x := by
  simp [State.chan, State.setChan, smap_get_put_same]
theorem chan_setChan_other (s : State) (c d : Nat) (x : Chan) (h : d ≠ c) : (s.setChan c x).chan d = s.chan d := by
  simp [State.chan, State.setChan, smap_get_put_other _ _ _ _ h]
@[simp] theorem ring_setRing_same (s : State) (q : Nat) (x : RingSt) : (s.setRing q x).ring q = x := by
  simp [State.ring, State.setRing, smap_get_put_same]
theorem ring_setRing_other (s : State) (q r : Nat) (x : RingSt) (h : r ≠ q) : (s.setRing q x).ring r = s.ring r := by
  simp [State.ring, State.setRing, smap_get_put_other _ _ _ _ h]
@[simp] theorem core_setCore_same (s : State) (n : Nat) (x : CoreSt) : (s.setCore n x).core n = x := by
  simp [State.core, State.setCore, smap_get_put_same]
theorem core_setCore_other (s : State) (n k : Nat) (x : CoreSt) (h : k ≠ n) : (s.setCore n x).core k = s.core k := by
  simp [State.core, State.setCore, smap_get_put_other _ _ _ _ h]
@[simp] theorem cseq_setCseq_same (s : State) (k : Nat) (x : SeqSt) : (s.setCseq k x).cseq k = x := by
  simp [State.cseq, State.setCseq, smap_get_put_same]
theorem cseq_setCseq_other (s : State) (k j : Nat) (x : SeqSt) (h : j ≠ k) : (s.setCseq k x).cseq j = s.cseq j := by
  simp [State.cseq, State.setCseq, smap_get_put_other _ _ _ _ h]
@[simp] theorem pair_setPair_same (s : State) (p : Nat) (x : PairSt) : (s.setPair p x).pair p = x := by
  simp [State.pair, State.setPair, smap_get_put_same]
@[simp] theorem comp_setComp_same (s : State) (c : Nat) (x : Comp) : (s.setComp c x).comp c = x := by
  simp [State.comp, State.setComp, smap_get_put_same]

end Sys2Proof.Machine
end

