-- ==== Sys2Proof/Laws/Bus.lean ====
section
/-! SUPPORT. What a register write through the crossbar comes to, once and for all rows that are one. -/

namespace Sys2Proof.Machine

/-- A page number that belongs to a block lies in the register space. -/
theorem blkOfPage_lt {p : Nat} {b : Blk} (h : blkOfPage p = some b) : p < 0x1000 := by
  by_cases hp : p < 0x1000
  · exact hp
  · exfalso
    have h2 : 0x1000 ≤ p := Nat.le_of_not_lt hp
    unfold blkOfPage at h
    split at h <;> first | omega | skip
    rw [if_neg (by omega), if_neg (by omega), if_neg (by omega), if_neg (by omega), if_neg (by omega), if_neg (by omega)] at h
    cases h

theorem pageOff_at (b : Blk) {off : Nat} (h : off < 0x1000) : pageOff (b.at off) = off := by
  simp only [pageOff, Blk.at, regBase]; omega

theorem blkOf_at {b : Blk} {off : Nat} (hb : blkOfPage b.pg = some b) (h : off < 0x1000) : blkOf (b.at off) = some b := by
  have hp := blkOfPage_lt hb
  have e : (b.at off - regBase) / 0x1000 = b.pg := by simp only [Blk.at, regBase]; omega
  have h1 : regBase ≤ b.at off := by simp only [Blk.at, regBase]; omega
  have h2 : b.at off < 0x41000000 := by simp only [Blk.at, regBase]; omega
  have hr : inRegSpace (b.at off) = true := by rw [inRegSpace, decide_eq_true h1, decide_eq_true h2]; rfl
  rw [blkOf, if_pos hr, e, hb]

/-- The page and offset of a write to a register of a block. -/
theorem blkOr_at {b : Blk} {off : Nat} (hb : blkOfPage b.pg = some b) (h : off < 0x1000) : blkOr (b.at off) = b := by
  rw [blkOr, blkOf_at hb h]; rfl

/-- A write that its page applies, by a master other than the xSPI port: the register's own effect. -/
theorem writeAt_applies {s : State} {m : Master} {b : Blk} {off : Nat} {v v' mask : Word}
    (hb : blkOfPage b.pg = some b) (ho : off < 0x1000) (hm : m ≠ .xspi)
    (h : judge s (wr m (b.at off) v) = .apply v' mask false) :
    writeAt m b off v s = applyReg m b off v' mask s := by
  simp only [writeAt, busWrite, carryOut, noteReject, h]
  simp only [settle, effect, wr, blkOr_at hb ho, pageOff_at b ho, hm, false_and, if_false, Bool.false_eq_true]

/-- The same with the port as the writer: HP_STAT.REJECT is set where the effect rejects the write. -/
theorem writeAt_applies_xspi {s : State} {m : Master} {b : Blk} {off : Nat} {v v' mask : Word}
    (hb : blkOfPage b.pg = some b) (ho : off < 0x1000)
    (h : judge s (wr m (b.at off) v) = .apply v' mask false)
    (hq : (applyReg m b off v' mask (s.setF b offErrcnt 15 0 0)).getF b offErrcnt 15 0 = 0) :
    writeAt m b off v s = applyReg m b off v' mask s := by
  simp only [writeAt, busWrite, carryOut, noteReject, h]
  simp only [settle, effect, wr, blkOr_at hb ho, pageOff_at b ho, hq, if_false, Bool.false_eq_true, ne_eq, not_true, and_false]

end Sys2Proof.Machine
end

