-- ==== Sys2Proof/Laws/Ops.lean ====
section
/-! SUPPORT. One lemma for each shared operation that says everything it can do. -/

namespace Sys2Proof.Machine

/-! ### Commands -/

/-- A command that runs `f` completes, and keeps device time, the part and the queue. -/
theorem completes_run {c : Instr} {s : State} {f : State → State} {P : State → Prop} (h : exec c s = run f s)
    (hp : P { f { s with resp := Resp.init } with time := s.time, part := s.part, seq := s.seq + 1, pending := s.pending }) :
    Completes c s P := ⟨_, h.trans rfl, hp⟩

/-- The same for a command that moves device time. -/
theorem completes_runTime {c : Instr} {s : State} {g : State → TimeSt} {f : State → State} {P : State → Prop}
    (h : exec c s = runTime g f s)
    (hp : P { f { s with resp := Resp.init } with time := g s, part := s.part, seq := s.seq + 1, pending := s.pending }) :
    Completes c s P := ⟨_, h.trans rfl, hp⟩

/-- What a completed `run` answers. -/
theorem run_next {f : State → State} {s t : State} (h : run f s = .next t) :
    t = { f { s with resp := Resp.init } with time := s.time, part := s.part, seq := s.seq + 1, pending := s.pending } := by
  simp only [run, Host.Outcome.next.injEq] at h; exact h.symm

/-- A step takes the front command, or idles on an empty queue. -/
theorem step_cons {s : State} {c : Instr} {cs : List Instr} (h : s.pending = c :: cs) :
    step s = exec c { s with pending := cs } := by simp only [step, h]

/-- On an empty queue the block idles. -/
theorem step_nil {s : State} (h : s.pending = []) : step s = .next s := by simp only [step, h]

/-! ### Registers of a block -/

/-- Two offsets of one page name one register only if they are equal. -/
@[simp] theorem at_inj (b : Blk) (x y : Nat) : (b.at x = b.at y) ↔ x = y := by simp only [Blk.at]; omega

@[simp] theorem get_set_same (s : State) (b : Blk) (off : Nat) (w : Word) : (s.set b off w).get b off = w := by
  simp [get_eq, set_eq]

/-- A register beside the one stored. -/
theorem get_set_off (s : State) (b : Blk) (off off' : Nat) (w : Word) (h : off' ≠ off) :
    (s.set b off w).get b off' = s.get b off' := by
  simp [get_eq, set_eq, reg_setReg, h]

@[simp] theorem getB_setB_same (s : State) (b : Blk) (off i : Nat) (v : Bool) (h : i < 32) :
    (s.setB b off i v).getB b off i = v := by
  simp [State.getB, State.setB, h]

/-- Another bit of the same register. -/
theorem getB_setB_other (s : State) (b : Blk) (off i j : Nat) (v : Bool) (h : j ≠ i) :
    (s.setB b off i v).getB b off j = s.getB b off j := by
  simp [State.getB, State.setB, bit_setBit_other _ _ _ _ h]

/-- A field that was stored. -/
theorem getF_setF_same (s : State) (b : Blk) (off hi lo v : Nat) (h : hi < 32) :
    (s.setF b off hi lo v).getF b off hi lo = v % 2 ^ (hi + 1 - lo) := by
  simp [State.getF, State.setF, fld_setFld_same _ _ _ _ h]

/-- A field beside the one that was stored. -/
theorem getF_setF_other (s : State) (b : Blk) (off hi lo v hi2 lo2 : Nat) (h : hi < lo2 ∨ hi2 < lo) :
    (s.setF b off hi lo v).getF b off hi2 lo2 = s.getF b off hi2 lo2 := by
  simp [State.getF, State.setF, fld_setFld_other _ _ _ _ _ _ h]

/-- A number that was stored. -/
theorem getN_setN_same (s : State) (b : Blk) (off n : Nat) : (s.setN b off n).getN b off = n % 2 ^ 32 := by
  simp [State.getN, State.setN, wd]

/-- A stored field differs from the state before in its register only. -/
theorem setF_reg (s : State) (b : Blk) (off hi lo v a : Nat) (h : a ≠ b.at off) : (s.setF b off hi lo v).reg a = s.reg a := by
  rw [setF_eq, reg_setReg_other _ _ _ _ h]

/-- A stored bit differs from the state before in its register only. -/
theorem setB_reg (s : State) (b : Blk) (off i a : Nat) (v : Bool) (h : a ≠ b.at off) : (s.setB b off i v).reg a = s.reg a := by
  rw [setB_eq, reg_setReg_other _ _ _ _ h]

/-- A stored number differs from the state before in its register only. -/
theorem setN_reg (s : State) (b : Blk) (off n a : Nat) (h : a ≠ b.at off) : (s.setN b off n).reg a = s.reg a := by
  rw [setN_eq, reg_setReg_other _ _ _ _ h]

/-- A counted field differs from the state before in its register only. -/
theorem countF_reg (s : State) (b : Blk) (off hi lo k a : Nat) (h : a ≠ b.at off) : (s.countF b off hi lo k).reg a = s.reg a := by
  rw [countF_eq, setF_reg _ _ _ _ _ _ _ h]

/-- An interrupt differs from the state before in PG_IRQ_RAW only. -/
theorem irq_reg (s : State) (b : Blk) (i a : Nat) (h : a ≠ b.at offRaw) : (s.irq b i).reg a = s.reg a := by
  rw [irq_eq, reg_setReg_other _ _ _ _ h]

/-! ### Rejection and records -/

/-- Changes of registers alone compose. -/
theorem regs_trans {s t u : State} (h1 : t = { s with regs := t.regs }) (h2 : u = { t with regs := u.regs }) :
    u = { s with regs := u.regs } := h2.trans (by rw [h1])

/-- Storing a register changes registers alone. -/
theorem setReg_frame (s : State) (a : Nat) (w : Word) : s.setReg a w = { s with regs := (s.setReg a w).regs } := rfl

/-- A rejection changes registers alone. -/
theorem reject_frame (s : State) (b : Blk) (off code : Nat) : s.reject b off code = { s with regs := (s.reject b off code).regs } := by
  have h1 := setReg_frame s (b.at offErrcnt) (setFld (s.reg (b.at offErrcnt)) 15 0 (satAdd (s.getF b offErrcnt 15 0) 1 (2 ^ (15 + 1 - 0) - 1)))
  have h2 := regs_trans h1 (setReg_frame _ (b.at offRaw) (setBit ((s.countF b offErrcnt 15 0 1).reg (b.at offRaw)) 3 true))
  simp only [State.reject]
  split
  · exact h2
  · exact regs_trans h2 (setReg_frame _ (b.at offReason) (wd (code + off <<< 16)))

/-- A rejection changes no register but PG_ERRCNT, PG_IRQ_RAW and PG_REASON of its page (R56). -/
theorem reject_reg (s : State) (b : Blk) (off code a : Nat) (h1 : a ≠ b.at offErrcnt) (h2 : a ≠ b.at offRaw)
    (h3 : a ≠ b.at offReason) : (s.reject b off code).reg a = s.reg a := by
  simp only [State.reject]
  split
  · rw [irq_reg _ _ _ _ h2, countF_reg _ _ _ _ _ _ _ h1]
  · rw [setN_reg _ _ _ _ _ h3, irq_reg _ _ _ _ h2, countF_reg _ _ _ _ _ _ _ h1]

/-- The record that a block raises joins the records not yet queued, and nothing else of the checking hardware
changes. -/
theorem raiseRec_check (s : State) (b : Blk) (code op cls : Nat) (inj : Bool) (d : List Byte) :
    (s.raiseRec b code op cls inj d).check =
      { s.check with raised := s.check.raised ++ [(s.seq, s.record s.dt b.unit code op cls inj d)] } := rfl

/-- A record is counted in PG_ERRCNT of its page; no other register changes (R110). -/
theorem raiseRec_reg (s : State) (b : Blk) (code op cls : Nat) (inj : Bool) (d : List Byte) (a : Nat) (h : a ≠ b.at offErrcnt) :
    (s.raiseRec b code op cls inj d).reg a = s.reg a := countF_reg s b offErrcnt 31 16 1 a h

/-- Memory is as before a record was raised. -/
@[simp] theorem raiseRec_mem (s : State) (b : Blk) (code op cls : Nat) (inj : Bool) (d : List Byte) :
    (s.raiseRec b code op cls inj d).mem = s.mem := rfl

/-! ### Rings -/

/-- A hardware producer writes nothing where its ring is off or a software one. -/
theorem ringPut_off {g : Option Agent} {q : Nat} {e : List Byte} {s : State} (h : s.rgProduces q = false) :
    ringPut g q e s = s := by
  simp [ringPut, h]

/-- On a full ring a hardware producer reports and writes nothing (R389). -/
theorem ringPut_full {g : Option Agent} {q : Nat} {e : List Byte} {s : State} (h : s.rgProduces q = true)
    (hf : s.rgFull q = true) : ringPut g q e s = ringFull q s := by
  simp [ringPut, h, hf]

/-- Otherwise it stores the entry at the tail's slot; a store that succeeds moves the tail by one. -/
theorem ringPut_room {g : Option Agent} {q : Nat} {e : List Byte} {s t : State} (h : s.rgProduces q = true)
    (hf : s.rgFull q = false) (hw : ringStoreEntry g (s.rgSlot q (s.rgTail q)) e s = (t, true)) :
    ringPut g q e s = moveTail q ((s.rgTail q + 1) % (2 * s.rgN q)) t := by
  simp [ringPut, h, hf, hw]

/-- An entry whose store fails is not published. -/
theorem ringPut_fails {g : Option Agent} {q : Nat} {e : List Byte} {s t : State} (h : s.rgProduces q = true)
    (hf : s.rgFull q = false) (hw : ringStoreEntry g (s.rgSlot q (s.rgTail q)) e s = (t, false)) :
    ringPut g q e s = t := by
  simp [ringPut, h, hf, hw]

/-- A report of a full ring leaves memory alone. -/
theorem ringFull_mem (q : Nat) (s : State) : (ringFull q s).mem = s.mem := by
  simp only [ringFull]; split <;> rfl

/-! ### Kills -/

/-- A sequencer without a command in body, commit or kill is reached by no kill. -/
theorem killAny_idle {k cause code : Nat} {s : State} (h : s.csqPhase k = 0) : killAny k cause code s = s := by
  simp [killAny, h]

/-- A command in body or commit is killed. -/
theorem killAny_running {k cause code : Nat} {s : State} (h : s.csqPhase k = 1 ∨ s.csqPhase k = 2) :
    killAny k cause code s = killOne k cause code s := by
  simp only [killAny, h, if_true]

/-! ### Memory that agents reach -/

/-- Two states that agree outside an interval agree outside a larger one. -/
theorem sameMem_mono {a n a' n' : Nat} {s t : State} (h : SameMem a n s t) (h1 : a' ≤ a) (h2 : a + n ≤ a' + n') :
    SameMem a' n' s t := fun x hx => h x (by omega)

/-- Storing bytes changes no byte outside them. -/
theorem storeBytes_sameMem (s : State) (a : Nat) (bs : List Byte) : SameMem a bs.length s (s.storeBytes a bs) :=
  fun x hx => putBytes_get_out bs s.mem a x hx

end Sys2Proof.Machine
end

