-- ==== Sys2Proof/Tests/Slice0.lean ====
section
/-! SUPPORT. Tests: ill-formed commands are refused by the check, worked cases of the spec, and for every statement with
hypotheses `wit_<statement>_<k>`, in which each group shows one state and operands that meet together the hypotheses of a
clause of the statement's part k. -/

set_option Elab.async false

namespace Sys2Proof.Machine

/-- RUN with FW1 in charge, every rail good, every clock on, the Orangery and the DRAM controller enabled. -/
def live : State :=
  let s0 := { State.reset with belvSec := false, power := { State.reset.power with pstate := .run, rails := 0x7FF#11 } }
  ((((s0.setN .clk 0x60 0xFFFFFFFF).setN .clk 0x64 0x0FFFFFFF).setB .ora offStatus 0 true).setB .ddrc offStatus 0 true)

/-- What a command that completes leaves; the state itself where it does not. -/
def after (c : Instr) (s : State) : State :=
  match exec c s with
  | .next t => t
  | _ => s

/-! ### Ill-formed commands are refused by the check -/

theorem test_wf_page : Instr.wf (.enable .belvedere 0x99) = false := by decide
theorem test_wf_writes : Instr.wf (.registerWrite ⟨[], []⟩) = false ∧
    Instr.wf (.registerWrite ⟨[⟨.belvedere, 0x40000008, 4, 1⟩, ⟨.belvedere, 0x40000048, 4, 1⟩], []⟩) = false ∧
    Instr.wf (.registerWrite ⟨[⟨.belvedere, 0x40000008, 3, 1⟩], []⟩) = false ∧
    Instr.wf (.registerWrite ⟨[⟨.belvedere, 0x40000008, 4, 1⟩], [⟨.belvedere, 0x40000008, 5⟩]⟩) = false := by decide
theorem test_wf_check : Instr.wf (.enableCheckDone (.page 0x99)) = false := by decide
theorem test_wf_timeout : Instr.wf (.busTimeout .xspi 0x40000000 ⟨false, 65⟩) = false := by decide
theorem test_wf_narrow : Instr.wf (.narrowForce 0x02000000) = false := by decide
theorem test_wf_error : Instr.wf (.accessError 0 ⟨0, false, []⟩) = false := by decide
theorem test_wf_size : Instr.wf (.registerRead .belvedere 0x40000000 3) = false ∧
    Instr.wf (.registerRead .belvedere 0x80000000 4) = false := by decide
theorem test_wf_len : Instr.wf (.winRead 256) = false ∧ Instr.wf (.winWrite 2 [1]) = false := by decide
theorem test_wf_ignored : Instr.wf (.xspiUnknownOpcode 0x05 0xFA 1 0xFE) = false := by decide
theorem test_wf_mem : Instr.wf (.memoryAccess (.load .window 0x80000000 0)) = false := by decide
theorem test_wf_off : Instr.wf (.modelCacheProtect .window 0x10000000) = false := by decide
theorem test_wf_packet : Instr.wf (.longPacket 0 ⟨16, 0x2B, 5, [], true, false, false⟩) = false := by decide
theorem test_wf_frame : Instr.wf (.frameStart 0 0 65536 false) = false := by decide
theorem test_wf_kill : Instr.wf (.commandKill 0 1 65536) = false := by decide
theorem test_wf_audio : Instr.wf (.audioFrame [] []) = false := by decide
theorem test_wf_sensors : Instr.wf (.sensorSample [] []) = false := by decide
theorem test_wf_boundary : Instr.wf (.samplePreload (2 ^ 256)) = false := by decide
theorem test_wf_boot : Instr.wf (.systemReset { hostSel := false, flash := some [(0x1000000, 1)], readFail := false }) = false := by decide
theorem test_wf_mctp : Instr.wf (.getTid { src := 256, body := [] }) = false := by decide
theorem test_wf_bypass : Instr.wf (.bypass 2) = false := by decide
theorem test_wf_bits : Instr.wf (.windowStart .xspi 0) = false ∧ Instr.wf (.windowStop .xspi 2) = false ∧
    Instr.wf (.stLoad .dispatch 3) = false ∧ Instr.wf (.ccGo .dispatch 0 3) = false ∧ Instr.wf (.pause .dispatch 0 1) = false ∧
    Instr.wf (.xcDisable .dispatch 0 1) = false ∧ Instr.wf (.ringEnable .dispatch 0 0) = false ∧
    Instr.wf (.attach .belvedere 0x30000) = false ∧ Instr.wf (.loopDisable .belvedere 0 1) = false := by decide

/-! ### Worked cases of the spec -/

/-- 09, worked case, steps 6 and 7: 3.3, 3.375, 500 and infinity in the FP8 formats. -/
theorem test_fp8 :
    (encodeElem 5 0 false (decodeElem 9 0x40533333)).1 = 0x45 ∧ (encodeElem 6 0 false (decodeElem 9 0x40533333)).1 = 0x43 ∧
    (encodeElem 6 1 false (decodeElem 9 0x40533333)).1 = 0x42 ∧ (encodeElem 5 0 false (decodeElem 9 0x40580000)).1 = 0x46 ∧
    (encodeElem 5 1 false (decodeElem 9 0x40580000)).1 = 0x45 ∧ (encodeElem 5 0 true (decodeElem 9 0x43FA0000)).1 = 0x7E ∧
    (encodeElem 5 0 true (decodeElem 9 0x7F800000)).1 = 0x7E ∧ (encodeElem 5 0 false (decodeElem 9 0x7F800000)).1 = 0x7F := by
  decide +kernel

/-- 09, worked case, steps 1 and 2: the scale and the first data bytes of the BSI8 block. -/
theorem test_bsi8 :
    let r := encodeBlock 11 0 ([0x40533333, 0xBF400000, 0x3D200000, 0x40BCCCCD].map (decodeElem 9) ++ List.replicate 28 (decodeElem 9 0))
    r.1 = 0x7B ∧ r.2.1.take 5 = [0x35, 0xF4, 0x01, 0x5E, 0x00] := by decide +kernel

/-- 19, SHA-384: the digest of the three characters "abc" that FIPS 180-4's example gives. -/
theorem test_sha384 : sha384 [0x61, 0x62, 0x63] =
    beBytes 0xcb00753f45a35e8bb5a03d699ac65007272c32ab0eded1631a8b605a43ff5bed8086072ba1e7cc2358baeca134c825a7 48 := by
  decide +kernel

/-- 13, worked case, steps 1 and 5: the algorithm and estimate of the all-reduce on 16 and on 12 cores. -/
theorem test_collective_selection :
    let b := fun (part : Nat) => [0x00#8, 0x07#8, 0#8, 0#8] ++ leBytes 3 2 ++ leBytes part 2 ++ leBytes 0x4800 4 ++ leBytes 0 20
    collSelect (b 0xFFFF) = (2, 2568) ∧ collSelect (b 0x33FF) = (1, 2464) := by decide +kernel

/-- 20, worked case, steps 3 and 4: the words of the latent divergence's record and word 0 of its event entry. -/
theorem test_record_words :
    let r : ErrRec := { dt := 0x900000001, unit := 0x2102, code := 0x0731, op := 0x8203, temp := 0x023C, volt := 748, cls := 2,
                        rpt := 0, detail := [4#8, 2#8, 26#8, 0#8, 0x40#8, 0x1F#8, 0#8, 0#8, 0x41#8, 0x1F#8] }
    (List.range 8).map (fun w => at' r.bytes (4 * w) 4) =
      [0x00000001, 0x00000009, 0x07312102, 0x00008203, 0x02EC023C, 0x02040002, 0x1F40001A, 0x1F410000] ∧
    at' (eventEntry r) 0 4 = 0x21020103 := by decide +kernel

/-- 23, R1072: IDCODE of the three parts. -/
theorem test_idcode : [Part.osv4108, .osv4116, .osv4132].map (fun p => idcodeWord { State.reset with part := p }) =
    [0x1410856B#32, 0x1411656B#32, 0x1413256B#32] := by decide +kernel

/-- 21, worked case, step 5: two domains write GP_OUT_HI in one SoC cycle. -/
theorem test_gpio_collision :
    let s := after (.registerWrite ⟨[⟨.application 0, 0x400B004C, 4, 0xFF⟩, ⟨.gatehouse, 0x400B004C, 4, 0x800⟩], []⟩) live
    s.get .gpio 0x4C = 0x8FF#32 ∧ s.get .sys 0x50 = 0x000B004C#32 ∧ s.get .sys 0x54 = 0x80000028#32 := by decide +kernel

/-- 21, worked case, step 4: UART0_RX selected twice. -/
theorem test_pin_conflict :
    let s := after (.pmPinWrite (.application 0) 13 0x40211) (live.setN .pmux 0x114 0x40211)
    s.get .pmux 0x40 = 1#32 ∧ s.get .pmux offRaw = 0x100#32 ∧
      s.check.raised.map (fun x => (x.2.unit, x.2.code, x.2.cls)) = [(0x7100, 0x7130, 3)] := by decide +kernel

/-- 02, worked case, steps 1 and 2: LOCK5 held by application core 2, read by the port. -/
theorem test_lock_held :
    let s := after (.acquire (.application 2) 5) live
    busView .xspi .lock 0x114 s = 0x04250001#32 ∧ busView (.application 2) .lock 0x114 s = 0x04250005#32 := by decide +kernel

/-- 03, worked case, steps 4 to 6: the periodic comparator armed 25 ms late skips two periods. -/
theorem test_late_comparator :
    let s0 := (((live.setN .time 0x140 0).setN .time 0x144 3).setN .time 0x148 0x50000).setN .time 0x14C 0x10053
    let s := after (.comparatorFire 2) { s0 with time := { s0.time with a := 0x3000C8000 / 1000, s := 0x3000C8000 % 1000 } }
    s.get .time 0x150 = 2#32 ∧ s.get64 .time 0x140 = 0x3000F0000 := by decide +kernel

/-- 22, worked case, step 1: the cluster reset frees lock 5 and counts. -/
theorem test_cluster_reset :
    let s := after (.clusterReset (.application 1) 0x5A17 212) (live.setN .lock 0x114 0x04250001)
    s.get .lock 0x114 = 2#32 ∧ s.get .appc 0x48 = 1#32 ∧ s.get .appc 0x40 = 1#32 := by decide +kernel

/-- 20, R975: ERR_CAP after the retirement of cluster 2. -/
theorem test_err_cap : errCap (onCheck (fun k => { k with retCl := 4#4 }) live) = 0x007BCCFF#32 := by decide +kernel

/-! ### Witnesses -/

theorem wit_StepRunsTheFrontCommand :
    ({ live with pending := [.idcode, .tapReset] } : State).pending = .idcode :: [.tapReset] := rfl

theorem wit_DeviceTimeIsBoundedAndMonotonic :
    ({ live with pending := [.aoTick] } : State).timely ∧ ∃ t, step { live with pending := [.aoTick] } = .next t :=
  ⟨by simp [State.timely, TimeSt.wf, live]; decide +kernel, _, rfl⟩

theorem wit_EveryEncodingIsItsValuesEncoding_1 :
    (9 ≤ 9 ∧ 0x40533333 < 2 ^ fmtBits 9 ∧ 1 ≤ 1 ∧ decodeElem 9 0x40533333 ≠ .nan ∧ ∀ neg, decodeElem 9 0x40533333 ≠ .inf neg) ∧
    (0 ≤ 9 ∧ 2 ^ fmtBits 0 - 1 < 2 ^ fmtBits 0 ∧ 0 ≤ 1 ∧ decodeElem 0 (2 ^ fmtBits 0 - 1) ≠ .nan ∧
      ∀ neg, decodeElem 0 (2 ^ fmtBits 0 - 1) ≠ .inf neg) := by decide +kernel

theorem wit_EveryEncodingIsItsValuesEncoding_2 :
    9 ≤ 9 ∧ 0xFF800000 < 2 ^ fmtBits 9 ∧ 0 ≤ 1 ∧ decodeElem 9 0xFF800000 = .inf true := by decide +kernel

theorem wit_EveryEncodingIsItsValuesEncoding_3 :
    floatFmt 5 = some ⟨4, 3, 7, true⟩ ∧ 0xFF < 2 ^ fmtBits 5 ∧ decodeElem 5 0xFF = .nan := by decide +kernel

theorem wit_EveryEncodingIsItsValuesEncoding_4 :
    isBlock 11 = true ∧ ([.fin false 1 0, .inf true] : List Num).any (fun x => !x.isFin) = true := by decide +kernel

namespace T02

abbrev A0 : Master := .application 0
abbrev A2 : Master := .application 2
abbrev X : Master := .xspi
abbrev BV : Master := .belvedere
abbrev held5 (m : Master) (ab : Nat) : State := live.set .lock (lockOff 5) (wd (1 + 2*ab + m.dom live * 0x10000 + m.code *
    0x100000))
abbrev hw (m : Master) (b : Blk) : Held := {page := b.pg, write := {master := m, addr := b.at offEn, size := 4, value := 5}}
abbrev st1 : State := live.set .lock (lockOff 63) 3#32
abbrev st2 : State := held5 X 0
abbrev st3 : State := held5 X 1
abbrev st4 : State := held5 A2 1
abbrev st5 : State := live.setB .lock offStatus 1 true
abbrev st6 : State := {live with power := {live.power with rails := 0}}
abbrev st7 : State := live.setB .venc offStatus 0 true
abbrev st8 : State := {live with jobs := [(0x70, .reset false)]}
abbrev st9 : State := live.setB (.csi 0) offStatus 0 true
abbrev st10 : State := {live with jobs := [(0x70, .check)]}
abbrev st11 : State := {live.setB (.csi 0) offStatus 4 true with jobs := [(0x70, .check)]}
abbrev st12 : State := {live with jobs := [(0x58, .reset false)]}
abbrev st13 : State := {live with held := [hw BV .sys]}
abbrev st14 : State := {live with held := [hw A0 .belv]}
abbrev st15 : State := live.setB (.csi 0) offOwner 8 true

theorem wit_LocksAreTakenAndFreed_1 :
    (Applies live A0 Blk.lock (lockOff 5) (256 : Word) ones ∧ bit (State.get live Blk.lock (lockOff 5)) 0 = false) := by
  decide +kernel

theorem wit_LocksAreTakenAndFreed_2 :
    (Applies st1 X Blk.lock (lockOff 63) (256 : Word) ones ∧ bit (State.get st1 Blk.lock (lockOff 63)) 0 = true) := by
  decide +kernel

theorem wit_LocksAreTakenAndFreed_3 :
    (Applies st2 X Blk.lock (lockOff 5) (512 : Word) ones ∧ isHolder st2 X (State.get st2 Blk.lock (lockOff 5)) = true ∧ bit
     (State.get st2 Blk.lock (lockOff 5)) 1 = false) := by
  decide +kernel

theorem wit_LocksAreTakenAndFreed_4 :
    (Applies st3 X Blk.lock (lockOff 5) (512 : Word) ones ∧ isHolder st3 X (State.get st3 Blk.lock (lockOff 5)) = true ∧ bit
     (State.get st3 Blk.lock (lockOff 5)) 1 = true) := by
  decide +kernel

theorem wit_LocksAreTakenAndFreed_5 :
    (Applies st3 A0 Blk.lock (lockOff 5) (512 : Word) ones ∧ isHolder st3 A0 (State.get st3 Blk.lock (lockOff 5)) = false) := by
  decide +kernel

theorem wit_LocksAreTakenAndFreed_6 :
    (Applies st3 X Blk.lock (lockOff 5) (1024 : Word) ones ∧ isHolder st3 X (State.get st3 Blk.lock (lockOff 5)) = true) := by
  decide +kernel

theorem wit_LocksAreTakenAndFreed_7 :
    (Applies st4 X Blk.lock (lockOff 5) (1024 : Word) ones ∧ isHolder st4 X (State.get st4 Blk.lock (lockOff 5)) = false) := by
  decide +kernel

theorem wit_OneOfTwoAcquiresIsGranted :
    (Applies live A2 Blk.lock (lockOff 5) (256 : Word) ones ∧ Applies live X Blk.lock (lockOff 5) (256 : Word) ones ∧
     Master.dom live A2 < Master.dom live X ∧ bit (State.get live Blk.lock (lockOff 5)) 0 = false ∧ ([wr A2 (Blk.at Blk.lock
     (lockOff 5)) (256 : Word), wr X (Blk.at Blk.lock (lockOff 5)) (256 : Word)] = [wr A2 (Blk.at Blk.lock (lockOff 5)) (256 :
     Word), wr X (Blk.at Blk.lock (lockOff 5)) (256 : Word)] ∨ [wr A2 (Blk.at Blk.lock (lockOff 5)) (256 : Word), wr X (Blk.at
     Blk.lock (lockOff 5)) (256 : Word)] = [wr X (Blk.at Blk.lock (lockOff 5)) (256 : Word), wr A2 (Blk.at Blk.lock (lockOff
     5)) (256 : Word)])) := by
  decide +kernel

theorem wit_ARejectionLeavesItsThreeMarks :
    (blkOfPage (Blk.pg Blk.lock) = some Blk.lock ∧ 276 < 4096 ∧ 1286 < 65536 ∧ State.refusedB live Blk.lock = false) ∧
    (blkOfPage (Blk.pg Blk.lock) = some Blk.lock ∧ 4095 < 4096 ∧ 65535 < 65536 ∧ State.refusedB st5 Blk.lock = true) := by
  refine ⟨?_, ?_⟩ <;> decide +kernel

theorem wit_WritesAreJudgedInOrder_1 :
    (blkOfPage (Blk.pg Blk.lock) = some Blk.lock ∧ 4094 < 4096 ∧ (4 = 1 ∨ 4 = 2 ∨ 4 = 4) ∧ State.gateMisses live X Blk.lock =
     false ∧ reaches live X Blk.lock = true ∧ 4 = 4 ∧ 4094 % 4 ≠ 0) ∧
    (blkOfPage (Blk.pg Blk.lock) = some Blk.lock ∧ 4092 < 4096 ∧ (4 = 1 ∨ 4 = 2 ∨ 4 = 4) ∧ State.gateMisses st6 X Blk.lock =
     false ∧ reaches st6 X Blk.lock = false) ∧
    (blkOfPage (Blk.pg Blk.disp) = some Blk.disp ∧ 285 < 4096 ∧ (1 = 1 ∨ 1 = 2 ∨ 1 = 4) ∧ State.gateMisses live X Blk.disp =
     false ∧ reaches live X Blk.disp = true ∧ 1 ≠ 4) ∧
    (blkOfPage (Blk.pg Blk.ora) = some Blk.ora ∧ 24 < 4096 ∧ (4 = 1 ∨ 4 = 2 ∨ 4 = 4) ∧ State.gateMisses live X Blk.ora = false
     ∧ reaches live X Blk.ora = true ∧ 4 = 4 ∧ 24 % 4 = 0 ∧ perm live X Blk.ora 24 (5 : Word) = Perm.deny) ∧
    (blkOfPage (Blk.pg Blk.sys) = some Blk.sys ∧ offEn < 4096 ∧ (4 = 1 ∨ 4 = 2 ∨ 4 = 4) ∧ State.gateMisses live BV Blk.sys =
     false ∧ reaches live BV Blk.sys = true ∧ 4 = 4 ∧ offEn = offEn ∧ perm live BV Blk.sys offEn (4294967295 : Word) =
     Perm.allow ones ∧ quietReg Blk.sys offEn = true ∧ live.check.parity = none) ∧
    (blkOfPage (Blk.pg Blk.venc) = some Blk.venc ∧ 64 < 4096 ∧ (4 = 1 ∨ 4 = 2 ∨ 4 = 4) ∧ State.gateMisses st7 A0 Blk.venc =
     false ∧ reaches st7 A0 Blk.venc = true ∧ 4 = 4 ∧ 64 % 4 = 0 ∧ perm st7 A0 Blk.venc 64 (5 : Word) = Perm.allow ones ∧
     Option.isSome (rowAt Blk.venc 64) = true ∧ lockMask Blk.venc 64 = (0 : Word) ∧ cfgBlocked st7 Blk.venc 64 (5 : Word) =
     true) ∧
    (blkOfPage (Blk.pg (Blk.csi 0)) = some (Blk.csi 0) ∧ 3840 < 4096 ∧ (4 = 1 ∨ 4 = 2 ∨ 4 = 4) ∧ State.gateMisses live A0
     (Blk.csi 0) = false ∧ reaches live A0 (Blk.csi 0) = true ∧ 4 = 4 ∧ 3840 % 4 = 0 ∧ perm live A0 (Blk.csi 0) 3840 (5 :
     Word) = Perm.allow ones ∧ rowAt (Blk.csi 0) 3840 = none) ∧
    (blkOfPage (Blk.pg (Blk.csi 0)) = some (Blk.csi 0) ∧ offOwner < 4096 ∧ (4 = 1 ∨ 4 = 2 ∨ 4 = 4) ∧ State.gateMisses st15 A0
     (Blk.csi 0) = false ∧ reaches st15 A0 (Blk.csi 0) = true ∧ 4 = 4 ∧ offOwner = offOwner ∧ perm st15 A0 (Blk.csi 0)
     offOwner (6 : Word) = Perm.allow ones ∧ State.pageLocked st15 (Blk.csi 0) = true ∧ ((6 : Word) ^^^ State.get st15
     (Blk.csi 0) offOwner) &&& (15 : Word) &&& ones ≠ (0 : Word)) ∧
    (blkOfPage (Blk.pg (Blk.csi 0)) = some (Blk.csi 0) ∧ 64 < 4096 ∧ (4 = 1 ∨ 4 = 2 ∨ 4 = 4) ∧ State.gateMisses st8 A0
     (Blk.csi 0) = false ∧ reaches st8 A0 (Blk.csi 0) = true ∧ 4 = 4 ∧ 64 % 4 = 0 ∧ perm st8 A0 (Blk.csi 0) 64 (5 : Word) =
     Perm.allow ones ∧ Option.isSome (rowAt (Blk.csi 0) 64) = true ∧ lockMask (Blk.csi 0) 64 = (0 : Word) ∧ cfgBlocked st8
     (Blk.csi 0) 64 (5 : Word) = false ∧ State.busy st8 (Blk.csi 0) = true ∧ 64 ≠ offRaw ∧ 64 ≠ offEn) := by
  refine ⟨?_, ?_, ?_, ?_, ?_, ?_, ?_, ?_, ?_⟩ <;> decide +kernel

theorem wit_PagesAreEnabledAndReset_1 :
    (blkOfPage 112 = some (Blk.csi 0) ∧ Blk.fixedEnable (Blk.csi 0) = false ∧ Applies live A0 (Blk.csi 0) offCtrl (1 : Word)
     ones ∧ State.enabled live (Blk.csi 0) = false) := by
  decide +kernel

theorem wit_PagesAreEnabledAndReset_2 :
    (blkOfPage 112 = some (Blk.csi 0) ∧ Blk.fixedEnable (Blk.csi 0) = false ∧ Applies st9 A0 (Blk.csi 0) offCtrl (1 : Word)
     ones ∧ State.enabled st9 (Blk.csi 0) = true) := by
  decide +kernel

theorem wit_PagesAreEnabledAndReset_3 :
    (blkOfPage 112 = some (Blk.csi 0) ∧ Blk.fixedEnable (Blk.csi 0) = false ∧ Applies st9 A0 (Blk.csi 0) offCtrl (0 : Word)
     ones ∧ State.enabled st9 (Blk.csi 0) = true ∧ stopRefusal (Blk.csi 0) st9 = none) := by
  decide +kernel

theorem wit_PagesAreEnabledAndReset_4 :
    (blkOfPage 5 = some Blk.hport ∧ Blk.fixedEnable Blk.hport = false ∧ Applies live X Blk.hport offCtrl ((4294967295 : Word)
     ||| (2 : Word)) ones) := by
  decide +kernel

theorem wit_ChecksAndResetsEnd_1 :
    (blkOfPage 112 = some (Blk.csi 0) ∧ Blk.fixedEnable (Blk.csi 0) = false ∧ State.present st10 (Blk.csi 0) = true ∧
     SMap.get? st10.jobs 112 = some PageJob.check ∧ enableCheck (Blk.csi 0) (clearJob (Blk.csi 0) st10) = none) := by
  decide +kernel

theorem wit_ChecksAndResetsEnd_2 :
    (blkOfPage 112 = some (Blk.csi 0) ∧ Blk.fixedEnable (Blk.csi 0) = false ∧ State.present st11 (Blk.csi 0) = true ∧
     SMap.get? st11.jobs 112 = some PageJob.check ∧ enableCheck (Blk.csi 0) (clearJob (Blk.csi 0) st11) = some (16394, 8) ∧
     Blk.isAo (Blk.csi 0) = false ∧ State.enabled st11 (Blk.csi 0) = false) := by
  decide +kernel

theorem wit_ChecksAndResetsEnd_3 :
    (blkOfPage 88 = some Blk.disp ∧ Blk.fixedEnable Blk.disp = false ∧ State.present st12 Blk.disp = true ∧ SMap.get?
     st12.jobs 88 = some (PageJob.reset false) ∧ (Blk.disp = Blk.disp ∨ Blk.disp = Blk.cc ∨ Blk.disp = Blk.jpeg ∨ Blk.disp =
     Blk.csi 0)) := by
  decide +kernel

theorem wit_WritesAreJudgedInOrder_2 :
    (blkOfPage 0 = some Blk.sys ∧ State.busy st13 Blk.sys = false ∧ st13.held = [hw BV Blk.sys] ∧ (hw BV Blk.sys).page = 0 ∧
     (hw BV Blk.sys).write.addr = Blk.at Blk.sys offEn ∧ (hw BV Blk.sys).write.size = 4 ∧ (Blk.sys = Blk.sys ∨ Blk.sys =
     Blk.ora ∨ Blk.sys = Blk.belv) ∧ judge st13 (hw BV Blk.sys).write = Verdict.apply (hw BV Blk.sys).write.value ones false) ∧
    (blkOfPage 192 = some Blk.belv ∧ State.busy st14 Blk.belv = false ∧ st14.held = [hw A0 Blk.belv] ∧ (hw A0 Blk.belv).page =
     192 ∧ (hw A0 Blk.belv).write.addr = Blk.at Blk.belv offEn ∧ (hw A0 Blk.belv).write.size = 4 ∧ (Blk.belv = Blk.sys ∨
     Blk.belv = Blk.ora ∨ Blk.belv = Blk.belv) ∧ judge st14 (hw A0 Blk.belv).write = Verdict.reject 32774) := by
  refine ⟨?_, ?_⟩ <;> decide +kernel

end T02

namespace T02b

abbrev A0 : Master := .application 0
abbrev X : Master := .xspi
abbrev BV : Master := .belvedere
abbrev oct : State := {live with port := {live.port with octal := true}}
abbrev dark : State := {live with power := {live.power with rails := 0}}
abbrev win : State := (live.setN .hport 0x48 0x80000000).setN .hport 0x50 3
abbrev winR : State := {(win.setB .hport 0x44 8 true) with port := {oct.port with prefetch := [7,8]}}
abbrev winW : State :=
    {((((win.setB .hport 0x44 8 true).setN .hport 0x54 1).setN .hport 0x48 0x80000104).setN .ddrc 0x44 2048) with port := {oct.port with fifo := [7]}}
abbrev st1 : State := live.setB (.csi 0) offOwner 8 true
abbrev st2 : State := {live with keys := [0]}
abbrev st3 : State := live.setB .sys 0x44 8 true
abbrev st4 : State := live.setN (.csi 0) 0x128 5
abbrev st5 : State := {live with port := {live.port with fifo := [1]}}
abbrev st6 : State :=
    {live.set .lock (lockOff 5) 0x06060001#32 with port := {live.port with armed := true, octal := true, fifo := [1]}}
abbrev st7 : State := oct.setF .sens offOwner 3 0 6
abbrev st8 : State := oct.setN .sens offEn 0x300
abbrev st9 : State := {oct with port := {oct.port with replay := some (Blk.at .sens offEn, 1, [5])}}
abbrev st10 : State := win.setN .hport 0x48 0x40000000
abbrev st11 : State := winR.setN .hport 0x50 0
abbrev st12 : State := {winR with port := oct.port}

theorem wit_OwnersLocksAndTheHost_1 :
    (blkOfPage 112 = some (Blk.csi 0) ∧ Applies live A0 (Blk.csi 0) offOwner (6 : Word) ones ∧ State.pageLocked live (Blk.csi
     0) = false ∧ fld (6 : Word) 3 0 < 7) := by
  decide +kernel

theorem wit_OwnersLocksAndTheHost_2 :
    (blkOfPage 112 = some (Blk.csi 0) ∧ Applies live BV (Blk.csi 0) offOwner (7 : Word) ones ∧ State.pageLocked live (Blk.csi
     0) = false ∧ 7 ≤ fld (7 : Word) 3 0) := by
  decide +kernel

theorem wit_OwnersLocksAndTheHost_3 :
    (blkOfPage 112 = some (Blk.csi 0) ∧ reaches live X (Blk.csi 0) = true ∧ perm live X (Blk.csi 0) offOwner (6 : Word) =
     Perm.deny) := by
  decide +kernel

theorem wit_OwnersLocksAndTheHost_4 :
    (blkOfPage 112 = some (Blk.csi 0) ∧ reaches st1 A0 (Blk.csi 0) = true ∧ perm st1 A0 (Blk.csi 0) offOwner (6 : Word) =
     Perm.allow ones ∧ State.pageLocked st1 (Blk.csi 0) = true ∧ fld (6 : Word) 3 0 ≠ State.owner st1 (Blk.csi 0) ∧ ones =
     ones) := by
  decide +kernel

theorem wit_OwnersLocksAndTheHost_5 :
    (blkOfPage 0 = some Blk.sys ∧ Applies live BV Blk.sys offKey (23130 : Word) ones ∧ fld (23130 : Word) 15 0 = 23130) := by
  decide +kernel

theorem wit_OwnersLocksAndTheHost_6 :
    (blkOfPage 0 = some Blk.sys ∧ Applies st2 BV Blk.sys offKey (42405 : Word) ones ∧ fld (42405 : Word) 15 0 = 42405 ∧
     List.contains st2.keys 0 = true) := by
  decide +kernel

theorem wit_OwnersLocksAndTheHost_7 :
    (blkOfPage 0 = some Blk.sys ∧ Applies st2 BV Blk.sys offKey (42406 : Word) ones ∧ fld (42406 : Word) 15 0 ≠ 23130 ∧ (fld
     (42406 : Word) 15 0 = 42405 → List.contains st2.keys 0 = false)) := by
  decide +kernel

theorem wit_OwnersLocksAndTheHost_8 :
    (blkOfPage 0 = some Blk.sys ∧ Applies st1 BV Blk.sys 68 (6 : Word) ones ∧ State.pageLocked st1 Blk.sys = false ∧ (fld (6 :
     Word) 3 0 = 5 ∨ fld (6 : Word) 3 0 = 6) ∧ State.getB st1 Blk.sys 68 8 = false) := by
  decide +kernel

theorem wit_OwnersLocksAndTheHost_9 :
    (blkOfPage 0 = some Blk.sys ∧ Applies live A0 Blk.sys 68 (7 : Word) ones ∧ State.pageLocked live Blk.sys = false ∧ fld (7
     : Word) 3 0 ≠ 5 ∧ fld (7 : Word) 3 0 ≠ 6) := by
  decide +kernel

theorem wit_OwnersLocksAndTheHost_10 :
    (blkOfPage 0 = some Blk.sys ∧ Applies st3 A0 Blk.sys 68 (5 : Word) ones ∧ State.pageLocked st3 Blk.sys = false ∧ (fld (5 :
     Word) 3 0 = 5 ∨ fld (5 : Word) 3 0 = 6) ∧ State.getB st3 Blk.sys 68 8 = true) := by
  decide +kernel

theorem wit_ReadsAndBusFailures_1 :
    (blkOfPage (Blk.pg Blk.sys) = some Blk.sys ∧ 68 < 4096 ∧ 68 % 4 = 0 ∧ State.gateMisses live A0 Blk.sys = false ∧
     live.check.parity = none ∧ State.present live Blk.sys = true ∧ quietReg Blk.sys 68 = true) := by
  decide +kernel

theorem wit_ReadsAndBusFailures_2 :
    (blkOfPage (Blk.pg (Blk.csi 0)) = some (Blk.csi 0) ∧ 296 < 4096 ∧ 296 % 4 = 0 ∧ State.gateMisses st4 A0 (Blk.csi 0) =
     false ∧ st4.check.parity = none ∧ State.present st4 (Blk.csi 0) = true ∧ (Option.getD (Option.map (fun (x : RegRow) =>
     x.rc) (rowAt (Blk.csi 0) 296)) false = true) ∧ mayRead st4 A0 (Blk.csi 0) 296 = true) := by
  decide +kernel

theorem wit_ReadsAndBusFailures_3 :
    (blkOfPage (Blk.pg (Blk.csi 0)) = some (Blk.csi 0) ∧ 296 < 4096 ∧ 296 % 4 = 0 ∧ State.gateMisses st4 BV (Blk.csi 0) =
     false ∧ st4.check.parity = none ∧ State.present st4 (Blk.csi 0) = true ∧ mayRead st4 BV (Blk.csi 0) 296 = false) := by
  decide +kernel

theorem wit_ReadsAndBusFailures_4 :
    (blkOfPage (Blk.pg Blk.sys) = some Blk.sys ∧ 68 < 4096 ∧ 68 % 4 = 0 ∧ State.gateMisses dark A0 Blk.sys = false ∧
     dark.check.parity = none ∧ reaches dark A0 Blk.sys = false) := by
  decide +kernel

theorem wit_ReadsAndBusFailures_5 :
    (blkOfPage (Blk.pg Blk.sys) = some Blk.sys ∧ 68 < 4096 ∧ 68 % 4 = 0 ∧ State.gateMisses live A0 Blk.sys = false ∧
     live.check.parity = none ∧ State.present live Blk.sys = true ∧ quietReg Blk.sys 68 = true ∧ A0 ≠ Master.xspi ∧ SMap.get?
     live.jobs (Blk.pg Blk.sys) = none) := by
  decide +kernel

theorem wit_ReadsAndBusFailures_6 :
    (blkOfPage (Blk.pg Blk.sys) = some Blk.sys ∧ 68 < 4096 ∧ 68 % 4 = 0 ∧ State.gateMisses oct A0 Blk.sys = false ∧
     oct.check.parity = none ∧ State.present oct Blk.sys = true ∧ quietReg Blk.sys 68 = true ∧ SMap.get? oct.jobs (Blk.pg
     Blk.sys) = none ∧ State.present oct Blk.hport = true ∧ oct.port.octal = true ∧ oct.port.fifo = [] ∧ oct.held = [] ∧
     oct.port.replay = none) := by
  decide +kernel

theorem wit_ReadsAndBusFailures_7 :
    (blkOfPage (Blk.pg Blk.sys) = some Blk.sys ∧ 68 < 4096 ∧ 68 % 4 = 0 ∧ State.gateMisses live A0 Blk.sys = false ∧
     live.check.parity = none ∧ reaches live A0 Blk.sys = true ∧ A0 ≠ Master.xspi) := by
  decide +kernel

theorem wit_ReadsAndBusFailures_8 :
    (blkOfPage (Blk.pg Blk.sys) = some Blk.sys ∧ 4092 < 4096 ∧ 4092 % 4 = 0 ∧ State.gateMisses oct A0 Blk.sys = false ∧
     oct.check.parity = none ∧ State.present oct Blk.sys = true ∧ State.present oct Blk.hport = true ∧ oct.port.octal = true ∧
     1 ≤ 1 ∧ 1 ≤ 64 ∧ 4092 + 4 * 1 ≤ 4096 ∧ oct.port.fifo = [] ∧ oct.held = [] ∧ oct.port.replay = none) := by
  decide +kernel

theorem wit_PortCommandsOfTheirOwn_1 :
    (State.present live Blk.hport = true) := by
  decide +kernel

theorem wit_PortCommandsOfTheirOwn_2 :
    (State.present st5 Blk.hport = true) := by
  decide +kernel

theorem wit_PortCommandsOfTheirOwn_3 :
    (State.present live Blk.hport = true) := by
  decide +kernel

theorem wit_PortCommandsOfTheirOwn_4 :
    (State.present live Blk.hport = true) := by
  decide +kernel

theorem wit_PortCommandsOfTheirOwn_5 :
    (State.present st6 Blk.hport = true ∧ st6.port.armed = true) := by
  decide +kernel

theorem wit_PortCommandsOfTheirOwn_6 :
    (State.present live Blk.hport = true ∧ ¬BitVec.toNat (48 : Byte) ∈ [49, 50, 65, 66, 5, 159, 232, 102, 153] ∧ (207 : Byte)
     = ~~~(48 : Byte)) := by
  decide +kernel

theorem wit_RegisterCommandsOfThePort_1 :
    (State.present st7 Blk.hport = true ∧ st7.port.octal = true ∧ (Blk.sens = Blk.belv ∨ Blk.sens = Blk.sens ∨ Blk.sens =
     Blk.ora) ∧ Applies st7 Master.xspi Blk.sens offEn (65295 : Word) ones ∧ st7.port.fifo = [] ∧ crc8 (List.reverse (leBytes
     (Blk.at Blk.sens offEn) 4) ++ [BitVec.ofNat 8 1] ++ leBytes 65295 4) = crc8 (List.reverse (leBytes (Blk.at Blk.sens
     offEn) 4) ++ [BitVec.ofNat 8 1] ++ leBytes (BitVec.toNat (65295 : Word)) 4)) := by
  decide +kernel

theorem wit_RegisterCommandsOfThePort_2 :
    (State.present oct Blk.hport = true ∧ oct.port.octal = true ∧ 1 ≤ 2 ∧ 2 ≤ 64 ∧ (crc8 (List.reverse (leBytes 1073745916 4)
     ++ [BitVec.ofNat 8 2] ++ leBytes 65295 4 ++ leBytes 7 4) = crc8 (List.reverse (leBytes (BitVec.toNat (BitVec.ofNat 32
     1073745916)) 4) ++ leBytes 2 1 ++ List.flatMap (fun (w : Word) => leBytes (BitVec.toNat w) 4) [BitVec.ofNat 32 65295,
     BitVec.ofNat 32 7])) ∧ (~~~crc8 (List.reverse (leBytes 1073745916 4) ++ [BitVec.ofNat 8 2] ++ leBytes 65295 4 ++ leBytes
     7 4) = ~~~crc8 (List.reverse (leBytes (BitVec.toNat (BitVec.ofNat 32 1073745916)) 4) ++ leBytes 2 1 ++ List.flatMap (fun
     (w : Word) => leBytes (BitVec.toNat w) 4) [BitVec.ofNat 32 65295, BitVec.ofNat 32 7])) ∧ (inRegSpace (BitVec.toNat
     (BitVec.ofNat 32 1073745916)) = false ∨ 4096 < BitVec.toNat (BitVec.ofNat 32 1073745916) % 4096 + 4 * 2)) ∧
    (State.present oct Blk.hport = true ∧ oct.port.octal = true ∧ 1 ≤ 1 ∧ 1 ≤ 64 ∧ (BitVec.ofNat 8 0 ≠ crc8 (List.reverse
     (leBytes (BitVec.toNat (wd (Blk.at Blk.sens offEn))) 4) ++ leBytes 1 1 ++ List.flatMap (fun (w : Word) => leBytes
     (BitVec.toNat w) 4) [BitVec.ofNat 32 65295]) ∨ BitVec.ofNat 8 0 ≠ ~~~BitVec.ofNat 8 0) ∧ (¬(inRegSpace (BitVec.toNat (wd
     (Blk.at Blk.sens offEn))) = false ∨ 4096 < BitVec.toNat (wd (Blk.at Blk.sens offEn)) % 4096 + 4 * 1))) := by
  refine ⟨?_, ?_⟩ <;> decide +kernel

theorem wit_RegisterCommandsOfThePort_3 :
    (State.present st9 Blk.hport = true ∧ st9.port.octal = true ∧ blkOfPage (Blk.pg Blk.sens) = some Blk.sens ∧ offEn < 4096 ∧
     offEn % 4 = 0 ∧ st9.port.replay = some (Blk.at Blk.sens offEn, 1, [BitVec.ofNat 32 5])) ∧
    (State.present st8 Blk.hport = true ∧ st8.port.octal = true ∧ blkOfPage (Blk.pg Blk.sens) = some Blk.sens ∧ offEn < 4096 ∧
     offEn % 4 = 0 ∧ State.present st8 Blk.sens = true ∧ quietReg Blk.sens offEn = true ∧ st8.port.fifo = [] ∧ st8.held = [] ∧
     st8.port.replay = none ∧ st8.check.parity = none) := by
  refine ⟨?_, ?_⟩ <;> decide +kernel

theorem wit_RegisterCommandsOfThePort_4 :
    (State.present live Blk.hport = true ∧ live.port.octal = false) := by
  decide +kernel

theorem wit_TheWindowMovesWords_1 :
    (State.present win Blk.hport = true ∧ Applies win X Blk.hport 84 (3 : Word) ones ∧ bit (3 : Word) 1 = true ∧
     State.winActive win = false ∧ State.winCount win ≠ 0 ∧ inRegSpace (State.winAddr win) = false) := by
  decide +kernel

theorem wit_TheWindowMovesWords_2 :
    (State.present live Blk.hport = true ∧ Applies live X Blk.hport 84 (2 : Word) ones ∧ bit (2 : Word) 1 = true ∧
     State.winActive live = false ∧ State.winCount live = 0) := by
  decide +kernel

theorem wit_TheWindowMovesWords_3 :
    (State.present st10 Blk.hport = true ∧ Applies st10 X Blk.hport 84 (2 : Word) ones ∧ bit (2 : Word) 1 = true ∧
     State.winActive st10 = false ∧ State.winCount st10 ≠ 0 ∧ inRegSpace (State.winAddr st10) = true) := by
  decide +kernel

theorem wit_TheWindowMovesWords_4 :
    (State.present winR Blk.hport = true ∧ Applies winR X Blk.hport 84 ((0 : Word) ||| (4 : Word)) ones ∧ bit (0 : Word) 1 =
     false ∧ State.winActive winR = true ∧ bit (0 : Word) 0 = State.winWrites winR ∧ winR.port.fifo = []) := by
  decide +kernel

theorem wit_TheWindowMovesWords_5 :
    (State.present winW Blk.hport = true ∧ Applies winW X Blk.hport 84 ((1 : Word) ||| (4 : Word)) ones ∧ bit (1 : Word) 1 =
     false ∧ State.winActive winW = true ∧ bit (1 : Word) 0 = true ∧ State.winWrites winW = true ∧ winW.port.fifo = [(7 :
     Word)] ∧ firstFail winW Agent.window (State.winNext winW) 4 true = none ∧ windowOf (State.winNext winW) = some
     (Region.dram, 2147483648, 17179869184) ∧ Region.dram ∈ [Region.dram, Region.gtSram, Region.belvSram, Region.dispSram] ∧
     winW.ddr.queue = []) := by
  decide +kernel

theorem wit_TheWindowMovesWords_6 :
    (State.present winW Blk.hport = true ∧ Applies winW X Blk.hport 88 (0 : Word) ones ∧ State.winActive winW = true ∧
     State.winWrites winW = true ∧ 0 < State.winCount winW ∧ List.length winW.port.fifo < 64) := by
  decide +kernel

theorem wit_TheWindowMovesWords_7 :
    (State.present win Blk.hport = true ∧ Applies win X Blk.hport 88 (0 : Word) ones ∧ State.winActive win = false) := by
  decide +kernel

theorem wit_TheWindowMovesWords_8 :
    (State.present winW Blk.hport = true ∧ winW.port.octal = true ∧ State.winActive winW = true ∧ State.winWrites winW = true
     ∧ 2 ≤ State.winCount winW ∧ List.length winW.port.fifo ≤ 62) := by
  decide +kernel

theorem wit_TheWindowMovesWords_9 :
    (State.present winR Blk.hport = true ∧ Master.dom winR X = State.owner winR Blk.hport ∧ State.owner winR Blk.hport ≠ 0 ∧
     State.winActive winR = true ∧ State.winWrites winR = false ∧ winR.port.prefetch = [(7 : Word), (8 : Word)]) := by
  decide +kernel

theorem wit_TheWindowMovesWords_10 :
    (State.present winR Blk.hport = true ∧ winR.port.octal = true ∧ winR.held = [] ∧ winR.port.fifo = [] ∧ State.winActive
     winR = true ∧ State.winWrites winR = false ∧ winR.port.prefetch = [(7 : Word), (8 : Word)]) := by
  decide +kernel

theorem wit_TheWindowMovesWords_11 :
    (State.present st11 Blk.hport = true ∧ State.winActive st11 = true ∧ State.winCount st11 = 0 ∧ st11.port.fifo = []) := by
  decide +kernel

theorem wit_TheWindowMovesWords_12 :
    (State.present st12 Blk.hport = true ∧ State.winActive st12 = true ∧ (if State.winWrites st12 = true then st12.port.fifo ≠
     [] else 0 < State.winLeft st12 ∧ List.length st12.port.prefetch < 64) ∧ State.winLeft st12 < 2 ^ 24 ∧ State.winNext st12
     < 2 ^ 40) := by
  decide +kernel

end T02b

namespace T03

abbrev A1 : Master := .application 1
abbrev tm (f l : Bool) : State :=
    {live with time := {live.time with fine := f, aoLost := l, acc := 1249, s := 999, since := 2048, sinceSy := 1000}}
abbrev c : State := live.setN .time (cmpOff 7 + 0xC) 0x53
abbrev arm : State :=
    {(((live.setN .time (cmpOff 2 + 0xC) 0x10053).setN .time (cmpOff 2 + 8) 0x50000).setN .time (cmpOff 2) 0).setN .time (cmpOff 2 + 4) 3 with time := {live.time with a := (0x3000C8000 / 1000), s := 0x3000C8000 % 1000}}
abbrev st1 : State := tm true true
abbrev st2 : State := tm false true
abbrev st3 : State := tm true false
abbrev st4 : State := {live with time := {live.time with a := 12345678901}}
abbrev st5 : State := c.setN .time (cmpOff 7 + 0x10) 9
abbrev st6 : State := arm.setN .time (cmpOff 2 + 0xC) 0x10051

theorem wit_TicksAndStrobesCount_1 :
    (State.aoUp st1 = true) := by
  decide +kernel

theorem wit_TicksAndStrobesCount_2 :
    (State.aoUp st1 = true ∧ st1.time.fine = true ∧ st1.time.acc < 1250) := by
  decide +kernel

theorem wit_TicksAndStrobesCount_3 :
    (State.aoUp st2 = true ∧ st2.time.fine = false) := by
  decide +kernel

theorem wit_TicksAndStrobesCount_4 :
    (State.aoUp st1 = true ∧ st1.time.fine = true ∧ st1.time.aoLost = true ∧ 1000 ≤ st1.time.sinceSy) := by
  decide +kernel

theorem wit_TicksAndStrobesCount_5 :
    (State.aoUp st3 = true ∧ st3.time.fine = true ∧ st3.time.aoLost = false ∧ 2048 ≤ st3.time.since) := by
  decide +kernel

theorem wit_DeviceTimeReadsAreCoherent :
    (State.present st4 Blk.time = true ∧ State.gateMisses st4 A1 Blk.time = false ∧ st4.check.parity = none) := by
  decide +kernel

theorem wit_ComparatorsAreWrittenAndRead_1 :
    (Applies c A1 Blk.time (cmpOff 7) (4294967295 : Word) ones) := by
  decide +kernel

theorem wit_ComparatorsAreWrittenAndRead_2 :
    (Applies c A1 Blk.time (cmpOff 7 + 4) (4294967295 : Word) ones) := by
  decide +kernel

theorem wit_ComparatorsAreWrittenAndRead_3 :
    (Applies c A1 Blk.time (cmpOff 7 + 8) (32 : Word) ones ∧ (32 ≤ BitVec.toNat (32 : Word) ∨ State.getF c Blk.time (cmpOff 7
     + 12) 1 0 ≠ 3)) := by
  decide +kernel

theorem wit_ComparatorsAreWrittenAndRead_4 :
    (Applies c A1 Blk.time (cmpOff 7 + 8) (31 : Word) ones ∧ BitVec.toNat (31 : Word) < 32 ∧ State.getF c Blk.time (cmpOff 7 +
     12) 1 0 = 3) := by
  decide +kernel

theorem wit_ComparatorsAreWrittenAndRead_5 :
    (Applies live A1 Blk.time (cmpOff 7 + 12) (80 : Word) ones ∧ (fld (80 : Word) 7 4 = 0 ∨ fld (80 : Word) 7 4 = Master.dom
     live A1 ∨ Master.dom live A1 = 1 ∨ Master.dom live A1 = 2) ∧ (fld (80 : Word) 1 0 ≠ 3 ∨ 32 ≤ State.getN live Blk.time
     (cmpOff 7 + 8))) := by
  decide +kernel

theorem wit_ComparatorsAreWrittenAndRead_6 :
    (Applies c A1 Blk.time (cmpOff 7 + 12) (96 : Word) ones ∧ fld (96 : Word) 7 4 ≠ 0 ∧ fld (96 : Word) 7 4 ≠ Master.dom c A1
     ∧ 2 < Master.dom c A1 ∧ fld (96 : Word) 1 0 ≠ 3) := by
  decide +kernel

theorem wit_ComparatorsAreWrittenAndRead_7 :
    (State.present st5 Blk.time = true ∧ State.getF st5 Blk.time (cmpOff 7 + 12) 7 4 = Master.dom st5 A1 ∧ Master.dom st5 A1 ≠
     0) := by
  decide +kernel

theorem wit_ComparatorsFire_2 :
    (State.present arm Blk.time = true ∧ State.getB arm Blk.time (cmpOff 2 + 12) 16 = true ∧ State.getB arm Blk.time (cmpOff 2
     + 12) 0 = true ∧ State.get64 arm Blk.time (cmpOff 2) ≤ State.dt arm ∧ State.getB arm Blk.time (cmpOff 2 + 12) 1 = true ∧
     32 ≤ State.getN arm Blk.time (cmpOff 2 + 8) ∧ State.dt arm + State.getN arm Blk.time (cmpOff 2 + 8) < 2 ^ 64) := by
  decide +kernel

theorem wit_ComparatorsFire_1 :
    (State.present st6 Blk.time = true ∧ State.getB st6 Blk.time (cmpOff 2 + 12) 16 = true ∧ State.getB st6 Blk.time (cmpOff 2
     + 12) 0 = true ∧ State.get64 st6 Blk.time (cmpOff 2) ≤ State.dt st6 ∧ State.getB st6 Blk.time (cmpOff 2 + 12) 1 = false)
     := by
  decide +kernel

end T03

namespace T04

abbrev BV : Master := .belvedere
abbrev P (s : State) (f : PowerSt → PowerSt) : State := {s with power := f s.power}
abbrev opx (app r : Bool) : State := P ((live.setN .pwr (opOff app) (0x1003302)).setN .time 0 0) (fun p => let x := some {target := 2, raise := r, since := 0}; if app then {p with opApp := x} else {p with opNpu := x})
abbrev tm (s : State) : State := {s with time := {s.time with a := 100}}
abbrev dr : State := tm (P (live.setN .pwr 0x58 1) (fun p => {p with goDt := some 0}))
abbrev hot (s : State) (n t : Nat) : State := s.setN .sens (0x40 + 4*n) (0x80000000 + t)
abbrev fw1 : State := live.setComp 1 { live.comp 1 with state := 2 }
abbrev late (s : State) : State := {s with time := {s.time with a := 40000}}
abbrev st1 : State := P live (fun p => {p with rails := 0x5FF})
abbrev st2 : State := P live (fun p => {p with rails := 0x7FE, pstate := .off})
abbrev st3 : State := P live (fun p => {p with pstate := .aoHeld})
abbrev st4 : State := P live (fun p => {p with pstate := .held})
abbrev st5 : State := tm (opx false true)
abbrev va6 : OpChange := {target := 2, raise := true, since := 0}
abbrev st7 : State := tm (opx true true)
abbrev st8 : State := State.reset |> fun s => {s with belvSec := false}
abbrev st9 : State := State.reset.setN .clk 0x40 0x201
abbrev st10 : State := State.reset.setN .clk 0x40 0x303
abbrev st11 : State := P dr (fun p => {p with wakePend := some 5})
abbrev st12 : State := (P dr (fun p => {p with wakePend := some 5, past := true})).setN .pwr 0x58 2
abbrev st13 : State := P live (fun p => {p with pstate := .sleep, wakePend := some 5})
abbrev st14 : State := P live (fun p => {p with pstate := .waking})
abbrev st15 : State := P (late (hot (hot fw1 0 680) 11 80)) (fun p => {p with tmax := [680,1]})
abbrev st16 : State := hot live 11 880
abbrev st17 : State := (hot live 11 800).setN .pwr 0x6C 0xB01
abbrev st18 : State := (hot live 11 801).setN .pwr 0x6C 0xB01
abbrev st19 : State := hot live 11 960
abbrev st20 : State := live.setN (.csq 3) 0x40 0x11

theorem wit_SuppliesAndResets_1 :
    ((9 = 4 ∨ 9 = 5 ∨ 9 = 9) ∧ st1.power.pstate = PState.run ∧ State.rail st1 9 = false ∧ State.rail st1 2 = true ∧ State.rail
     st1 3 = true ∧ State.rail st1 10 = true ∧ State.rail st1 6 = true ∧ State.rail st1 7 = true ∧ State.rail st1 8 = true) :=
     by
  decide +kernel

theorem wit_SuppliesAndResets_2 :
    ((10 = 4 ∨ 10 = 5 ∨ 10 = 9 ∨ 10 = 10) ∧ live.power.pstate = PState.run ∧ State.rail live 10 = true ∧ State.rail live 2 =
     true ∧ State.rail live 3 = true) := by
  decide +kernel

theorem wit_SuppliesAndResets_3 :
    ((3 = 2 ∨ 3 = 3) ∧ live.power.pstate = PState.run ∧ State.sleepDue live = false ∧ State.rail live 3 = true) := by
  decide +kernel

theorem wit_SuppliesAndResets_4 :
    (st2.power.pstate = PState.off) := by
  decide +kernel

theorem wit_SuppliesAndResets_5 :
    (st3.power.pstate = PState.aoHeld) := by
  decide +kernel

theorem wit_SuppliesAndResets_6 :
    (st4.power.pstate = PState.held ∧ State.rail st4 0 = true ∧ State.rail st4 2 = true ∧ State.rail st4 3 = true ∧ State.rail
     st4 10 = true ∧ st4.power.thermOff = false) := by
  decide +kernel

theorem wit_SuppliesAndResets_7 :
    (live.power.pstate = PState.run ∧ State.rail live 0 = true ∧ State.rail live 2 = true ∧ State.rail live 3 = true ∧
     State.rail live 10 = true) := by
  decide +kernel

theorem wit_SuppliesAndResets_8 :
    (Applies live BV Blk.pwr 112 (23294 : Word) ones ∧ BV ≠ Master.xspi ∧ live.power.pstate = PState.run ∧ State.rail live 10
     = true) := by
  decide +kernel

theorem wit_SuppliesAndResets_9 :
    (Applies live BV Blk.pwr 112 (23295 : Word) ones ∧ (23295 : Word) ≠ (23294 : Word)) := by
  decide +kernel

theorem wit_OperatingPointsChange_1 :
    (live.power.goDt = none ∧ Applies live BV Blk.pwr (opOff false) (13058 : Word) (13059 : Word) ∧ State.pageLocked live
     Blk.pwr = false ∧ State.opNow live false = none ∧ State.opTarget live false = State.opCur live false ∧ fld (13058 : Word)
     9 8 ≤ fld (13058 : Word) 13 12 ∧ State.opCur live false < min (fld (13058 : Word) 1 0) (fld (13058 : Word) 9 8)) := by
  decide +kernel

theorem wit_OperatingPointsChange_2 :
    (st5.power.goDt = none ∧ false = false ∧ st5.power.opNpu = some va6 ∧ va6.target ≤ 3 ∧ State.opTarget st5 false =
     va6.target ∧ (va6.raise = true → va6.since + State.settle st5 false ≤ State.dt st5) ∧ (∀ (k : Fin 4), State.csqPhase st5
     ↑k ≠ 1 ∧ State.csqPhase st5 ↑k ≠ 2)) := by
  decide +kernel

theorem wit_OperatingPointsChange_3 :
    (st7.power.goDt = none ∧ true = true ∧ st7.power.opApp = some va6 ∧ va6.target ≤ 3 ∧ State.opTarget st7 true = va6.target
     ∧ (va6.raise = true → va6.since + State.settle st7 true ≤ State.dt st7) ∧ st7.app.rst = none) := by
  decide +kernel

theorem wit_OperatingPointsChange_4 :
    (st5.power.goDt = none ∧ State.opNow st5 false = some va6 ∧ va6.raise = true ∧ va6.since + 2 * State.settle st5 false ≤
     State.dt st5 ∧ State.opTarget st5 false = va6.target) := by
  decide +kernel

theorem wit_ClocksAreRequestedAndReleased_2 :
    ((Applies st8 BV Blk.clk (if false = true then 84 else 80) (BitVec.ofNat 32 1 <<< 7) ones) ∧ bit ones 7 = true ∧
     (State.clkHas st8 (7 + if false = true then 32 else 0) = true) ∧ (State.pllLocked st8 (pllOf (7 + if false = true then 32
     else 0)) = false)) := by
  decide +kernel

theorem wit_ClocksAreRequestedAndReleased_3 :
    ((Applies live BV Blk.clk (if false = true then 92 else 88) (BitVec.ofNat 32 1 <<< 2) (4294967292 : Word)) ∧ bit
     (4294967292 : Word) 2 = true ∧ (2 ≤ 2 + if false = true then 32 else 0) ∧ (State.clkHas live (2 + if false = true then 32
     else 0) = true) ∧ (State.clkInUse live (2 + if false = true then 32 else 0) = false)) := by
  decide +kernel

theorem wit_ClocksAreRequestedAndReleased_4 :
    ((Applies live BV Blk.clk (if true = true then 92 else 88) (BitVec.ofNat 32 1 <<< 18) (268435455 : Word)) ∧ bit (268435455
     : Word) 18 = true ∧ (2 ≤ 18 + if true = true then 32 else 0) ∧ (State.clkHas live (18 + if true = true then 32 else 0) =
     true) ∧ (State.clkInUse live (18 + if true = true then 32 else 0) = true)) := by
  decide +kernel

theorem wit_ClocksAreRequestedAndReleased_5 :
    (State.present st9 Blk.clk = true ∧ State.pllRuns st9 1 = true ∧ State.pllLocked st9 1 = false) := by
  decide +kernel

theorem wit_ClocksAreRequestedAndReleased_6 :
    (1 ≠ 0 ∧ State.present st10 Blk.clk = true ∧ State.pllRuns st10 1 = true ∧ (∀ (x : Fin 60), pllOf ↑x = 1 → State.clkReq
     st10 ↑x = false)) := by
  decide +kernel

theorem wit_SleepIsEnteredAndLeft_1 :
    (Applies live BV Blk.pwr 84 (1 : Word) ones ∧ bit (1 : Word) 0 = true ∧ (∀ (k : Fin 4), State.csqPhase live ↑k = 0) ∧
     State.getN live Blk.xfe 68 = 0 ∧ live.power.opNpu = none ∧ live.power.opApp = none ∧ live.power.goDt = none) := by
  decide +kernel

theorem wit_SleepIsEnteredAndLeft_3 :
    (State.draining dr = true ∧ State.mqOcc dr = 0 ∧ dr.power.wakePend = none) := by
  decide +kernel

theorem wit_SleepIsEnteredAndLeft_4 :
    (State.draining dr = true ∧ dr.power.goDt = some 0 ∧ 0 + 1639 ≤ State.dt dr ∧ State.opTarget dr true = State.opCur dr true
     ∧ State.opTarget dr false = State.opCur dr false) := by
  decide +kernel

theorem wit_SleepIsEnteredAndLeft_5 :
    (State.draining st11 = true ∧ st11.power.wakePend = some 5 ∧ State.opTarget st11 true = State.opCur st11 true ∧
     State.opTarget st11 false = State.opCur st11 false) := by
  decide +kernel

theorem wit_SleepIsEnteredAndLeft_6 :
    (State.sleepDue st12 = true) := by
  decide +kernel

theorem wit_SleepIsEnteredAndLeft_7 :
    (State.wakeDue st13 = true) := by
  decide +kernel

theorem wit_SleepIsEnteredAndLeft_8 :
    (st14.power.pstate = PState.waking ∧ st14.power.slowWake = false) := by
  decide +kernel

theorem wit_ThermalRulesHold_1 :
    (State.temps st15 = [(680 : Int), (80 : Int)] ∧ State.fwRuns st15 1 = true ∧ st15.power.pstate = PState.run ∧
     st15.power.goDt = none ∧ st15.power.govDt + 32768000 ≤ State.dt st15 ∧ (∀ (app : Bool), State.getF st15 Blk.pwr (opOff
     app) 9 8 ≤ State.getF st15 Blk.pwr (opOff app) 13 12)) := by
  decide +kernel

theorem wit_ThermalRulesHold_2 :
    (State.present st16 Blk.pwr = true ∧ State.temp st16 11 = some (880 : Int) ∧ (880 : Int) ≤ (880 : Int) ∧ State.getB st16
     Blk.pwr 108 0 = false) := by
  decide +kernel

theorem wit_ThermalRulesHold_3 :
    (Applies st17 BV Blk.pwr 108 (1 : Word) ones ∧ bit (1 : Word) 0 = true ∧ ((List.any (State.temps st17) fun (x : Int) =>
     decide ((800 : Int) < x)) = false)) := by
  decide +kernel

theorem wit_ThermalRulesHold_4 :
    (Applies st18 BV Blk.pwr 108 (1 : Word) ones ∧ bit (1 : Word) 0 = true ∧ ((List.any (State.temps st18) fun (x : Int) =>
     decide ((800 : Int) < x)) = true)) := by
  decide +kernel

theorem wit_ThermalRulesHold_5 :
    (State.present st19 Blk.pwr = true ∧ State.temp st19 11 = some (960 : Int) ∧ (960 : Int) ≤ (960 : Int)) := by
  decide +kernel

theorem wit_SleepIsEnteredAndLeft_2 :
    (Applies st20 BV Blk.pwr 84 (1 : Word) ones ∧ bit (1 : Word) 0 = true ∧ (∃ (k : Fin 4), State.csqPhase st20 ↑k = 1 ∨
     State.csqPhase st20 ↑k = 2)) := by
  decide +kernel

end T04

namespace T04b

abbrev BV : Master := .belvedere
abbrev st1 : State := State.reset |> fun s => {s with belvSec := false}

theorem wit_ClocksAreRequestedAndReleased_1 :
    ((Applies st1 BV Blk.clk (if false = true then 84 else 80) (BitVec.ofNat 32 1 <<< 2) ones) ∧ bit ones 2 = true ∧
     (State.clkHas st1 (2 + if false = true then 32 else 0) = true) ∧ (State.pllLocked st1 (pllOf (2 + if false = true then 32
     else 0)) = true)) := by
  decide +kernel

end T04b

namespace T05

abbrev BV : Master := .belvedere
abbrev big : State := live.setN .ddrc 0x44 2048
abbrev deny : State := (((big.setN .fw 0x200 0x80000).setN .fw 0x204 0x80FFF).setN .fw 0x208 0x80000000)
abbrev phy : State := (State.reset.setB .ddrphy offStatus 0 true).setN .ddrc 0x40 0x225
abbrev D (s : State) (f : DdrSt → DdrSt) : State := {s with ddr := f s.ddr}
abbrev tr (a : Nat) (d : Bool) : State := D (phy.setN .ddrphy 0x44 4) (fun x =>
    {x with train := some (0x225, d), attempts := a})
abbrev T (s : State) : State := {s with time := {s.time with a := 100000}}
abbrev rq (p : Fin 9) (c : Fin 4) (a : Nat) (d : Option (List Byte)) : DdrReq :=
    {port := p, chan := 3, addr := a, cls := c, data := d, aged := false}
abbrev up : State := D (T (big.setN .ddrc 0x54 5)) (fun x => {x with trkA := 1, trkB := 2, offDt := none})
abbrev act (s : State) : State := s.setChan 3
    {s.chan 3 with active := some {words := [8], written := 0, agent := 0x83, released := false, loop := none}}
abbrev q1 : State := D up (fun x => {x with queue := [rq 0 0 0x80000010 (some [1,2])]})
abbrev st1 : State := big.setB .ddrc offStatus 0 false
abbrev st2 : State := ((big.setN .fw 0x200 0x30000).setN .fw 0x204 0x30FFF).setN .fw 0x208 0x80000000
abbrev st3 : State := {big with mem := [(0x80000000,5),(0x80000001,6)]}
abbrev st4 : State := live.setB .ddrphy offStatus 0 true
abbrev st5 : State := tr 0 false
abbrev st6 : State := phy.setN .ddrc 0x40 6
abbrev st7 : State := tr 1 true
abbrev st8 : State := tr 2 true
abbrev st9 : State := act up
abbrev st10 : State := D q1 (fun x => {x with queue := [rq 0 0 0x80000010 (some [1,2]), rq 4 1 0x80000050 (some [2])]})

theorem wit_MemoryIsReachedByAddress_1 :
    (hearsBusErrors Agent.window = true ∧ windowOf 805830656 = some (Region.gtSram, 805306368, 16777216) ∧ reachesRegion
     Agent.window Region.gtSram = true ∧ Region.gtSram ≠ Region.orangery ∧ Region.gtSram ≠ Region.registers ∧ Region.gtSram ≠
     Region.dram ∧ (Region.gtSram = Region.rom ∧ false = true ∨ 805306368 + State.backed big Region.gtSram ≤ 805830656)) := by
  decide +kernel

theorem wit_MemoryIsReachedByAddress_2 :
    (hearsBusErrors (Agent.cpu Master.gatehouse) = true ∧ windowOf 5 = some (Region.rom, 0, 65536) ∧ reachesRegion (Agent.cpu
     Master.gatehouse) Region.rom = false ∧ Region.rom ≠ Region.dram) := by
  decide +kernel

theorem wit_MemoryIsReachedByAddress_3 :
    (hearsBusErrors Agent.window = true ∧ windowOf 19327352832 = none) := by
  decide +kernel

theorem wit_MemoryIsReachedByAddress_4 :
    (hearsBusErrors Agent.window = true ∧ reachesRegion Agent.window Region.dram = true ∧ dramBase + State.dramSize big ≤
     6442450944 ∧ 6442450944 < dramEnd ∧ State.enabled big Blk.ddrc = true) := by
  decide +kernel

theorem wit_MemoryIsReachedByAddress_5 :
    (hearsBusErrors Agent.window = true ∧ reachesRegion Agent.window Region.dram = true ∧ dramBase ≤ 6442450944 ∧ 6442450944 <
     dramEnd ∧ State.enabled st1 Blk.ddrc = false) := by
  decide +kernel

theorem wit_MemoryIsReachedByAddress_6 :
    (hearsBusErrors (Agent.cpu Master.gatehouse) = true ∧ accJudge st2 (Agent.cpu Master.gatehouse) 805306368 true = Acc.deny
     0) := by
  decide +kernel

theorem wit_MemoryIsReachedByAddress_7 :
    (hearsBusErrors (Agent.cpu BV) = true ∧ regMaster (Agent.cpu BV) 2147483648 = none ∧ firstFail st3 (Agent.cpu BV)
     2147483648 2 false = none ∧ st3.ddr.queue = []) := by
  decide +kernel

theorem wit_MemoryIsReachedByAddress_8 :
    (hearsBusErrors (Agent.cpu BV) = true ∧ regMaster (Agent.cpu BV) 2147483648 = none ∧ firstFail st3 (Agent.cpu BV)
     2147483648 (List.length [(1 : Byte), (2 : Byte)]) true = none ∧ st3.ddr.queue = [] ∧ (∀ (x : Region × Nat × Nat), x ∈
     Option.toList (windowOf 2147483648) → x.fst ≠ Region.orangery ∧ ∀ (n : Fin 16), x.fst = Region.tile ↑n → State.getF st3
     (Blk.nc ↑n) 72 1 0 = 0) ∧ (∀ (c : Fin 4), Agent.cpu BV ≠ Agent.cpu (Master.application c))) := by
  decide +kernel

theorem wit_DramIsTrained_1 :
    (Applies st5 BV Blk.ddrphy 64 (1 : Word) ones ∧ bit (1 : Word) 0 = true ∧ State.enabled st5 Blk.ddrphy = true ∧
     Option.isSome st5.ddr.train = true) ∧
    (Applies live BV Blk.ddrphy 64 (1 : Word) ones ∧ bit (1 : Word) 0 = true ∧ State.enabled live Blk.ddrphy = false) ∧
    (Applies st6 BV Blk.ddrphy 64 (1 : Word) ones ∧ bit (1 : Word) 0 = true ∧ State.enabled st6 Blk.ddrphy = true ∧
     st6.ddr.train = none ∧ State.enabled st6 Blk.ddrc = false ∧ (6 ≤ State.getF st6 Blk.ddrc 64 2 0 ∨ 5 ≤ State.getF st6
     Blk.ddrc 64 10 8)) ∧
    (Applies phy BV Blk.ddrphy 64 (1 : Word) ones ∧ bit (1 : Word) 0 = true ∧ State.enabled phy Blk.ddrphy = true ∧
     phy.ddr.train = none ∧ State.enabled phy Blk.ddrc = false ∧ State.getF phy Blk.ddrc 64 2 0 < 6 ∧ State.getF phy Blk.ddrc
     64 10 8 < 5 ∧ (∀ (d : Nat), phy.ddr.offDt = some d → State.dt phy ≤ d + 1048576)) ∧
    (Applies st4 BV Blk.ddrphy 64 (1 : Word) ones ∧ bit (1 : Word) 0 = true ∧ State.enabled st4 Blk.ddrphy = true ∧
     st4.ddr.train = none ∧ State.enabled st4 Blk.ddrc = true) := by
  refine ⟨?_, ?_, ?_, ?_, ?_⟩ <;> decide +kernel

theorem wit_DramIsTrained_2 :
    (st5.ddr.train = some ((549 : Word), false)) := by
  decide +kernel

theorem wit_DramIsTrained_3 :
    (st7.ddr.train = some ((549 : Word), true) ∧ (3 : Fin 6) ≠ (0 : Fin 6) ∧ st7.ddr.attempts < 2) := by
  decide +kernel

theorem wit_DramIsTrained_4 :
    (st8.ddr.train = some ((549 : Word), true) ∧ (3 : Fin 6) ≠ (0 : Fin 6) ∧ 2 ≤ st8.ddr.attempts) := by
  decide +kernel

theorem wit_TheDramControllerRuns_1 :
    (State.present up Blk.ddrc = true ∧ State.enabled up Blk.ddrc = true ∧ Option.getD (SMap.get? up.ddr.trkDt 1) 0 +
     State.getN up Blk.ddrc 80 ≤ State.dt up) := by
  decide +kernel

theorem wit_TheDramControllerRuns_2 :
    (State.present up Blk.ddrc = true ∧ State.enabled up Blk.ddrc = true) := by
  decide +kernel

theorem wit_TheDramControllerRuns_3 :
    (State.present up Blk.ddrc = true ∧ State.enabled up Blk.ddrc = true) := by
  decide +kernel

theorem wit_TheDramControllerRuns_4 :
    (State.present up Blk.ddrc = true ∧ State.enabled up Blk.ddrc = true ∧ State.getF up Blk.ddrc 84 15 0 ≠ 0 ∧ up.ddr.queue =
     []) := by
  decide +kernel

theorem wit_TheDramControllerRuns_5 :
    (State.present st9 Blk.ddrc = true ∧ State.enabled st9 Blk.ddrc = true ∧ State.inDram st9 (rq (0 : Fin 9) (0 : Fin 4)
     2147483711 (some [(1 : Byte)])).addr 1 = true ∧ (rq (0 : Fin 9) (0 : Fin 4) 2147483711 (some [(1 : Byte)])).addr % 64 +
     Option.getD (Option.map List.length (rq (0 : Fin 9) (0 : Fin 4) 2147483711 (some [(1 : Byte)])).data) 1 ≤ 64 ∧ ((rq (0 :
     Fin 9) (0 : Fin 4) 2147483711 (some [(1 : Byte)])).port ≠ (0 : Fin 9) ∧ 2 = State.getF st9 Blk.ddrc (112 + 4 * ↑(rq (0 :
     Fin 9) (0 : Fin 4) 2147483711 (some [(1 : Byte)])).port) 1 0 ∨ (rq (0 : Fin 9) (0 : Fin 4) 2147483711 (some [(1 :
     Byte)])).port = (0 : Fin 9) ∧ ∃ (a : Active), (State.chan st9 ↑(rq (0 : Fin 9) (0 : Fin 4) 2147483711 (some [(1 :
     Byte)])).chan).active = some a ∧ 2 = min 2 (fld (List.getD a.words 0 (0 : Word)) 3 2))) := by
  decide +kernel

theorem wit_TheDramControllerRuns_6 :
    (State.present q1 Blk.ddrc = true ∧ State.enabled q1 Blk.ddrc = true ∧ q1.ddr.queue[0]? = some (rq (0 : Fin 9) (0 : Fin 4)
     2147483664 (some [(1 : Byte), (2 : Byte)])) ∧ ↑(rq (0 : Fin 9) (0 : Fin 4) 2147483664 (some [(1 : Byte), (2 :
     Byte)])).cls < 2 ∧ ((if ↑(rq (0 : Fin 9) (0 : Fin 4) 2147483664 (some [(1 : Byte), (2 : Byte)])).cls = 0 then State.getF
     q1 Blk.ddrc 88 31 16 else State.getF q1 Blk.ddrc 88 15 0) ≠ 0)) := by
  decide +kernel

theorem wit_TheDramControllerRuns_7 :
    (State.present q1 Blk.ddrc = true ∧ State.enabled q1 Blk.ddrc = true ∧ q1.ddr.queue = [rq (0 : Fin 9) (0 : Fin 4)
     2147483664 (some [(1 : Byte), (2 : Byte)])] ∧ ddrChan (rq (0 : Fin 9) (0 : Fin 4) 2147483664 (some [(1 : Byte), (2 :
     Byte)])).addr = 0) := by
  decide +kernel

theorem wit_TheDramControllerRuns_8 :
    (State.present st10 Blk.ddrc = true ∧ State.enabled st10 Blk.ddrc = true ∧ st10.ddr.queue = [rq (0 : Fin 9) (0 : Fin 4)
     2147483664 (some [(1 : Byte), (2 : Byte)]), rq (4 : Fin 9) (1 : Fin 4) 2147483728 (some [(2 : Byte)])] ∧ ddrChan (rq (0 :
     Fin 9) (0 : Fin 4) 2147483664 (some [(1 : Byte), (2 : Byte)])).addr = 0 ∧ ddrChan (rq (4 : Fin 9) (1 : Fin 4) 2147483728
     (some [(2 : Byte)])).addr = 0 ∧ (rq (0 : Fin 9) (0 : Fin 4) 2147483664 (some [(1 : Byte), (2 : Byte)])).addr / 64 ≠ (rq
     (4 : Fin 9) (1 : Fin 4) 2147483728 (some [(2 : Byte)])).addr / 64 ∧ ↑(rq (0 : Fin 9) (0 : Fin 4) 2147483664 (some [(1 :
     Byte), (2 : Byte)])).cls < ↑(rq (4 : Fin 9) (1 : Fin 4) 2147483728 (some [(2 : Byte)])).cls ∧ ↑(rq (4 : Fin 9) (1 : Fin
     4) 2147483728 (some [(2 : Byte)])).cls < 3 ∧ ((rq (0 : Fin 9) (0 : Fin 4) 2147483664 (some [(1 : Byte), (2 : Byte)])).cls
     = (0 : Fin 4) → (rq (0 : Fin 9) (0 : Fin 4) 2147483664 (some [(1 : Byte), (2 : Byte)])).aged = false)) := by
  decide +kernel

end T05

namespace T06

abbrev BV : Master := .belvedere
abbrev O (s : State) (f : OraSt → OraSt) : State := {s with ora := f s.ora}
def W0 : Word := 0x110F0400#32
def W1 : Word := 0x00010020#32
abbrev mk (w0 w1 w2 : Word) : Slot := {w0 := w0, w1 := w1, w2 := w2, check := slotCheck w0 w1 w2}
abbrev fullE := mk W0 0x00010022 0
abbrev st (w0 w1 : Word) (h : Nat) (e : Slot) : State := O (((((live.setN .st 0x40 h).set .st 0x50 w0).set .st 0x54 w1).setN
    .st 0x5C (slotCheck w0 w1 0).toNat)) (fun o => {o with slots := [(h, e)]})
abbrev tab (e : Slot) (cl : List Claim) : State := O live (fun o => {o with slots := [(0x2A1, e)], claims := cl})
abbrev cc (op len : Nat) (n : Bool) : State :=
    {O (((live.setB .cc offStatus 0 true).setN .cc 0x1C0 op).setN .cc 0x1C8 len) (fun o => {o with jobs := if n then [{ctx := 3, running := false, agent := 0xC3, dirty := false}] else []}) with mem := [(0x10000000, 5), (0x10000001, 6), (0x10000002, 5)]}
abbrev rj (op a : Nat) : State := O ((cc op 3 true).setN .cc 0x1CC a) (fun o =>
    {o with jobs := [{ctx := 3, running := true, agent := 0xC3, dirty := false}]})
abbrev st1 : State := live.setB .ora offStatus 0 false
abbrev st2 : State := (live.setN .ora 0x4C 1).setN .ora 0x50 1
abbrev st3 : State := st W0 W1 4095 fullE
abbrev st4 : State := st W0 W1 4095 (mk W0 0x00011022 0)
abbrev st5 : State := (st W0 W1 4095 fullE).setN .st 0x5C 0
abbrev st6 : State := tab (mk W0 0x20 0) []
abbrev st7 : State := tab {mk W0 W1 0 with check := 0} []
abbrev st8 : State := tab (mk W0 W1 0) []
abbrev st9 : State := tab fullE []
abbrev st10 : State := tab (mk W0 0x12010021 0) []
abbrev va11 : Claim := {agent := 0x12, handle := 0x2A1, reads := false, release := false, fill := true}
abbrev st12 : State := tab (mk W0 0x00012022 0) []
abbrev va13 : Claim := {agent := 0x12, handle := 0x2A1, reads := true, release := false, fill := false}
abbrev st14 : State := tab (mk W0 0x00011123 0) []
abbrev va15 : Claim := {agent := 0x12, handle := 0x2A1, reads := true, release := true, fill := false}
abbrev st16 : State := (cc 0x10000010 3 false).setN .cc 0x1DC 2
abbrev st17 : State := (cc 0x10000010 3 false).setB .ora offStatus 0 false
abbrev st18 : State := (cc 0x10000010 3 false)
abbrev st19 : State := (cc 0x10000010 3 true).setN .cc 0x1DC 1
abbrev st20 : State := rj 0x13 6
abbrev st21 : State := st W0 W1 4095 (mk W0 0x00010020 0)

theorem wit_TheOrangeryTurnsAccessesAway_1 :
    (hearsBusErrors (Agent.cpu BV) = true ∧ 33554431 < 33554432 ∧ reachesRegion (Agent.cpu BV) Region.orangery = true ∧
     State.enabled live Blk.ora = true ∧ Part.oraSize live.part ≤ 33554431) := by
  decide +kernel

theorem wit_TheOrangeryTurnsAccessesAway_2 :
    (hearsBusErrors Agent.window = true ∧ 0 < 33554432 ∧ reachesRegion Agent.window Region.orangery = true ∧ State.enabled st1
     Blk.ora = false) := by
  decide +kernel

theorem wit_TheOrangeryTurnsAccessesAway_3 :
    (hearsBusErrors Agent.window = true ∧ 4096 < 33554432 ∧ reachesRegion Agent.window Region.orangery = true ∧ State.enabled
     st2 Blk.ora = true ∧ 4096 < Part.oraSize st2.part ∧ agentDom st2 Agent.window ≠ 1 ∧ agentDom st2 Agent.window ≠ 2 ∧
     agentDom st2 Agent.window ≠ 4 ∧ inWindow 4096 1 (State.mcRegion st2).fst (State.mcRegion st2).snd = true) := by
  decide +kernel

theorem wit_TheOrangeryTurnsAccessesAway_4 :
    (hearsBusErrors Agent.window = true ∧ 0 < 33554432 ∧ State.present live Blk.ora = true ∧ State.enabled live Blk.ora = true
     ∧ 7 < Part.oraSize live.part ∧ State.getB live Blk.ora 72 ((7 / 64 : Nat) % Part.banks live.part / 4) = true) := by
  decide +kernel

theorem wit_TheSlotTableIsLoadedAndStored_1 :
    (Applies st3 Master.dispatch Blk.st 68 (257 : Word) ones ∧ State.getN st3 Blk.st 64 < 4096 ∧ fld (257 : Word) 2 0 = 1) := by
  decide +kernel

theorem wit_TheSlotTableIsLoadedAndStored_2 :
    (Applies st3 Master.dispatch Blk.st 68 (2 : Word) ones ∧ State.getN st3 Blk.st 64 < 4096 ∧ fld (2 : Word) 2 0 = 2 ∧
     Slot.inUse (State.slot st3 (State.getN st3 Blk.st 64)) = false ∧
     { w0 := State.get st3 Blk.st 80, w1 := State.get st3 Blk.st 84, w2 := State.get st3 Blk.st 88, check := BitVec.setWidth 8 (State.get st3 Blk.st 92) : Slot }.check
     = slotCheck
     { w0 := State.get st3 Blk.st 80, w1 := State.get st3 Blk.st 84, w2 := State.get st3 Blk.st 88, check := BitVec.setWidth 8 (State.get st3 Blk.st 92) : Slot }.w0
     { w0 := State.get st3 Blk.st 80, w1 := State.get st3 Blk.st 84, w2 := State.get st3 Blk.st 88, check := BitVec.setWidth 8 (State.get st3 Blk.st 92) : Slot }.w1
     { w0 := State.get st3 Blk.st 80, w1 := State.get st3 Blk.st 84, w2 := State.get st3 Blk.st 88, check := BitVec.setWidth 8 (State.get st3 Blk.st 92) : Slot }.w2
     ∧ State.getF st3 Blk.st 92 31 8 = 0 ∧ fld
     { w0 := State.get st3 Blk.st 80, w1 := State.get st3 Blk.st 84, w2 := State.get st3 Blk.st 88, check := BitVec.setWidth 8 (State.get st3 Blk.st 92) : Slot }.w0
     15 13 = 0 ∧ fld
     { w0 := State.get st3 Blk.st 80, w1 := State.get st3 Blk.st 84, w2 := State.get st3 Blk.st 88, check := BitVec.setWidth 8 (State.get st3 Blk.st 92) : Slot }.w1
     3 2 = 0 ∧ fld
     { w0 := State.get st3 Blk.st 80, w1 := State.get st3 Blk.st 84, w2 := State.get st3 Blk.st 88, check := BitVec.setWidth 8 (State.get st3 Blk.st 92) : Slot }.w1
     23 18 = 0 ∧ (Slot.state
     { w0 := State.get st3 Blk.st 80, w1 := State.get st3 Blk.st 84, w2 := State.get st3 Blk.st 88, check := BitVec.setWidth 8 (State.get st3 Blk.st 92) : Slot }
     = 0 ∨ Slot.state
     { w0 := State.get st3 Blk.st 80, w1 := State.get st3 Blk.st 84, w2 := State.get st3 Blk.st 88, check := BitVec.setWidth 8 (State.get st3 Blk.st 92) : Slot }
     = 2) ∧ Slot.released
     { w0 := State.get st3 Blk.st 80, w1 := State.get st3 Blk.st 84, w2 := State.get st3 Blk.st 88, check := BitVec.setWidth 8 (State.get st3 Blk.st 92) : Slot }
     = 0 ∧ Slot.holders
     { w0 := State.get st3 Blk.st 80, w1 := State.get st3 Blk.st 84, w2 := State.get st3 Blk.st 88, check := BitVec.setWidth 8 (State.get st3 Blk.st 92) : Slot }
     = 0 ∧ Slot.filler
     { w0 := State.get st3 Blk.st 80, w1 := State.get st3 Blk.st 84, w2 := State.get st3 Blk.st 88, check := BitVec.setWidth 8 (State.get st3 Blk.st 92) : Slot }
     = 0 ∧ Slot.base
     { w0 := State.get st3 Blk.st 80, w1 := State.get st3 Blk.st 84, w2 := State.get st3 Blk.st 88, check := BitVec.setWidth 8 (State.get st3 Blk.st 92) : Slot }
     + Slot.size
     { w0 := State.get st3 Blk.st 80, w1 := State.get st3 Blk.st 84, w2 := State.get st3 Blk.st 88, check := BitVec.setWidth 8 (State.get st3 Blk.st 92) : Slot }
     ≤ Part.oraSize st3.part ∧ (Slot.valid
     { w0 := State.get st3 Blk.st 80, w1 := State.get st3 Blk.st 84, w2 := State.get st3 Blk.st 88, check := BitVec.setWidth 8 (State.get st3 Blk.st 92) : Slot }
     = false ∨ mcPlace st3 (Slot.base
     { w0 := State.get st3 Blk.st 80, w1 := State.get st3 Blk.st 84, w2 := State.get st3 Blk.st 88, check := BitVec.setWidth 8 (State.get st3 Blk.st 92) : Slot })
     (Slot.size
     { w0 := State.get st3 Blk.st 80, w1 := State.get st3 Blk.st 84, w2 := State.get st3 Blk.st 88, check := BitVec.setWidth 8 (State.get st3 Blk.st 92) : Slot })
     = some (Slot.model
     { w0 := State.get st3 Blk.st 80, w1 := State.get st3 Blk.st 84, w2 := State.get st3 Blk.st 88, check := BitVec.setWidth 8 (State.get st3 Blk.st 92) : Slot })))
     := by
  decide +kernel

theorem wit_TheSlotTableIsLoadedAndStored_3 :
    (Applies st4 Master.dispatch Blk.st 68 (2 : Word) ones ∧ State.getN st4 Blk.st 64 < 4096 ∧ fld (2 : Word) 2 0 = 2 ∧
     Slot.inUse (State.slot st4 (State.getN st4 Blk.st 64)) = true) := by
  decide +kernel

theorem wit_TheSlotTableIsLoadedAndStored_4 :
    (Applies st5 Master.dispatch Blk.st 68 (2 : Word) ones ∧ State.getN st5 Blk.st 64 < 4096 ∧ fld (2 : Word) 2 0 = 2 ∧
     Slot.inUse (State.slot st5 (State.getN st5 Blk.st 64)) = false ∧
     { w0 := State.get st5 Blk.st 80, w1 := State.get st5 Blk.st 84, w2 := State.get st5 Blk.st 88, check := BitVec.setWidth 8 (State.get st5 Blk.st 92) : Slot }.check
     ≠ slotCheck
     { w0 := State.get st5 Blk.st 80, w1 := State.get st5 Blk.st 84, w2 := State.get st5 Blk.st 88, check := BitVec.setWidth 8 (State.get st5 Blk.st 92) : Slot }.w0
     { w0 := State.get st5 Blk.st 80, w1 := State.get st5 Blk.st 84, w2 := State.get st5 Blk.st 88, check := BitVec.setWidth 8 (State.get st5 Blk.st 92) : Slot }.w1
     { w0 := State.get st5 Blk.st 80, w1 := State.get st5 Blk.st 84, w2 := State.get st5 Blk.st 88, check := BitVec.setWidth 8 (State.get st5 Blk.st 92) : Slot }.w2)
     := by
  decide +kernel

theorem wit_TheSlotTableIsLoadedAndStored_6 :
    (Applies st4 Master.dispatch Blk.st 68 (4 : Word) ones ∧ State.getN st4 Blk.st 64 < 4096 ∧ fld (4 : Word) 2 0 = 4 ∧
     Slot.inUse (State.slot st4 (State.getN st4 Blk.st 64)) = true) := by
  decide +kernel

theorem wit_TheSlotTableIsLoadedAndStored_7 :
    (Applies st3 Master.dispatch Blk.st 68 (6 : Word) ones ∧ State.getN st3 Blk.st 64 < 4096 ∧ ¬fld (6 : Word) 2 0 ∈ [0, 1, 2,
     4]) := by
  decide +kernel

theorem wit_HandleUsesAreCheckedInOrder_1 :
    (State.enabled st6 Blk.ora = true ∧ 673 < 4096 ∧ 17 < 256 ∧ 2 ≤ 2 ∧ 18 < 256 ∧ 9 < 256 ∧ Slot.valid (State.slot st6 673) =
     false) := by
  decide +kernel

theorem wit_HandleUsesAreCheckedInOrder_2 :
    (State.enabled st7 Blk.ora = true ∧ 673 < 4096 ∧ 17 < 256 ∧ 2 ≤ 2 ∧ 18 < 256 ∧ 9 < 256 ∧ Slot.valid (State.slot st7 673) =
     true ∧ (State.slot st7 673).check ≠ slotCheck (State.slot st7 673).w0 (State.slot st7 673).w1 (State.slot st7 673).w2) :=
     by
  decide +kernel

theorem wit_HandleUsesAreCheckedInOrder_3 :
    (State.enabled st8 Blk.ora = true ∧ 673 < 4096 ∧ 17 < 256 ∧ 2 ≤ 2 ∧ 18 < 256 ∧ 9 < 256 ∧ (Slot.valid (State.slot st8 673)
     = true ∧ (State.slot st8 673).check = slotCheck (State.slot st8 673).w0 (State.slot st8 673).w1 (State.slot st8 673).w2)
     ∧ Slot.size (State.slot st8 673) < 0 + 65537) := by
  decide +kernel

theorem wit_HandleUsesAreCheckedInOrder_4 :
    (State.enabled st8 Blk.ora = true ∧ 673 < 4096 ∧ 18 < 256 ∧ 1 ≤ 2 ∧ 16 < 256 ∧ 1 < 256 ∧ (Slot.valid (State.slot st8 673)
     = true ∧ (State.slot st8 673).check = slotCheck (State.slot st8 673).w0 (State.slot st8 673).w1 (State.slot st8 673).w2)
     ∧ 0 + 65536 ≤ Slot.size (State.slot st8 673) ∧ 1 ≠ 2 ∧ (Slot.state (State.slot st8 673) ≤ 1 ∨ Slot.drains (State.slot st8
     673) ≠ 0 ∧ Slot.released (State.slot st8 673) = Slot.drains (State.slot st8 673))) := by
  decide +kernel

theorem wit_HandleUsesAreCheckedInOrder_5 :
    (State.enabled st9 Blk.ora = true ∧ 673 < 4096 ∧ 18 < 256 ∧ 2 ≤ 2 ∧ 16 < 256 ∧ 1 < 256 ∧ (Slot.valid (State.slot st9 673)
     = true ∧ (State.slot st9 673).check = slotCheck (State.slot st9 673).w0 (State.slot st9 673).w1 (State.slot st9 673).w2)
     ∧ 0 + 65536 ≤ Slot.size (State.slot st9 673) ∧ 2 = 2 ∧ Slot.state (State.slot st9 673) ≠ 0 ∧ (¬(Slot.state (State.slot
     st9 673) = 1 ∧ Slot.filler (State.slot st9 673) = 16 ∧ Option.isSome (State.claim? st9 16 673) = true))) := by
  decide +kernel

theorem wit_HandleUsesAreCheckedInOrder_6 :
    (State.enabled st9 Blk.ora = true ∧ 673 < 4096 ∧ 18 < 256 ∧ 1 ≤ 2 ∧ 16 < 256 ∧ 1 < 256 ∧ (Slot.valid (State.slot st9 673)
     = true ∧ (State.slot st9 673).check = slotCheck (State.slot st9 673).w0 (State.slot st9 673).w1 (State.slot st9 673).w2)
     ∧ 0 + 65536 ≤ Slot.size (State.slot st9 673) ∧ (1 ≠ 2 ∧ 2 ≤ Slot.state (State.slot st9 673) ∧ ¬(Slot.drains (State.slot
     st9 673) ≠ 0 ∧ Slot.released (State.slot st9 673) = Slot.drains (State.slot st9 673)) ∨ 1 = 2 ∧ (Slot.state (State.slot
     st9 673) = 0 ∨ Slot.state (State.slot st9 673) = 1 ∧ Slot.filler (State.slot st9 673) = 16 ∧ Option.isSome (State.claim?
     st9 16 673) = true)) ∧ 18 ≠ Slot.gen (State.slot st9 673)) := by
  decide +kernel

theorem wit_HandleUsesAreCheckedInOrder_7 :
    (State.enabled st8 Blk.ora = true ∧ 673 < 4096 ∧ 17 < 256 ∧ 2 ≤ 2 ∧ 18 < 256 ∧ 9 < 256 ∧ (Slot.valid (State.slot st8 673)
     = true ∧ (State.slot st8 673).check = slotCheck (State.slot st8 673).w0 (State.slot st8 673).w1 (State.slot st8 673).w2)
     ∧ 0 + 65536 ≤ Slot.size (State.slot st8 673) ∧ 17 = Slot.gen (State.slot st8 673) ∧ 2 = 2 ∧ Slot.state (State.slot st8
     673) = 0) := by
  decide +kernel

theorem wit_HandleUsesAreCheckedInOrder_8 :
    (State.enabled st9 Blk.ora = true ∧ 673 < 4096 ∧ 17 < 256 ∧ 1 ≤ 2 ∧ 16 < 256 ∧ 1 < 256 ∧ (Slot.valid (State.slot st9 673)
     = true ∧ (State.slot st9 673).check = slotCheck (State.slot st9 673).w0 (State.slot st9 673).w1 (State.slot st9 673).w2)
     ∧ 0 + 65536 ≤ Slot.size (State.slot st9 673) ∧ 17 = Slot.gen (State.slot st9 673) ∧ 1 ≠ 2 ∧ 2 ≤ Slot.state (State.slot
     st9 673) ∧ (¬(Slot.drains (State.slot st9 673) ≠ 0 ∧ Slot.released (State.slot st9 673) = Slot.drains (State.slot st9
     673))) ∧ Slot.holders (State.slot st9 673) < 15) := by
  decide +kernel

theorem wit_ClaimsArePublishedOrReturned_1 :
    (Slot.valid (State.slot st10 va11.handle) = true ∧ va11.fill = true ∧ va11.reads = false ∧ va11.release = false ∧
     Slot.state (State.slot st10 va11.handle) = 1) := by
  decide +kernel

theorem wit_ClaimsArePublishedOrReturned_2 :
    (Slot.valid (State.slot st12 va13.handle) = true ∧ va13.fill = false ∧ va13.reads = true ∧ va13.release = false ∧ 2 ≤
     Slot.holders (State.slot st12 va13.handle)) := by
  decide +kernel

theorem wit_ClaimsArePublishedOrReturned_3 :
    (Slot.valid (State.slot st14 va15.handle) = true ∧ va15.fill = false ∧ va15.reads = true ∧ va15.release = true ∧ 1 ≤
     Slot.holders (State.slot st14 va15.handle) ∧ Slot.released (State.slot st14 va15.handle) < Slot.drains (State.slot st14
     va15.handle)) := by
  decide +kernel

theorem wit_CompareAndCountJobsRun_1 :
    (Applies live BV Blk.cc (ccOff 3 0) (536871184 : Word) ones ∧ fld (536871184 : Word) 31 28 ≠ 0) := by
  decide +kernel

theorem wit_CompareAndCountJobsRun_2 :
    (Applies st16 BV Blk.cc (ccOff 3 24) (1 : Word) ones ∧ bit (1 : Word) 0 = true ∧ State.enabled st16 Blk.ora = true ∧
     (State.getF st16 Blk.cc (ccOff 3 28) 1 0 = 1 ∨ State.getF st16 Blk.cc (ccOff 3 28) 1 0 = 2)) := by
  decide +kernel

theorem wit_CompareAndCountJobsRun_3 :
    (Applies st17 BV Blk.cc (ccOff 3 24) (1 : Word) ones ∧ bit (1 : Word) 0 = true ∧ State.enabled st17 Blk.ora = false) := by
  decide +kernel

theorem wit_CompareAndCountJobsRun_4 :
    (Applies st18 BV Blk.cc (ccOff 3 24) (1 : Word) ones ∧ bit (1 : Word) 0 = true ∧ ccGoRefusal st18 3 = none) := by
  decide +kernel

theorem wit_CompareAndCountJobsRun_5 :
    (Applies st19 BV Blk.cc (ccOff 3 24) (2 : Word) ones ∧ bit (2 : Word) 0 = false ∧ bit (2 : Word) 1 = true ∧ ((List.any
     st19.ora.jobs fun (j : CcJob) => j.ctx == 3) = true) ∧ State.claimsOf st19 (ccAgent 3) = []) := by
  decide +kernel

theorem wit_CompareAndCountJobsRun_6 :
    (st19.ora.jobs = [{ ctx := 3, running := false, agent := ccAgent 3, dirty := false : CcJob }] ∧ ccOutside st19 3 = none ∧
     State.getB st19 Blk.cc (ccOff 3 0) 8 = false ∧ State.getB st19 Blk.cc (ccOff 3 0) 9 = false) := by
  decide +kernel

theorem wit_CompareAndCountJobsRun_7 :
    (st20.ora.jobs = [{ ctx := 3, running := true, agent := ccAgent 3, dirty := false : CcJob }] ∧ ccOutside st20 3 = none ∧
     State.claimsOf st20 (ccAgent 3) = [] ∧ (State.getF st20 Blk.cc (ccOff 3 0) 2 0 ≤ 1 ∨ State.getF st20 Blk.cc (ccOff 3 0) 2
     0 = 3)) := by
  decide +kernel

theorem wit_TheSlotTableIsLoadedAndStored_5 :
    (Applies st21 Master.dispatch Blk.st 68 (4 : Word) ones ∧ State.getN st21 Blk.st 64 < 4096 ∧ fld (4 : Word) 2 0 = 4 ∧
     Slot.inUse (State.slot st21 (State.getN st21 Blk.st 64)) = false) := by
  decide +kernel

end T06

namespace T07

abbrev BV : Master := .belvedere
abbrev SQ : Master := .dispatch
def crcW (ws : List Word) : Word := (BitVec.ofNat 32 ((crc8 ((descBytes ws).take 31)).toNat * 0x1000000))
def mkD (ws : List Word) : List Byte := descBytes (ws.take 7 ++ [crcW (ws.take 7 ++ [0])])
abbrev putL (s : State) (a : Nat) (l : List Byte) : State := s.storeBytes a l
abbrev rg (s : State) : State := ((((((s.setB (.ring 0) offStatus 0 true).setRg 5 0 0x32000000).setRg 5 0x08 ((s.rg 5 0x08) +
    3)).setRg 5 0x14 1).setRg 5 0x0C 0x44).setRg 5 0x20 1)
abbrev base : State := (((rg live).setB (.xch 1) offStatus 0 true).setN .ddrc 0x44 2048).setXc 5 0x0C 1
abbrev d1 : List Word := [0x128 - 0x20, 0x30000000, 0x80000000, 0, 8, 0, 0, 0]
abbrev s1 (ws : List Word) : State := putL base 0x32000000 (mkD ws)
abbrev act (ws : List Word) (w : Nat) : Active := {words := ws, written := w, agent := 0x85, released := false, loop := none}
abbrev s2 (ws : List Word) (w : Nat) : State := let s := s1 ws; s.setChan 5 {s.chan 5 with active := some (act ws w)}
abbrev dM : State := putL (s2 d1 4) 0x30000000 [1,2,3,4,5,6,7,8]
abbrev ae (n : Nat) (w : Bool) : AccErr := {fails := n, write := w, held := []}
abbrev dP : State := dM.setXc 5 0 0x731
abbrev st1 : State := base.setChan 5 {base.chan 5 with released := [(d1, some 3)]}
abbrev st2 : State := s1 [0x128 - 0x20, 0x30000000, 0x80000000, 0, 0, 0, 0, 0]
abbrev st3 : State := putL base 0x32000000 (List.replicate 31 0 ++ [1])
abbrev st4 : State := s1 d1
abbrev st5 : State := (s1 d1).setXc 5 0 0x130
abbrev st6 : State := ((s1 d1).setXc 5 0 0x130).setN (.csq 1) 0x40 0x11
abbrev st7 : State := {dM with time := {dM.time with a := 33}}
abbrev st8 : State := (dP.setN .xfe 0x4C 1)
abbrev st9 : State := base.setXc 5 0x0C 4
abbrev st10 : State := (base.setXc 5 0x0C 4).setXc 5 4 31
abbrev st11 : State := dM.setChan 5 {dM.chan 5 with pausing := true, upTo := 6}
abbrev st12 : State := base.setXc 5 0x0C 0
abbrev st13 : State := base.setXc 5 0x0C 0x21

theorem wit_DescriptorsAreCheckedAndStart_1 :
    (State.xcRuns st1 5 = true ∧ (State.chan st1 5).pausing = false ∧ (State.chan st1 5).active = none ∧ st1.power.goDt = none
     ∧ st1.power.pstate = PState.run ∧ State.armedFor st1 5 5 = none ∧ (State.chan st1 5).released = [(d1, some 3)] ∧ dSrcH d1
     = false ∧ dDstH d1 = false) := by
  decide +kernel

theorem wit_DescriptorsAreCheckedAndStart_2 :
    (State.xcRuns st2 5 = true ∧ (State.chan st2 5).pausing = false ∧ (State.chan st2 5).active = none ∧ st2.power.goDt = none
     ∧ st2.power.pstate = PState.run ∧ State.armedFor st2 5 5 = none ∧ ((State.chan st2 5).released = [] ∧ State.rgOn st2 5 =
     true ∧ State.rgOcc st2 5 ≠ 0 ∧ st2.ddr.queue = [] ∧ firstFail st2 (Agent.cpu (Master.channel (5 : Fin 32))) (State.rgSlot
     st2 (5) (State.rgHead st2 5)) (State.rgEsize st2 5) false = none) ∧ State.xcBind st2 5 = 7 ∧ descCheck (State.rgEntry st2
     (5) (State.rgHead st2 5)) = some (4, 16) ∧ 4 ≠ 12) := by
  decide +kernel

theorem wit_DescriptorsAreCheckedAndStart_3 :
    (State.xcRuns st3 5 = true ∧ (State.chan st3 5).pausing = false ∧ (State.chan st3 5).active = none ∧ st3.power.goDt = none
     ∧ st3.power.pstate = PState.run ∧ State.armedFor st3 5 5 = none ∧ ((State.chan st3 5).released = [] ∧ State.rgOn st3 5 =
     true ∧ State.rgOcc st3 5 ≠ 0 ∧ st3.ddr.queue = [] ∧ firstFail st3 (Agent.cpu (Master.channel (5 : Fin 32))) (State.rgSlot
     st3 (5) (State.rgHead st3 5)) (State.rgEsize st3 5) false = none) ∧ State.xcBind st3 5 = 7 ∧ checkOk (State.rgEntry st3
     (5) (State.rgHead st3 5)) = false) := by
  decide +kernel

theorem wit_DescriptorsAreCheckedAndStart_4 :
    (State.xcRuns st4 5 = true ∧ (State.chan st4 5).pausing = false ∧ (State.chan st4 5).active = none ∧ st4.power.goDt = none
     ∧ st4.power.pstate = PState.run ∧ State.armedFor st4 5 5 = none ∧ ((State.chan st4 5).released = [] ∧ State.rgOn st4 5 =
     true ∧ State.rgOcc st4 5 ≠ 0 ∧ st4.ddr.queue = [] ∧ firstFail st4 (Agent.cpu (Master.channel (5 : Fin 32))) (State.rgSlot
     st4 (5) (State.rgHead st4 5)) (State.rgEsize st4 5) false = none) ∧ State.xcBind st4 5 = 7 ∧ descCheck (State.rgEntry st4
     (5) (State.rgHead st4 5)) = none ∧ dSrcH (descWords (State.rgEntry st4 (5) (State.rgHead st4 5))) = false ∧ dDstH
     (descWords (State.rgEntry st4 (5) (State.rgHead st4 5))) = false) := by
  decide +kernel

theorem wit_DescriptorsAreCheckedAndStart_5 :
    (State.xcRuns st5 5 = true ∧ (State.chan st5 5).pausing = false ∧ (State.chan st5 5).active = none ∧ st5.power.goDt = none
     ∧ st5.power.pstate = PState.run ∧ State.armedFor st5 5 5 = none ∧ (State.chan st5 5).released = [] ∧ State.xcBind st5 5 <
     4 ∧ State.csqPhase st5 (State.xcBind st5 5) ≠ 1) := by
  decide +kernel

theorem wit_DescriptorsAreCheckedAndStart_6 :
    (State.xcRuns st6 5 = true ∧ (State.chan st6 5).pausing = false ∧ (State.chan st6 5).active = none ∧ st6.power.goDt = none
     ∧ st6.power.pstate = PState.run ∧ State.armedFor st6 5 5 = none ∧ ((State.chan st6 5).released = [] ∧ State.rgOn st6 5 =
     true ∧ State.rgOcc st6 5 ≠ 0 ∧ st6.ddr.queue = [] ∧ firstFail st6 (Agent.cpu (Master.channel (5 : Fin 32))) (State.rgSlot
     st6 (5) (State.rgHead st6 5)) (State.rgEsize st6 5) false = none) ∧ State.xcBind st6 5 < 4 ∧ State.csqPhase st6
     (State.xcBind st6 5) = 1 ∧ descCheck (State.rgEntry st6 (5) (State.rgHead st6 5)) = none ∧ outbound (descWords
     (State.rgEntry st6 (5) (State.rgHead st6 5))) (State.xcBind st6 5) = true ∧ List.length (State.chan st6 5).hold < 16) := by
  decide +kernel

theorem wit_DescriptorsMoveTheirBytesOrStop_1 :
    (State.xcRuns dM 5 = true ∧ (State.chan dM 5).active = some (act d1 4) ∧ State.armedFor dM 4 5 = none ∧ (dDim (act d1
     4).words = 0 ∧ dSrcH (act d1 4).words = false ∧ dDstH (act d1 4).words = false ∧ (act d1 4).written < dTotal (act d1
     4).words ∧ (act d1 4).agent = xcAgent 5 ∧ (act d1 4).loop = none ∧ (act d1 4).released = false) ∧ 4 ≤ dTotal (act d1
     4).words - (act d1 4).written ∧ ((fun (n : Nat) => firstFail dM (Agent.cpu (Master.channel (5 : Fin 32))) (dSrc (act d1
     4).words + (act d1 4).written) n false = none ∧ firstFail dM (Agent.cpu (Master.channel (5 : Fin 32))) (dDst (act d1
     4).words + (act d1 4).written) n true = none ∧ overlaps (dSrc (act d1 4).words + (act d1 4).written) n (dDst (act d1
     4).words + (act d1 4).written) n = false ∧ (Option.map (fun (x : Region × Nat × Nat) => x.fst) (windowOf (dDst (act d1
     4).words + (act d1 4).written)) = some Region.dram ∨ Option.map (fun (x : Region × Nat × Nat) => x.fst) (windowOf (dDst
     (act d1 4).words + (act d1 4).written)) = some Region.gtSram)) 4) ∧ (State.chan dM 5).pausing = false ∧ dM.ddr.queue =
     []) := by
  decide +kernel

theorem wit_DescriptorsMoveTheirBytesOrStop_2 :
    (State.xcRuns dM 5 = true ∧ (State.chan dM 5).active = some (act d1 4) ∧ State.armedFor dM 4 5 = none ∧ (dDim (act d1
     4).words = 0 ∧ dSrcH (act d1 4).words = false ∧ dDstH (act d1 4).words = false ∧ (act d1 4).written < dTotal (act d1
     4).words ∧ (act d1 4).agent = xcAgent 5 ∧ (act d1 4).loop = none ∧ (act d1 4).released = false) ∧ ((fun (n : Nat) =>
     firstFail dM (Agent.cpu (Master.channel (5 : Fin 32))) (dSrc (act d1 4).words + (act d1 4).written) n false = none ∧
     firstFail dM (Agent.cpu (Master.channel (5 : Fin 32))) (dDst (act d1 4).words + (act d1 4).written) n true = none ∧
     overlaps (dSrc (act d1 4).words + (act d1 4).written) n (dDst (act d1 4).words + (act d1 4).written) n = false ∧
     (Option.map (fun (x : Region × Nat × Nat) => x.fst) (windowOf (dDst (act d1 4).words + (act d1 4).written)) = some
     Region.dram ∨ Option.map (fun (x : Region × Nat × Nat) => x.fst) (windowOf (dDst (act d1 4).words + (act d1 4).written))
     = some Region.gtSram)) (dTotal (act d1 4).words - (act d1 4).written)) ∧ (State.chan dM 5).pausing = false ∧
     State.claimsOf dM (xcAgent 5) = [] ∧ dM.ddr.queue = []) := by
  decide +kernel

theorem wit_DescriptorsMoveTheirBytesOrStop_3 :
    (State.xcRuns dM 5 = true ∧ (State.chan dM 5).active = some (act d1 4) ∧ State.armedFor dM 4 5 = none ∧ (ae 3 false).fails
     ≤ fld (State.xc dM 5 0) 6 4 ∧ List.length (within (State.dt dM) oneSecond (State.chan dM 5).faults) < 3 ∧ (prefetched dM
     5 = false ∨ (ae 3 false).write = true)) := by
  decide +kernel

theorem wit_DescriptorsMoveTheirBytesOrStop_4 :
    (State.xcRuns dM 5 = true ∧ (State.chan dM 5).active = some (act d1 4) ∧ State.armedFor dM 4 5 = none ∧ (fld (State.xc dM
     5 0) 6 4 < (ae 4 true).fails ∨ 3 ≤ List.length (within (State.dt dM) oneSecond (State.chan dM 5).faults)) ∧ (dDim (act d1
     4).words = 0 ∧ dSrcH (act d1 4).words = false ∧ dDstH (act d1 4).words = false ∧ (act d1 4).written < dTotal (act d1
     4).words ∧ (act d1 4).agent = xcAgent 5 ∧ (act d1 4).loop = none ∧ (act d1 4).released = false) ∧ State.xcBind dM 5 = 7 ∧
     State.xcRetired dM 5 = false ∧ State.claimsOf dM (xcAgent 5) = [] ∧ (State.chan dM 5).released = [] ∧ (prefetched dM 5 =
     false ∨ (ae 4 true).write = true) ∧ ((List.all (List.range 4) fun (j : Nat) => State.xcRetired dM (4 * (5 / 4) + j) || 4
     * (5 / 4) + j == 5) = false)) := by
  decide +kernel

theorem wit_DescriptorsMoveTheirBytesOrStop_5 :
    (State.xcRuns st7 5 = true ∧ (State.chan st7 5).active = some (act d1 4) ∧ State.armedFor st7 4 5 = none ∧ (ae 2
     false).fails ≤ fld (State.xc st7 5 0) 6 4 ∧ List.length (within (State.dt st7) oneSecond (State.chan st7 5).faults) < 3 ∧
     (prefetched st7 5 = false ∨ (ae 2 false).write = true) ∧ (State.chan st7 5).progress + fld (State.xc st7 5 4) 15 0 ≤
     State.dt st7) := by
  decide +kernel

theorem wit_DescriptorsMoveTheirBytesOrStop_6 :
    (State.xcRuns dP 5 = true ∧ (State.chan dP 5).active = some (act d1 4) ∧ State.armedFor dP 4 5 = none ∧ 6442450944 < 2 ^
     40 ∧ State.xcMember dP 5 = true ∧ State.pfgRetired dP = false ∧ State.getB dP Blk.xfe 76 0 = false ∧ List.length (within
     (State.dt dP) oneSecond dP.pfg) < 2) := by
  decide +kernel

theorem wit_DescriptorsMoveTheirBytesOrStop_7 :
    (State.xcRuns st8 5 = true ∧ (State.chan st8 5).active = some (act d1 4) ∧ State.armedFor st8 4 5 = none ∧ Applies st8 BV
     Blk.xfe 80 (1 : Word) ones ∧ bit (1 : Word) 0 = true ∧ State.getB st8 Blk.xfe 76 0 = true ∧ State.pfgRetired st8 = false)
     := by
  decide +kernel

theorem wit_DescriptorsMoveTheirBytesOrStop_8 :
    (State.xcRuns dP 5 = true ∧ (State.chan dP 5).active = some (act d1 4) ∧ State.armedFor dP 4 5 = none ∧ Applies dP BV
     Blk.xfe 80 (1 : Word) ones ∧ bit (1 : Word) 0 = true ∧ (State.getB dP Blk.xfe 76 0 = false ∨ State.pfgRetired dP = true))
     := by
  decide +kernel

theorem wit_ChannelsAreControlled_1 :
    (State.xcStat st9 5 2 = true ∧ chanCheck st9 5 = none) := by
  decide +kernel

theorem wit_ChannelsAreControlled_2 :
    (State.xcStat st10 5 2 = true ∧ State.xcStat st10 5 0 = false ∧ chanCheck st10 5 = some (4353, 132)) := by
  decide +kernel

theorem wit_ChannelsAreControlled_3 :
    ((State.chan st11 5).pausing = true) := by
  decide +kernel

theorem wit_ChannelsAreControlled_4 :
    ((State.chan st11 5).pausing = true ∧ (∀ (a : Active), (State.chan st11 5).active = some a → a.written ≠ dTotal a.words))
     := by
  decide +kernel

theorem wit_ChannelsAreControlled_5 :
    (Applies base SQ (chanBlk 5) (chanOff 5 + 8) (7 : Word) ones ∧ 1 < Bool.toNat (bit (7 : Word) 1) + Bool.toNat (bit (7 :
     Word) 2) + Bool.toNat (bit (7 : Word) 3) + Bool.toNat (bit (7 : Word) 4)) ∧
    (Applies base SQ (chanBlk 5) (chanOff 5 + 8) (8 : Word) ones ∧ bit (8 : Word) 1 = false ∧ bit (8 : Word) 2 = false ∧ bit
     (8 : Word) 4 = false ∧ (bit (8 : Word) 3 = true ∨ bit (8 : Word) 0 = false) ∧ State.xcRetired base 5 = false ∧
     (State.chan base 5).released = [] ∧ State.claimsOf base (xcAgent 5) = [] ∧ (State.chan base 5).hold = [] ∧ (∀ (a :
     Active), (State.chan base 5).active = some a → a.agent = xcAgent 5)) ∧
    (Applies base SQ (chanBlk 5) (chanOff 5 + 8) (5 : Word) ones ∧ fld (5 : Word) 4 0 = 5 ∧ State.xcRetired base 5 = false ∧
     State.xcStat base 5 4 = false ∧ State.xcStat base 5 5 = false) ∧
    (Applies dM SQ (chanBlk 5) (chanOff 5 + 8) (3 : Word) ones ∧ fld (3 : Word) 4 0 = 3 ∧ State.xcStat dM 5 0 = true ∧
     State.xcStat dM 5 4 = false ∧ Option.isSome (State.chan dM 5).active = true) ∧
    (Applies base SQ (chanBlk 5) (chanOff 5 + 8) (3 : Word) ones ∧ fld (3 : Word) 4 0 = 3 ∧ State.xcStat base 5 0 = true ∧
     State.xcStat base 5 4 = false ∧ (State.chan base 5).pausing = false ∧ (State.chan base 5).active = none) ∧
    (Applies st13 SQ (chanBlk 5) (chanOff 5 + 8) (5 : Word) ones ∧ fld (5 : Word) 4 0 = 5 ∧ State.xcStat st13 5 0 = true ∧
     State.xcRetired st13 5 = false ∧ (State.xcStat st13 5 4 = true ∨ State.xcStat st13 5 5 = true)) ∧
    (Applies st12 SQ (chanBlk 5) (chanOff 5 + 8) (1 : Word) ones ∧ fld (1 : Word) 4 0 = 1 ∧ State.xcStat st12 5 0 = false ∧
     State.xcStat st12 5 2 = false) ∧
    (Applies st13 SQ (chanBlk 5) (chanOff 5 + 8) (17 : Word) ones ∧ fld (17 : Word) 4 0 = 17 ∧ State.xcStat st13 5 0 = true ∧
     State.xcRetired st13 5 = false ∧ State.xcStat st13 5 5 = true ∧ (State.chan st13 5).released = [] ∧ State.rgOn st13 5 =
     true ∧ State.rgOcc st13 5 ≠ 0) := by
  refine ⟨?_, ?_, ?_, ?_, ?_, ?_, ?_, ?_⟩ <;> decide +kernel

end T07

namespace T08

abbrev BV : Master := .belvedere
abbrev SQ : Master := .dispatch
abbrev AP : Master := .application 1
abbrev ring (st : Nat) (h t : Word) : State := ((((((((live.setB (.ring 2) offStatus 0 true).setRg 36 0 0x32000000).setRg 36
    0x08 0x203).setRg 36 0x0C 0x45).setRg 36 0x14 (wd st)).setRg 36 0x10 (wd (st % 2))).setRg 36 0x1C h).setRg 36 0x20 t)
abbrev full : State := ring 1 3 11
abbrev rs (s : State) (f : RingSt → RingSt) : State := s.setRing 36 (f (s.ring 36))
abbrev busy : State := (ring 0 3 11).setRg 36 0x14 4 |>.setRg 36 0x10 1
abbrev st1 : State := ring 1 4 11
abbrev st2 : State := ring 0 4 11
abbrev st3 : State := rs full (fun r => {r with pub := 3})
abbrev st4 : State := {rs (full.setRg 36 0x24 0x00200004) (fun r => {r with pub := 3}) with time := {live.time with a := 1}}
abbrev st5 : State := ring 0 3 11
abbrev st6 : State := busy.setRg 36 0 0x32000001

theorem wit_RingPointersMove_1 :
    (Applies full AP (rgBlk 36) (rgOff 36 32) (16 : Word) ones ∧ 2 * State.rgN full 36 ≤ fld (16 : Word) 12 0) := by
  decide +kernel

theorem wit_RingPointersMove_2 :
    (Applies full AP (rgBlk 36) (rgOff 36 32) (12 : Word) ones ∧ fld (12 : Word) 12 0 < 2 * State.rgN full 36 ∧ State.rgEn
     full 36 = true ∧ State.rgN full 36 < ringDiff (State.rgN full 36) (fld (12 : Word) 12 0) (State.rgHead full 36)) := by
  decide +kernel

theorem wit_RingPointersMove_3 :
    (Applies st1 AP (rgBlk 36) (rgOff 36 32) (12 : Word) ones ∧ fld (12 : Word) 12 0 < 2 * State.rgN st1 36 ∧ State.rgEn st1
     36 = true ∧ ringDiff (State.rgN st1 36) (fld (12 : Word) 12 0) (State.rgHead st1 36) ≤ State.rgN st1 36) := by
  decide +kernel

theorem wit_RingPointersMove_4 :
    (Applies st2 BV (rgBlk 36) (rgOff 36 32) (12 : Word) ones ∧ fld (12 : Word) 12 0 < 2 * State.rgN st2 36 ∧ State.rgEn st2
     36 = false) := by
  decide +kernel

theorem wit_RingPointersMove_5 :
    (Applies full SQ (rgBlk 36) (rgOff 36 28) (16 : Word) ones ∧ 2 * State.rgN full 36 ≤ fld (16 : Word) 12 0) := by
  decide +kernel

theorem wit_RingPointersMove_6 :
    (Applies st2 BV (rgBlk 36) (rgOff 36 28) (12 : Word) ones ∧ fld (12 : Word) 12 0 < 2 * State.rgN st2 36 ∧ State.rgEn st2
     36 = false) := by
  decide +kernel

theorem wit_RingPointersMove_7 :
    (Applies full SQ (rgBlk 36) (rgOff 36 28) (2 : Word) ones ∧ fld (2 : Word) 12 0 < 2 * State.rgN full 36 ∧ State.rgEn full
     36 = true ∧ State.rgOcc full 36 < ringDiff (State.rgN full 36) (State.rgTail full 36) (fld (2 : Word) 12 0)) := by
  decide +kernel

theorem wit_RingPointersMove_8 :
    (Applies st3 SQ (rgBlk 36) (rgOff 36 28) (11 : Word) ones ∧ fld (11 : Word) 12 0 < 2 * State.rgN st3 36 ∧ State.rgEn st3
     36 = true ∧ ringDiff (State.rgN st3 36) (State.rgTail st3 36) (fld (11 : Word) 12 0) ≤ State.rgOcc st3 36) := by
  decide +kernel

theorem wit_RingPointersMove_9 :
    ((State.ring st4 36).pub ≠ 0 ∧ fld (State.rg st4 36 36) 31 16 ≠ 0 ∧ (State.ring st4 36).pubDt + fld (State.rg st4 36 36)
     31 16 ≤ State.dt st4) := by
  decide +kernel

theorem wit_RingsAreEnabledDisabledAndReportBadEntries_1 :
    (Applies st5 BV (rgBlk 36) (rgOff 36 16) (1 : Word) ones ∧ bit (1 : Word) 0 = true ∧ State.rgOn st5 36 = false ∧
     State.rgBusy st5 36 = false) := by
  decide +kernel

theorem wit_RingsAreEnabledDisabledAndReportBadEntries_2 :
    (State.rgBusy busy 36 = true ∧ ringCheck busy 36 = none) := by
  decide +kernel

theorem wit_RingsAreEnabledDisabledAndReportBadEntries_3 :
    (State.rgBusy st6 36 = true ∧ State.rgOn st6 36 = false ∧ ringCheck st6 36 = some (4099, 512)) := by
  decide +kernel

theorem wit_RingsAreEnabledDisabledAndReportBadEntries_4 :
    (Applies full BV (rgBlk 36) (rgOff 36 16) (0 : Word) ones ∧ bit (0 : Word) 0 = false) := by
  decide +kernel

theorem wit_RingsAreEnabledDisabledAndReportBadEntries_5 :
    (Applies full SQ (rgBlk 36) (rgOff 36 56) (4 : Word) ones ∧ State.rgOn full 36 = true) := by
  decide +kernel

theorem wit_RingsAreEnabledDisabledAndReportBadEntries_6 :
    (Applies st5 SQ (rgBlk 36) (rgOff 36 56) (4 : Word) ones ∧ State.rgOn st5 36 = false) := by
  decide +kernel

end T08

namespace T10

abbrev SQ : Master := .dispatch
abbrev nc (n : Nat) : State := (live.setB (.nc n) offStatus 0 true)
abbrev C (s : State) (n : Nat) (f : CoreSt → CoreSt) : State := s.setCore n (f (s.core n))
abbrev ld (s : State) (n : Nat) (w : BitVec 128) : State := (C s n (fun c => {c with imem := [(0, w)]})).setN (.nc n) 0x48 0x21
def mmw : BitVec 128 := iWithCheck (1 + 0x1100 + (0x000 <<< 40) + (0x20 <<< 52) + (1 <<< 64) + (1 <<< 76))
abbrev sA : State := ld (nc 6) 6 mmw
abbrev slw (cls : Nat) : BitVec 128 := iWithCheck (cls + (0x11 <<< 8) + (0x2A1 <<< 16) + (64 <<< 28) + (4 <<< 48) + (1 <<< 64)
    + (1 <<< 76))
abbrev W0 : Word := 0x110F0400#32
abbrev mk (w0 w1 w2 : Word) : Slot := {w0 := w0, w1 := w1, w2 := w2, check := slotCheck w0 w1 w2}
abbrev slots (s : State) (st : Word) : State := {s with ora := {s.ora with slots := [(0x2A1, mk W0 (0x00010020 + st) 0)]}}
abbrev run1 (s : State) (k : Nat) : State := s.setN (.csq k) 0x40 0x11
abbrev ic (s : State) : State := C (s.setN (.nc 3) 0x5C 0x3005) 3 (fun c =>
    {c with imStage := [0x01111101, 0x38008080, 0x1001]})
def w3 : Word := BitVec.ofNat 32 ((crc8 (leBytes (0x01111101 + 0x38008080 * 2^32 + 0x1001 * 2^64) 15)).toNat * 0x1000000)
abbrev st1 : State := slots (ld (nc 6) 6 (slw 3)) 2
abbrev st2 : State := slots (ld (nc 6) 6 (slw 4)) 0
abbrev st3 : State := C (ld (nc 6) 6 (iWithCheck 0x56)) 6 (fun c =>
    {c with spans := [{unit := 0, write := true, acc := true, start := 0, len := 5, outs := []}, {unit := 1, write := true, acc := true, start := 9, len := 5, outs := []}]})
abbrev st4 : State := run1 (ld (nc 6) 6 (iWithCheck 8)) 1
abbrev st5 : State := run1 (ld (nc 6) 6 0) 1
abbrev st6 : State := C (run1 (ld (nc 6) 6 0) 1) 6 (fun c => {c with imTimes := [0]})
abbrev st7 : State := nc 3
abbrev st8 : State := (nc 3).setN (.nc 3) 0x48 1
abbrev st9 : State := (nc 3).setN (.nc 3) 0x5C 0x2005
abbrev st10 : State := ic (nc 3)
abbrev st11 : State := C ((nc 3).setN (.nc 3) 0x5C 0x37FF) 3 (fun c => {c with imem := [(0x7FF, mmw)]})
abbrev st12 : State := (nc 3).setN (.nc 3) 0x80 0x11FF

theorem wit_CoresIssueTheirInstructions_1 :
    (issues st1 6 3 = true ∧ (State.core st1 6).spans = [] ∧ iF (State.ncWord st1 6) 87 76 = 1 ∧ (slotUse (6) (State.ncWord
     st1 6) st1).snd = true) := by
  decide +kernel

theorem wit_CoresIssueTheirInstructions_2 :
    (issues st2 6 4 = true ∧ (State.core st2 6).spans = [] ∧ iF (State.ncWord st2 6) 87 76 = 1 ∧ (slotUse (6) (State.ncWord
     st2 6) st2).snd = true) := by
  decide +kernel

theorem wit_CoresIssueTheirInstructions_3 :
    (issues st3 6 6 = true ∧ (State.core st3 6).hlu = []) := by
  decide +kernel

theorem wit_CoresIssueTheirInstructions_5 :
    (State.ncPhase st4 6 = 1 ∧ (State.core st4 6).coll = false ∧ wordRules (State.hasLink st4 6) (State.vtWord st4 6)
     (State.ncWord st4 6) = some 8194 ∧ stagesFail (State.vtWord st4 6) (State.ncWord st4 6) = false ∧ State.csqPhase st4
     (clusterOf 6) = 1 ∧ State.getB st4 (Blk.csq (clusterOf 6)) 116 24 = false) := by
  decide +kernel

theorem wit_CoresIssueTheirInstructions_6 :
    (State.ncPhase st5 6 = 1 ∧ within (State.dt st5) (10 * oneSecond) (State.core st5 6).imTimes = [] ∧ State.csqPhase st5
     (clusterOf 6) = 1 ∧ State.getB st5 (Blk.csq (clusterOf 6)) 116 24 = false) := by
  decide +kernel

theorem wit_CoresIssueTheirInstructions_7 :
    (State.ncPhase st6 6 = 1 ∧ 0 ∈ (State.core st6 6).imTimes ∧ State.dt st6 ≤ 0 + 10 * oneSecond) := by
  decide +kernel

theorem wit_CoreWindowsMoveWords_1 :
    (Applies st7 SQ (Blk.nc 3) 92 (6143 : Word) ones ∧ State.ncPhase st7 3 = 0) := by
  decide +kernel

theorem wit_CoreWindowsMoveWords_2 :
    (Applies st8 SQ (Blk.nc 3) 92 (6143 : Word) ones ∧ ¬State.ncPhase st8 3 = 0) := by
  decide +kernel

theorem wit_CoreWindowsMoveWords_3 :
    (Applies st9 SQ (Blk.nc 3) 96 (6143 : Word) ones ∧ State.ncPhase st9 3 = 0 ∧ State.getF st9 (Blk.nc 3) 92 13 12 < 3) := by
  decide +kernel

theorem wit_CoreWindowsMoveWords_4 :
    (Applies st10 SQ (Blk.nc 3) 96 w3 ones ∧ State.ncPhase st10 3 = 0 ∧ State.getF st10 (Blk.nc 3) 92 13 12 = 3 ∧ iCheckOk
     (imJoin (List.take 3 ((State.core st10 3).imStage ++ List.replicate 4 (0 : Word)) ++ [w3])) = true) := by
  decide +kernel

theorem wit_CoreWindowsMoveWords_5 :
    (Applies st10 SQ (Blk.nc 3) 96 (w3 + (1 : Word)) ones ∧ State.ncPhase st10 3 = 0 ∧ State.getF st10 (Blk.nc 3) 92 13 12 = 3
     ∧ iCheckOk (imJoin (List.take 3 ((State.core st10 3).imStage ++ List.replicate 4 (0 : Word)) ++ [w3 + (1 : Word)])) =
     false ∧ SQ ≠ Master.xspi) := by
  decide +kernel

theorem wit_CoreWindowsMoveWords_6 :
    (Applies st8 SQ (Blk.nc 3) 96 (6143 : Word) ones ∧ ¬State.ncPhase st8 3 = 0) := by
  decide +kernel

theorem wit_CoreWindowsMoveWords_7 :
    (judgeRead st11 SQ (Blk.at (Blk.nc 3) 96) 4 = ReadVerdict.ok ∧ st11.check.parity = none ∧ SMap.get? (State.core st11
     3).imem (State.getF st11 (Blk.nc 3) 92 10 0) = some mmw) := by
  decide +kernel

theorem wit_CoreWindowsMoveWords_8 :
    (Applies st7 Master.belvedere (Blk.nc 3) 120 (5 : Word) ones) := by
  decide +kernel

theorem wit_CoreWindowsMoveWords_9 :
    (Applies st7 SQ (Blk.nc 3) 128 (511 : Word) ones ∧ State.ncPhase st7 3 = 0) := by
  decide +kernel

theorem wit_CoreWindowsMoveWords_10 :
    (Applies st8 SQ (Blk.nc 3) 128 (511 : Word) ones ∧ ¬State.ncPhase st8 3 = 0) := by
  decide +kernel

theorem wit_CoreWindowsMoveWords_11 :
    (Applies st7 SQ (Blk.nc 3) 132 (511 : Word) ones ∧ State.ncPhase st7 3 = 0 ∧ State.getB st7 (Blk.nc 3) 128 12 = false) := by
  decide +kernel

theorem wit_CoreWindowsMoveWords_12 :
    (Applies st12 SQ (Blk.nc 3) 132 (0 : Word) ones ∧ State.ncPhase st12 3 = 0 ∧ State.getB st12 (Blk.nc 3) 128 12 = true ∧
     stageCheckOk (BitVec.ofNat 64 (BitVec.toNat (State.core st12 3).vtStage + BitVec.toNat (0 : Word) * 2 ^ 32)) = true) := by
  decide +kernel

theorem wit_CoreWindowsMoveWords_13 :
    (Applies st12 SQ (Blk.nc 3) 132 (1 : Word) ones ∧ State.ncPhase st12 3 = 0 ∧ State.getB st12 (Blk.nc 3) 128 12 = true ∧
     stageCheckOk (BitVec.ofNat 64 (BitVec.toNat (State.core st12 3).vtStage + BitVec.toNat (1 : Word) * 2 ^ 32)) = false ∧ SQ
     ≠ Master.xspi) := by
  decide +kernel

theorem wit_MatrixProductsFillTheirBlocks_1 :
    (issues sA 6 1 = true ∧ (State.core sA 6).spans = [] ∧ State.ncArmed sA 6 = false) := by
  decide +kernel

theorem wit_MatrixProductsFillTheirBlocks_2 :
    let val := fun (f b : Nat) => if f = 2 then ((b % 256 : Nat) : Int) else signed (fmtBits f) b
    let ps := [(0x80, 0x7F), (0xFF, 0x02)]
    let sum := fun k => (5 : Int) + ((ps.take k).map (fun p => val 2 p.1 * val 1 p.2)).sum
    2 ≤ 2 ∧ 1 ≤ 1 ∧ ∀ k, k ≤ ps.length → -2147483648 ≤ sum k ∧ sum k ≤ 2147483647 := by
  decide +kernel

theorem wit_MatrixProductsFillTheirBlocks_3 :
    (∀ a, a < tbBytes → sA.byte (tileBase 6 + a) = sA.byte (tileBase 6 + a)) ∧
    (iB mmw 4 = true → sA.accWord 6 (accIndex (iF mmw 39 36) (mmN mmw) 31 31) = sA.accWord 6 (accIndex (iF mmw 39 36) (mmN
     mmw) 31 31)) ∧
    matmulRules mmw = none ∧ 31 < mmM mmw ∧ 31 < mmN mmw :=
  ⟨fun _ _ => rfl, fun _ => rfl, by decide +kernel⟩

end T10

namespace T11

abbrev nc (n : Nat) : State := (live.setB (.nc n) offStatus 0 true)
abbrev C (s : State) (n : Nat) (f : CoreSt → CoreSt) : State := s.setCore n (f (s.core n))
abbrev ld (s : State) (n : Nat) (w : BitVec 128) : State := (C s n (fun c => {c with imem := [(0, w)]})).setN (.nc n) 0x48 0x21
def sck (x : Nat) : BitVec 64 := BitVec.ofNat 64 (x + (crc8 (leBytes x 7)).toNat * 2^56)
abbrev vw : BitVec 128 := iWithCheck (2 + (5 <<< 4) + (0 <<< 10) + (0x0 <<< 13) + (2 <<< 16) + (7 <<< 20) + (0 <<< 24) +
    (0x400 <<< 36) + (1 <<< 48) + (1 <<< 60) + (1 <<< 72) + (0 <<< 84))
abbrev sV (vs : List Nat) : State := C (ld (nc 6) 6 (vw ||| 0)) 6 (fun c =>
    {c with vt := vs.zipIdx.map (fun p => (40 + p.2, sck p.1))})
abbrev sm : Nat := 9 + (2 <<< 10) + ((0 + 0x808 * 0x100000) <<< 24)
abbrev st1 : State := sV [8 + (0x900 <<< 24), sm]

theorem wit_ChainsStreamTheirRows_1 :
    (issues st1 6 2 = true ∧ (State.core st1 6).spans = []) := by
  decide +kernel

end T11

namespace T12

abbrev SQ : Master := .dispatch
abbrev cmd0 : Cmd :=
    {id := 0x5120, cl := 0, mask := 3, coll := false, start := 10, bound := 36000, pcs := [5, 6, 0, 0], descs := []}
abbrev img : Image :=
    {model := 0x40, addr := 0x100000000, len := 0x1000, cores := 8, place := 2, reqPlace := 0, clusters := [2, 3], mirx := false, miry := true, excl := false, pin := false, hot := false, resident := false, handle0 := 0, imem0 := 0, imemN := 4, chain0 := 0, chainN := 0, chans := [[], []], slots := [{sizem1 := 0, drains := 1, model := false, wofs := 0, base := 0}], cmds := [cmd0, {cmd0 with id := 7, cl := 1}], runNpu := 0, needIn := 0, needOut := 0, needState := 0, weightOfs := 0, bodyOfs := 128, bodyLen := 64, lastUse := 0, leaving := false, placed := true}
abbrev ent : Entry := {seq := 9, origin := 0, deadline := 0x10000, inAddr := 0, inLen := 0, outAddr := 0, outLen := 0}
abbrev st0 : StepSt :=
    {model := 0x40, entry := ent, defer := 0, preempts := 0, reruns := 0, start := none, bound := true, waits := [], leaving := false, order := 0, outcome := none, relOut := 0, relFail := false, parked := []}
abbrev base : State := (fun s => s.setComp 2 {s.comp 2 with state := 2, iface := 0x100}) <| (fun s => s.setComp 3
    {s.comp 3 with state := 2}) <| ((((live.setB .disp offStatus 0 true).setB (.csq 2) offStatus 0 true).setB (.csq 3)
    offStatus 0 true)) |> fun s => (List.range 8).foldl (fun t j => t.setB (.nc (8 + j)) offStatus 0 true) s
abbrev bnd : State := (List.range 2).foldl (fun t k => bindCluster img k (2+k) 0 {SeqSt.init with loop := 0, lc := k} t)
    ({base with images := [img]}.setLoop 0 {step := some st0, defer := 0, head := none, abandon := 0})
abbrev nx (c : Instr) (s : State) : State := match exec c s with | .next t => t | _ => s
abbrev body : State := nx (.commandStart 2 10) bnd
abbrev com : State := (body.setF (.csq 2) 0x40 11 8 3).setF (.csq 2) 0x40 1 0 2
abbrev kl (c code : Nat) (u : List Nat) : State := (body.setCseq 2 {body.cseq 2 with kill := some (c, code), used := u}).setF
    (.csq 2) 0x40 1 0 3
abbrev cw : BitVec 128 := iWithCheck 7
abbrev one1 : Image := {img with cmds := [{cmd0 with mask := 1}]}
abbrev bnd1 : State := (List.range 2).foldl (fun t k => bindCluster one1 k (2+k) 0 {SeqSt.init with loop := 0, lc := k} t)
    ({base with images := [one1]}.setLoop 0 {step := some st0, defer := 0, head := none, abandon := 0})
abbrev b1 : State := (nx (.commandStart 2 10) bnd1).setCore 12 {(bnd1.core 12) with imem := [(5, cw)]}
abbrev st1 : State := body.setCseq 2 {body.cseq 2 with expiry := 0}
abbrev st2 : State := {com with time := {com.time with a := 1}}
abbrev st3 : State := kl 1 0 []
abbrev st4 : State := kl 2 0x2001 [1]
abbrev st5 : State := kl 3 0x2001 [0]
abbrev va6 : StepSt := {st0 with start := some 0}

theorem wit_CommandsRunCommitAndDie_1 :
    (State.imageOn bnd 2 = some img ∧ State.nextCmd bnd 2 = some (0, cmd0) ∧ cmd0.coll = false ∧ cmd0.descs = [] ∧ cmd0.cl < 4
     ∧ State.mayStart bnd 2 9 = false) ∧
    (State.imageOn bnd 2 = some img ∧ State.nextCmd bnd 2 = some (0, cmd0) ∧ cmd0.coll = false ∧ cmd0.descs = [] ∧ cmd0.cl < 4
     ∧ State.mayStart bnd 2 10 = true) := by
  refine ⟨?_, ?_⟩ <;> decide +kernel

theorem wit_CommandsRunCommitAndDie_2 :
    (State.mayPublish com 2 = true ∧ State.getB com (Blk.csq 2) 116 24 = false ∧ (State.cseq com 2).preempt = false) := by
  decide +kernel

theorem wit_CommandsRunCommitAndDie_3 :
    (State.getB st1 (Blk.csq 2) 116 24 = false ∧ (State.csqPhase st1 2 = 1 ∨ State.csqPhase st1 2 = 2) ∧ (State.cseq st1
     2).expiry ≤ State.dt st1) := by
  decide +kernel

theorem wit_CommandsRunCommitAndDie_4 :
    (State.dt body < (State.cseq body 2).expiry) := by
  decide +kernel

theorem wit_CommandsRunCommitAndDie_5 :
    (State.csqPhase st2 2 = 2 ∧ (State.cseq st2 2).overran = false ∧ (State.cseq st2 2).commitDt + 132 ≤ State.dt st2) := by
  decide +kernel

theorem wit_CommandsRunCommitAndDie_6 :
    (State.getB body (Blk.csq 2) 116 24 = false ∧ 2 ≤ 11 ∧ 11 ≤ 11 ∧ 8193 < 65536 ∧ (State.csqPhase body 2 = 1 ∨
     State.csqPhase body 2 = 2)) := by
  decide +kernel

theorem wit_CommandsRunCommitAndDie_7 :
    (State.csqPhase st4 2 = 3 ∧ (State.cseq st4 2).kill = some (2, 8193) ∧ 2 < 32 ∧ 8193 < 65536 ∧ 2 ≠ 10 ∧ 2 ≠ 11 ∧
     (State.cseq st4 2).preempt = false ∧ 2 ≤ 2 ∧ 2 ≤ 9 ∧ List.contains (State.cseq st4 2).used (State.cseq st4 2).cur =
     false) ∧
    (State.csqPhase st3 2 = 3 ∧ (State.cseq st3 2).kill = some (1, 0) ∧ 1 < 32 ∧ 0 < 65536 ∧ 1 ≠ 10 ∧ 1 ≠ 11 ∧ (State.cseq st3
     2).preempt = false ∧ 1 = 1 ∧ State.csqPreempted st3 2 = false) ∧
    (State.csqPhase st5 2 = 3 ∧ (State.cseq st5 2).kill = some (3, 8193) ∧ 3 < 32 ∧ 8193 < 65536 ∧ 3 ≠ 10 ∧ 3 ≠ 11 ∧
     (State.cseq st5 2).preempt = false ∧ 2 ≤ 3 ∧ 3 ≤ 9 ∧ List.contains (State.cseq st5 2).used (State.cseq st5 2).cur = true
     ∧ (State.loop st5 (State.cseq st5 2).loop).step = some va6 ∧ va6.outcome = none) := by
  refine ⟨?_, ?_, ?_⟩ <;> decide +kernel

theorem wit_CommandsRunCommitAndDie_8 :
    (Applies base SQ (Blk.csq 2) 92 (1 : Word) ones ∧ bit (1 : Word) 0 ≠ bit (1 : Word) 1 ∧ State.csqStep base 2 = false) ∧
    (Applies body SQ (Blk.csq 2) 92 (3 : Word) ones ∧ bit (3 : Word) 0 = true ∧ bit (3 : Word) 1 = true ∧ SQ ≠ Master.xspi) ∧
    (Applies bnd SQ (Blk.csq 2) 92 (1 : Word) ones ∧ bit (1 : Word) 0 = true ∧ bit (1 : Word) 1 = false ∧ State.csqStep bnd 2
     = true ∧ State.csqPreempted bnd 2 = false ∧ State.csqPhase bnd 2 = 0 ∧ (State.loop bnd (State.cseq bnd 2).loop).step =
     some st0 ∧ st0.leaving = false) ∧
    (Applies body SQ (Blk.csq 2) 92 (2 : Word) ones ∧ bit (2 : Word) 0 = false ∧ bit (2 : Word) 1 = true ∧ State.csqStep body
     2 = true ∧ (State.loop body (State.cseq body 2).loop).step = some va6 ∧ va6.outcome = none) ∧
    (Applies com SQ (Blk.csq 2) 92 (1 : Word) ones ∧ bit (1 : Word) 0 = true ∧ bit (1 : Word) 1 = false ∧ State.csqStep com 2
     = true ∧ State.csqPreempted com 2 = false ∧ State.csqPhase com 2 = 2) ∧
    (Applies body SQ (Blk.csq 2) 92 (1 : Word) ones ∧ bit (1 : Word) 0 = true ∧ bit (1 : Word) 1 = false ∧ State.csqStep body
     2 = true ∧ State.csqPreempted body 2 = false ∧ State.csqPhase body 2 = 1 ∧ State.getB body (Blk.csq 2) 116 24 = false) :=
     by
  refine ⟨?_, ?_, ?_, ?_, ?_, ?_⟩ <;> decide +kernel

theorem wit_CoresIssueTheirInstructions_4 :
    (issues b1 12 7 = true ∧ (State.core b1 12).hlu = [] ∧ (List.map (fun (x : Nat × Nat) => x.snd) (State.coresOn b1
     (clusterOf 12)) = [12]) ∧ State.csqPhase b1 (clusterOf 12) = 1 ∧ boundTo b1 (clusterOf 12) = []) := by
  decide +kernel

end T12

namespace T12b

abbrev SQ : Master := .dispatch
def z (n : Nat) : List Byte := List.replicate n 0
def body : List Byte :=
  let b0 := leBytes 8 1 ++ leBytes 3 1 ++ z 2 ++ leBytes 1 2 ++ leBytes 1 2 ++ leBytes 4096 4 ++ z 4 ++ leBytes 1 1 ++ z 3 ++ leBytes 100 4 ++ leBytes 1 2 ++ leBytes 0 2
    ++ leBytes 64 4 ++ leBytes 128 4 ++ leBytes 256 4 ++ leBytes 256 4 ++ leBytes 256 4 ++ z 16
  let c := leBytes 0x77 4 ++ leBytes 1 1 ++ leBytes 3 1 ++ z 2 ++ leBytes 5 4 ++ leBytes 36000 4 ++ z 16
  b0 ++ c ++ z 32 ++ (List.replicate 8 (leBytes 7 15 ++ leBytes 2 1)).flatten ++ leBytes 0 1 ++ leBytes 1 1 ++ z 14
def head (n : Nat) : List Byte :=
  let h := leBytes 0x31545848 4 ++ leBytes 1 1 ++ leBytes 0 1 ++ leBytes 1 1 ++ leBytes 0 1 ++ leBytes (128 + n) 4 ++ leBytes 0x40 4 ++ leBytes 0 1 ++ leBytes 0xFF 1 ++ leBytes 1 1 ++ z 1 ++ leBytes 1 1 ++ leBytes 0 1 ++ z 2 ++ z 8
    ++ leBytes 8 1 ++ z 3 ++ leBytes 128 4 ++ leBytes n 4 ++ leBytes 0xF2DD6E8C 4 ++ z 32 ++ leBytes (128+n) 4 ++ z 40
  h ++ leBytes 0xD82FDD70 4
def image : List Byte := head body.length ++ body
abbrev A : Nat := 0x80000000
def memOf (l : List Byte) : SMap Byte := l.zipIdx.map (fun p => (A + p.2, p.1))
abbrev base : State := (fun s => s.setComp 2 {s.comp 2 with state := 2, iface := 0x100}) <| (fun s => s.setComp 3
    {s.comp 3 with state := 2}) <| ((((live.setB .disp offStatus 0 true).setB (.csq 2) offStatus 0 true).setB (.csq 3)
    offStatus 0 true))
def memL : SMap Byte := memOf image
abbrev ls : State :=
    { base with regs := [(0x40002060, 0xffffffff), (0x40002064, 0xfffffff), (0x4005200c, 0x1), (0x4005300c, 0x1), (0x4005800c, 0x1), (0x40058060, 0x80000000), (0x40058068, 0x190), (0x4006000c, 0x1), (0x40060044, 0x800)], mem := memL }
abbrev im : Image :=
    {model := 0x40, addr := A, len := 400, cores := 8, place := 0, reqPlace := 0, clusters := [0, 1], mirx := false, miry := false, excl := false, pin := false, hot := false, resident := false, handle0 := 0, imem0 := 0, imemN := 1, chain0 := 0, chainN := 0, chans := [[], []], slots := [{sizem1 := 0, drains := 1, model := false, wofs := 0, base := 0}], cmds := [{id := 0x77, cl := 1, mask := 3, coll := false, start := 5, bound := 36000, pcs := [0, 0, 0, 0], descs := []}], runNpu := 100, needIn := 0, needOut := 0, needState := 0, weightOfs := 400, bodyOfs := 128, bodyLen := 272, lastUse := 0, leaving := false, placed := false}
abbrev bad : State := ls.setN .disp 0x68 401
abbrev ld : State := ({ls with images := [{im with placed := true}]}.setN .disp 0x6C 0x40)
abbrev ent : Entry := {seq := 9, origin := 0, deadline := 0x10000, inAddr := 0, inLen := 0, outAddr := 0, outLen := 0}
abbrev st0 : StepSt :=
    {model := 0x40, entry := ent, defer := 0, preempts := 0, reruns := 0, start := none, bound := true, waits := [], leaving := false, order := 0, outcome := none, relOut := 0, relFail := false, parked := []}
abbrev va1 : Image := {im with placed := true}
abbrev st2 : State := ld.setLoop 0 {step := some st0, defer := 0, head := none, abandon := 0}
abbrev st3 : State := {ls with disp := {ls.disp with load := some (.load (loadReport 0x2201 none 8) none)}}

theorem wit_ImagesAreCheckedLoadedAndUnloaded_1 :
    (Except.toOption (checkImage ls A 400 0 false false) = some im) := by
  decide +kernel

theorem wit_ImagesAreCheckedLoadedAndUnloaded_2 :
    (Applies bad SQ Blk.disp 112 (1 : Word) ones ∧ bit (1 : Word) 0 = true ∧ bit (1 : Word) 1 = false ∧ State.getB bad
     Blk.disp 116 0 = false ∧ firstFail (State.setN (plainStore Blk.disp 112 (1 : Word) ones { bad with resp := Resp.init })
     Blk.disp 116 1) (Agent.cpu Master.dispatch) (State.getN bad Blk.disp 96 + State.getF bad Blk.disp 100 7 0 <<< 32) (max
     (State.getN bad Blk.disp 104) 128) false = none ∧ refusalOf (checkImage (State.setN (plainStore Blk.disp 112 (1 : Word)
     ones { bad with resp := Resp.init }) Blk.disp 116 1) (State.getN bad Blk.disp 96 + State.getF bad Blk.disp 100 7 0 <<<
     32) (State.getN bad Blk.disp 104) (fld (1 : Word) 5 4) (bit (1 : Word) 8) (bit (1 : Word) 9)) = some (8705, 8)) := by
  decide +kernel

theorem wit_ImagesAreCheckedLoadedAndUnloaded_3 :
    (Applies ls SQ Blk.disp 112 (1 : Word) ones ∧ bit (1 : Word) 0 = true ∧ bit (1 : Word) 1 = false ∧ State.getB ls Blk.disp
     116 0 = false ∧ firstFail (State.setN (plainStore Blk.disp 112 (1 : Word) ones { ls with resp := Resp.init }) Blk.disp
     116 1) (Agent.cpu Master.dispatch) (State.getN ls Blk.disp 96 + State.getF ls Blk.disp 100 7 0 <<< 32) (max (State.getN
     ls Blk.disp 104) 128) false = none ∧ Except.toOption (checkImage (State.setN (plainStore Blk.disp 112 (1 : Word) ones
     { ls with resp := Resp.init }) Blk.disp 116 1) (State.getN ls Blk.disp 96 + State.getF ls Blk.disp 100 7 0 <<< 32)
     (State.getN ls Blk.disp 104) (fld (1 : Word) 5 4) (bit (1 : Word) 8) (bit (1 : Word) 9)) = some im ∧ ((List.all
     (Image.pcores im) fun (n : Nat) => State.ncPhase ls n == 0) = true)) := by
  decide +kernel

theorem wit_ImagesAreCheckedLoadedAndUnloaded_4 :
    (Applies ls SQ Blk.disp 112 (2 : Word) ones ∧ bit (2 : Word) 0 = false ∧ bit (2 : Word) 1 = true ∧ State.getB ls Blk.disp
     116 0 = false ∧ State.image ls (State.getN ls Blk.disp 108) = none ∧ SQ ≠ Master.xspi) ∧
    (Applies ld SQ Blk.disp 112 (2 : Word) ones ∧ bit (2 : Word) 0 = false ∧ bit (2 : Word) 1 = true ∧ State.getB ld Blk.disp
     116 0 = false ∧ State.image ld (State.getN ld Blk.disp 108) = some va1 ∧ ((List.all ld.images fun (j : Image) =>
     !j.leaving) = true) ∧ State.imageBusy ld (State.getN ld Blk.disp 108) = false) ∧
    (Applies st2 SQ Blk.disp 112 (2 : Word) ones ∧ bit (2 : Word) 0 = false ∧ bit (2 : Word) 1 = true ∧ State.getB st2
     Blk.disp 116 0 = false ∧ State.image st2 (State.getN st2 Blk.disp 108) = some va1 ∧ ((List.all st2.images fun (j : Image)
     => !j.leaving) = true) ∧ State.imageBusy st2 (State.getN st2 Blk.disp 108) = true) := by
  refine ⟨?_, ?_, ?_⟩ <;> decide +kernel

theorem wit_ImagesAreCheckedLoadedAndUnloaded_5 :
    (st3.disp.load = some (LoadJob.load (loadReport 8705 none 8) none)) := by
  decide +kernel

end T12b

namespace T13

abbrev C (s : State) (n : Nat) (f : CoreSt → CoreSt) : State := s.setCore n (f (s.core n))
abbrev ncs : State := (live.setB (.nc 6) offStatus 0 true).setB (.nc 7) offStatus 0 true
abbrev ld (s : State) (n : Nat) (w : BitVec 128) : State := (C s n (fun c => {c with imem := [(0, w)]})).setN (.nc n) 0x48 0x21
def hw (op dir tag addr units : Nat) : BitVec 128 := iWithCheck (5 + op * 16 + dir * 32 + tag * 256 + addr * 2^16 + units *
    2^28 + 1 * 2^36 + units * 2^48)
abbrev run1 (s : State) : State := (s.setN (.csq 1) 0x40 0x11)
abbrev snd1 : State := (run1 (ld ncs 6 (hw 0 1 5 0 1))).storeBytes (tileBase 6) ((List.range 64).map (fun i => BitVec.ofNat 8
    (i*3)))
abbrev L (tag size : Nat) (st : LandState) (d : Nat) : Landing :=
    {dir := d, tag := tag, size := size, cl := 1, state := st, data := (List.range (64*size)).map (fun i => BitVec.ofNat 8 i)}
abbrev rcv1 : State := run1 (ld ncs 6 (hw 1 1 5 0 1))
abbrev dir (s : State) : State := (s.setF (.nc 6) 0x90 11 8 2).setF (.nc 7) 0x90 11 8 8
abbrev p7 (s : State) (w : BitVec 128) : State := C (ld s 7 w) 7 (fun c => {c with hlu := [0]})
abbrev pr : State := (C (p7 (dir snd1) (hw 1 3 5 4 1)) 6 (fun c => {c with hlu := [0]})).storeBytes (tileBase 6) ((List.range
    64).map (fun i => BitVec.ofNat 8 i))
abbrev st1 : State := C snd1 7 (fun c => {c with land := [L 5 1 .held 3]})
abbrev st2 : State := C snd1 7 (fun c => {c with land := [L 4 128 .held 3, L 5 1 .published 1]})
abbrev st3 : State := C rcv1 6 (fun c => {c with land := [L 5 1 .published 1, L 6 1 .published 1]})
abbrev st4 : State := C rcv1 6 (fun c => {c with land := [L 5 2 .published 1]})
abbrev st5 : State := C rcv1 6 (fun c => {c with land := [L 5 2 .tentative 1]})
abbrev st6 : State := dir snd1
abbrev st7 : State := dir rcv1
abbrev st8 : State := p7 (dir snd1) (hw 1 3 4 0 1)
abbrev st9 : State := p7 (dir rcv1) (hw 1 3 5 0 1)

theorem wit_HalosMoveOrTrap_1 :
    (issues snd1 6 5 = true ∧ neighbour (6) (haloDir (State.ncWord snd1 6)) = some 7 ∧ State.inService snd1 7 = true ∧
     State.present snd1 (Blk.nc 7) = true ∧ (State.core snd1 6).hlu = [] ∧ (State.core snd1 6).spans = [] ∧ iF (State.ncWord
     snd1 6) 47 36 = 1 ∧ State.csqPhase snd1 (clusterOf 6) = 1 ∧ State.getB snd1 (Blk.csq (clusterOf 6)) 116 24 = false ∧
     haloRecvs (State.ncWord snd1 6) = false ∧ State.direct snd1 (6) (haloDir (State.ncWord snd1 6)) = false ∧ ((List.any
     (State.landing snd1 (7) (opposite (haloDir (State.ncWord snd1 6)))) fun (e : Landing) => e.tag == haloTag (State.ncWord
     snd1 6)) = false) ∧ List.length (State.landing snd1 (7) (opposite (haloDir (State.ncWord snd1 6)))) < 4 ∧ (List.foldl
     (fun (a : Nat) (e : Landing) => a + e.size) 0 (State.landing snd1 (7) (opposite (haloDir (State.ncWord snd1 6)))) +
     haloSize (State.ncWord snd1 6) ≤ 128)) ∧
    (issues st1 6 5 = true ∧ neighbour (6) (haloDir (State.ncWord st1 6)) = some 7 ∧ State.inService st1 7 = true ∧
     State.present st1 (Blk.nc 7) = true ∧ (State.core st1 6).hlu = [] ∧ (State.core st1 6).spans = [] ∧ iF (State.ncWord st1
     6) 47 36 = 1 ∧ State.csqPhase st1 (clusterOf 6) = 1 ∧ State.getB st1 (Blk.csq (clusterOf 6)) 116 24 = false ∧ haloRecvs
     (State.ncWord st1 6) = false ∧ State.direct st1 (6) (haloDir (State.ncWord st1 6)) = false ∧ ((List.any (State.landing
     st1 (7) (opposite (haloDir (State.ncWord st1 6)))) fun (e : Landing) => e.tag == haloTag (State.ncWord st1 6)) = true)) ∧
    (issues st2 6 5 = true ∧ neighbour (6) (haloDir (State.ncWord st2 6)) = some 7 ∧ State.inService st2 7 = true ∧
     State.present st2 (Blk.nc 7) = true ∧ (State.core st2 6).hlu = [] ∧ (State.core st2 6).spans = [] ∧ iF (State.ncWord st2
     6) 47 36 = 1 ∧ State.csqPhase st2 (clusterOf 6) = 1 ∧ State.getB st2 (Blk.csq (clusterOf 6)) 116 24 = false ∧ haloRecvs
     (State.ncWord st2 6) = false ∧ State.direct st2 (6) (haloDir (State.ncWord st2 6)) = false ∧ ((List.any (State.landing
     st2 (7) (opposite (haloDir (State.ncWord st2 6)))) fun (e : Landing) => e.tag == haloTag (State.ncWord st2 6)) = false) ∧
     (4 ≤ List.length (State.landing st2 (7) (opposite (haloDir (State.ncWord st2 6)))) ∨ 128 < List.foldl (fun (a : Nat) (e :
     Landing) => a + e.size) 0 (State.landing st2 (7) (opposite (haloDir (State.ncWord st2 6)))) + haloSize (State.ncWord st2
     6))) := by
  refine ⟨?_, ?_, ?_⟩ <;> decide +kernel

theorem wit_HalosMoveOrTrap_2 :
    (issues st5 6 5 = true ∧ neighbour (6) (haloDir (State.ncWord st5 6)) = some 7 ∧ State.inService st5 7 = true ∧
     State.present st5 (Blk.nc 7) = true ∧ (State.core st5 6).hlu = [] ∧ (State.core st5 6).spans = [] ∧ iF (State.ncWord st5
     6) 47 36 = 1 ∧ State.csqPhase st5 (clusterOf 6) = 1 ∧ State.getB st5 (Blk.csq (clusterOf 6)) 116 24 = false ∧ haloRecvs
     (State.ncWord st5 6) = true ∧ State.direct st5 (6) (haloDir (State.ncWord st5 6)) = false ∧ (List.find? (fun (e :
     Landing) => e.state == LandState.published && e.tag == haloTag (State.ncWord st5 6)) (State.landing st5 (6) (haloDir
     (State.ncWord st5 6))) = none)) ∧
    (issues st4 6 5 = true ∧ neighbour (6) (haloDir (State.ncWord st4 6)) = some 7 ∧ State.inService st4 7 = true ∧
     State.present st4 (Blk.nc 7) = true ∧ (State.core st4 6).hlu = [] ∧ (State.core st4 6).spans = [] ∧ iF (State.ncWord st4
     6) 47 36 = 1 ∧ State.csqPhase st4 (clusterOf 6) = 1 ∧ State.getB st4 (Blk.csq (clusterOf 6)) 116 24 = false ∧ haloRecvs
     (State.ncWord st4 6) = true ∧ State.direct st4 (6) (haloDir (State.ncWord st4 6)) = false ∧ (List.find? (fun (e :
     Landing) => e.state == LandState.published && e.tag == haloTag (State.ncWord st4 6)) (State.landing st4 (6) (haloDir
     (State.ncWord st4 6))) = some (L 5 2 LandState.published 1)) ∧ (L 5 2 LandState.published 1).size ≠ haloSize
     (State.ncWord st4 6)) ∧
    (issues st3 6 5 = true ∧ neighbour (6) (haloDir (State.ncWord st3 6)) = some 7 ∧ State.inService st3 7 = true ∧
     State.present st3 (Blk.nc 7) = true ∧ (State.core st3 6).hlu = [] ∧ (State.core st3 6).spans = [] ∧ iF (State.ncWord st3
     6) 47 36 = 1 ∧ State.csqPhase st3 (clusterOf 6) = 1 ∧ State.getB st3 (Blk.csq (clusterOf 6)) 116 24 = false ∧ haloRecvs
     (State.ncWord st3 6) = true ∧ State.direct st3 (6) (haloDir (State.ncWord st3 6)) = false ∧ (List.find? (fun (e :
     Landing) => e.state == LandState.published && e.tag == haloTag (State.ncWord st3 6)) (State.landing st3 (6) (haloDir
     (State.ncWord st3 6))) = some (L 5 1 LandState.published 1)) ∧ (L 5 1 LandState.published 1).size = haloSize
     (State.ncWord st3 6) ∧ List.length (L 5 1 LandState.published 1).data = 64 * iF (State.ncWord st3 6) 35 28 ∧ (State.core
     st3 6).clash = [] ∧ (List.filter (fun (x : Landing) => x == L 5 1 LandState.published 1) (State.landing st3 (6) (haloDir
     (State.ncWord st3 6))) = [L 5 1 LandState.published 1])) := by
  refine ⟨?_, ?_, ?_⟩ <;> decide +kernel

theorem wit_HalosMoveOrTrap_3 :
    (issues st7 6 5 = true ∧ neighbour (6) (haloDir (State.ncWord st7 6)) = some 7 ∧ State.inService st7 7 = true ∧
     State.present st7 (Blk.nc 7) = true ∧ (State.core st7 6).hlu = [] ∧ (State.core st7 6).spans = [] ∧ iF (State.ncWord st7
     6) 47 36 = 1 ∧ State.csqPhase st7 (clusterOf 6) = 1 ∧ State.getB st7 (Blk.csq (clusterOf 6)) 116 24 = false ∧
     State.direct st7 (6) (haloDir (State.ncWord st7 6)) = true ∧ headToward st7 7 6 = none ∧ haloRecvs (State.ncWord st7 6) =
     true) ∧
    (issues st6 6 5 = true ∧ neighbour (6) (haloDir (State.ncWord st6 6)) = some 7 ∧ State.inService st6 7 = true ∧
     State.present st6 (Blk.nc 7) = true ∧ (State.core st6 6).hlu = [] ∧ (State.core st6 6).spans = [] ∧ iF (State.ncWord st6
     6) 47 36 = 1 ∧ State.csqPhase st6 (clusterOf 6) = 1 ∧ State.getB st6 (Blk.csq (clusterOf 6)) 116 24 = false ∧
     State.direct st6 (6) (haloDir (State.ncWord st6 6)) = true ∧ headToward st6 7 6 = none ∧ haloRecvs (State.ncWord st6 6) =
     false) ∧
    (issues st9 6 5 = true ∧ neighbour (6) (haloDir (State.ncWord st9 6)) = some 7 ∧ State.inService st9 7 = true ∧
     State.present st9 (Blk.nc 7) = true ∧ (State.core st9 6).hlu = [] ∧ (State.core st9 6).spans = [] ∧ iF (State.ncWord st9
     6) 47 36 = 1 ∧ State.csqPhase st9 (clusterOf 6) = 1 ∧ State.getB st9 (Blk.csq (clusterOf 6)) 116 24 = false ∧
     State.direct st9 (6) (haloDir (State.ncWord st9 6)) = true ∧ headToward st9 7 6 = some (hw 1 3 5 0 1) ∧ isPair
     (State.ncWord st9 6) (hw 1 3 5 0 1) = false ∧ haloRecvs (State.ncWord st9 6) = true) ∧
    (issues st8 6 5 = true ∧ neighbour (6) (haloDir (State.ncWord st8 6)) = some 7 ∧ State.inService st8 7 = true ∧
     State.present st8 (Blk.nc 7) = true ∧ (State.core st8 6).hlu = [] ∧ (State.core st8 6).spans = [] ∧ iF (State.ncWord st8
     6) 47 36 = 1 ∧ State.csqPhase st8 (clusterOf 6) = 1 ∧ State.getB st8 (Blk.csq (clusterOf 6)) 116 24 = false ∧
     State.direct st8 (6) (haloDir (State.ncWord st8 6)) = true ∧ headToward st8 7 6 = some (hw 1 3 4 0 1) ∧ isPair
     (State.ncWord st8 6) (hw 1 3 4 0 1) = false ∧ haloRecvs (State.ncWord st8 6) = false) := by
  refine ⟨?_, ?_, ?_, ?_⟩ <;> decide +kernel

theorem wit_PairsAndCollectivesRun_1 :
    ((State.core pr 6).hlu = [0] ∧ (State.core pr 7).hlu = [0] ∧ neighbour (6) (haloDir (State.imWord pr 6 0)) = some 7 ∧
     neighbour (7) (haloDir (State.imWord pr 7 0)) = some 6 ∧ State.direct pr (6) (haloDir (State.imWord pr 6 0)) = true ∧
     State.direct pr (7) (haloDir (State.imWord pr 7 0)) = true ∧ haloRecvs (State.imWord pr 6 0) = false ∧ isPair
     (State.imWord pr 6 0) (State.imWord pr 7 0) = true ∧ State.ncPhase pr 6 = 1 ∧ State.ncPhase pr 7 = 1 ∧ iF (State.imWord
     pr 6 0) 47 36 = 1 ∧ iF (State.imWord pr 7 0) 47 36 = 1 ∧ (∀ (x : Span), x ∈ (State.core pr 6).spans ++ (State.core pr
     7).spans → x.unit = 3) ∧ (State.core pr 7).clash = []) := by
  decide +kernel

end T13

namespace T13b

abbrev cmd0 : Cmd :=
    {id := 0x5120, cl := 0, mask := 3, coll := false, start := 10, bound := 36000, pcs := [5, 6, 0, 0], descs := []}
abbrev img : Image :=
    {model := 0x40, addr := 0x100000000, len := 0x1000, cores := 8, place := 2, reqPlace := 0, clusters := [2, 3], mirx := false, miry := true, excl := false, pin := false, hot := false, resident := false, handle0 := 0, imem0 := 0, imemN := 4, chain0 := 0, chainN := 0, chans := [[], []], slots := [{sizem1 := 0, drains := 1, model := false, wofs := 0, base := 0}], cmds := [cmd0, {cmd0 with id := 7, cl := 1}], runNpu := 0, needIn := 0, needOut := 0, needState := 0, weightOfs := 0, bodyOfs := 128, bodyLen := 64, lastUse := 0, leaving := false, placed := true}
abbrev ent : Entry := {seq := 9, origin := 0, deadline := 0x10000, inAddr := 0, inLen := 0, outAddr := 0, outLen := 0}
abbrev st0 : StepSt :=
    {model := 0x40, entry := ent, defer := 0, preempts := 0, reruns := 0, start := none, bound := true, waits := [], leaving := false, order := 0, outcome := none, relOut := 0, relFail := false, parked := []}
abbrev base : State := (fun s => s.setComp 2 {s.comp 2 with state := 2, iface := 0x100}) <| (fun s => s.setComp 3
    {s.comp 3 with state := 2}) <| ((((live.setB .disp offStatus 0 true).setB (.csq 2) offStatus 0 true).setB (.csq 3)
    offStatus 0 true))
abbrev blk : List Byte := withCheck (leBytes 3 1 ++ leBytes 1 1 ++ leBytes 0 1 ++ leBytes 0 1 ++ leBytes 3 2 ++ leBytes 0x33 2
    ++ leBytes 256 4 ++ leBytes 0 2 ++ leBytes 0x10 2 ++ leBytes 0x20 2 ++ leBytes 0 13)
abbrev cc : Cmd := {cmd0 with mask := 15, coll := true, descs := [(0, blk)]}
abbrev imgc : Image := {img with cmds := [cc]}
abbrev bndc : State := bindCluster imgc 0 2 0 {SeqSt.init with loop := 0, lc := 0} ({base with images := [imgc]}.setLoop 0
    {step := some st0, defer := 0, head := none, abandon := 0})
abbrev nx (c : Instr) (s : State) : State := match exec c s with | .next t => t | _ => s
abbrev wt : State := nx (.commandStart 2 10) bndc
abbrev zm : State :=
    {((((wt.setCore 12 {wt.core 12 with coll := true}).setF (.nc 12) 0x48 1 0 1).setF (.csq 2) 0x40 1 0 2)) with coll := [{core := 12, ofs := 0x400, data := leBytes 0x1234567 4}]}
abbrev va1 : CollOut := {core := 12, ofs := 0x400, data := leBytes 0x1234567 4}

theorem wit_PairsAndCollectivesRun_2 :
    (State.imageOn bndc 2 = some imgc ∧ State.nextCmd bndc 2 = some (0, cc) ∧ cc.coll = true ∧ State.mayStart bndc 2 10 = true
     ∧ (cc.coll = false ∨ (List.all (collMembers bndc 2) fun (j : Nat) => State.mayStart bndc j 10 && waitsWith bndc (2) j) =
     false)) ∧
    (State.imageOn wt 2 = some imgc ∧ State.nextCmd wt 2 = some (0, cc) ∧ cc.coll = true ∧ List.length (collMembers wt 2) ≤ 4
     ∧ 2 ∈ collMembers wt 2 ∧ List.Nodup (collMembers wt 2) ∧ ((List.all (collMembers wt 2) fun (j : Nat) => decide (j < 4)) =
     true) ∧ ((List.all (collMembers wt 2) fun (j : Nat) => State.mayStart wt j 10 && waitsWith wt (2) j) = true)) := by
  refine ⟨?_, ?_⟩ <;> decide +kernel

theorem wit_PairsAndCollectivesRun_3 :
    ((List.filter (fun (x : CollOut) => x.core == 12) zm.coll = [va1]) ∧ (State.core zm 12).coll = true ∧ State.ncPhase zm 12
     = 1 ∧ (State.core zm 12).hlu = [] ∧ ((List.any (State.coresOn zm (clusterOf 12)) fun (q : Nat × Nat) => q.snd == 12) =
     true) ∧ State.csqPhase zm (clusterOf 12) = 2) := by
  decide +kernel

end T13b

namespace T14

abbrev SQ : Master := .dispatch
abbrev AP : Master := .application 1
abbrev BV : Master := .belvedere
abbrev cmd0 : Cmd :=
    {id := 0x5120, cl := 0, mask := 3, coll := false, start := 10, bound := 36000, pcs := [5, 6, 0, 0], descs := []}
abbrev img : Image :=
    {model := 0x40, addr := 0x100000000, len := 0x1000, cores := 8, place := 2, reqPlace := 0, clusters := [2, 3], mirx := false, miry := true, excl := false, pin := false, hot := false, resident := false, handle0 := 0, imem0 := 0, imemN := 4, chain0 := 0, chainN := 0, chans := [[], []], slots := [{sizem1 := 0, drains := 1, model := false, wofs := 0, base := 0}], cmds := [cmd0, {cmd0 with id := 7, cl := 1}], runNpu := 0, needIn := 0, needOut := 0, needState := 0, weightOfs := 0, bodyOfs := 128, bodyLen := 64, lastUse := 0, leaving := false, placed := true}
abbrev st0 : StepSt :=
    {model := 0x41, entry := {seq := 9, origin := 0, deadline := 0x10000, inAddr := 0, inLen := 0, outAddr := 0, outLen := 0}, defer := 0, preempts := 0, reruns := 0, start := none, bound := true, waits := [], leaving := false, order := 0, outcome := none, relOut := 0, relFail := false, parked := []}
abbrev base00 : State := (fun s => s.setComp 2 {s.comp 2 with state := 2, iface := 0x100}) <| (fun s => s.setComp 3
    {s.comp 3 with state := 2}) <| ((((live.setB .disp offStatus 0 true).setB (.csq 2) offStatus 0 true).setB (.csq 3)
    offStatus 0 true))
abbrev base0 : State := base00.setN .ddrc 0x44 2048
abbrev base : State := {base0 with disp := {base0.disp with attach := 1}, images := [img]}
abbrev rg (s : State) (q : Nat) (b : Word) (cfg own : Word) (h t : Word) : State := (((((((s.setB (rgBlk q) offStatus 0
    true).setRg q 0 b).setRg q 0x08 cfg).setRg q 0x0C own).setRg q 0x14 1).setRg q 0x10 1).setRg q 0x1C h).setRg q 0x20 t
abbrev rings : State := rg (rg base 32 0x80000000 0x203 0x45 0 1) 33 0x80001000 0x103 0x54 0 0
def ent : List Byte := withCheck (leBytes 1 1 ++ leBytes 0 1 ++ leBytes 1 2 ++ leBytes 0xA31 4 ++ leBytes 0 8 ++ leBytes 0 24
    ++ leBytes 0x40 4 ++ leBytes 0 4 ++ leBytes 0 15)
def memE (l : List Byte) : SMap Byte := l.zipIdx.map (fun p => (0x80000000 + p.2, p.1))
def mE : SMap Byte := memE ent
def mAge : SMap Byte := memE (withCheck (leBytes 1 1 ++ leBytes 1 1 ++ (ent.drop 2).take 61))
def mBad : SMap Byte := memE (withCheck (ent.take 2 ++ leBytes 0 2 ++ (ent.drop 4).take 59))
abbrev lp (s : State) (l cfg : Nat) : State := (((s.setN .disp (lpOff l 0) cfg).setN .disp (lpOff l 4) 0x40).setN .disp (lpOff
    l 8) 0x10000).setN .disp (lpOff l 0x1C) 0x10
abbrev urg : State := {lp rings 0 5 with mem := mE}
abbrev s40 : StepSt := {st0 with model := 0x40}
abbrev bnd : State := (List.range 2).foldl (fun t k => bindCluster img k (2+k) 0
    {SeqSt.init with loop := 0, lc := k, done := 1} t) (urg.setLoop 0
    {step := some s40, defer := 0, head := none, abandon := 0})
abbrev im2 : Image := {img with model := 0x41}
abbrev vb : State := (List.range 2).foldl (fun t k => bindCluster im2 k (2+k) 0
    {SeqSt.init with loop := 4, lc := k, done := 0} t) ((lp urg 4 3).setLoop 4
    {step := some st0, defer := 0, head := none, abandon := 0})
abbrev vic : State := {vb.setN (.csq 2) 0x40 0x11 with images := [img, im2]}
abbrev vic2 : State := vic.setLoop 0 {vic.loop 0 with head := some st0.entry}
abbrev bw : State := (vic.setLoop 4 {vic.loop 4 with step := some {st0 with waits := [2]}}).setN (.csq 2) 0x40 0x12
abbrev late (s : State) : State := {s with time := {s.time with a := 1000000000}}
abbrev orp : State := {base with disp := {base.disp with attach := 2, orphanDt := some 0}}
abbrev cf : State := (lp rings 0 0).setN .disp (lpOff 0 0x1C) 0
abbrev st1 : State := base0.setB .disp offStatus 0 false
abbrev st2 : State := {urg with mem := mBad}
abbrev st3 : State := {((lp rings 0 1).setN .disp (lpOff 0 0xC) 5) with mem := mAge, time := {urg.time with a := 1000}}
abbrev va4 : StepSt := {st0 with waits := [2]}
abbrev st5 : State := late base
abbrev st6 : State := {orp with time := {orp.time with a := 3000000000}}
abbrev st7 : State := base.setN .disp 0x9C 1
abbrev st8 : State := (cf.setN .disp (lpOff 0 0) 5).setN .disp (lpOff 0 0x1C) 0x10

theorem wit_LoopsServeTheirHeads_1 :
    (State.serving st1 = false) := by
  decide +kernel

theorem wit_LoopsServeTheirHeads_2 :
    (State.serving urg = true ∧ State.admits urg = true ∧ (∀ (j : Nat), j < 16 → (State.loop urg j).step = none ∧ (j ≠ 0 →
     State.lpServing urg j = false)) ∧ ((List.all urg.images fun (j : Image) => !j.leaving) = true) ∧ State.hasHead urg 0 =
     true ∧ State.lpPaused urg 0 = false ∧ (State.loop urg 0).head = none ∧ (State.loop urg 0).abandon = 0 ∧
     urg.disp.abandoning = false ∧ State.rgOcc urg (State.srcRing urg 0) = 1 ∧ headCheck urg (0) (State.headBytes urg 0) =
     none ∧ State.lpImage urg 0 = some img ∧ img.placed = true ∧ (img.hot = false ∨ img.resident = true) ∧ List.Nodup
     img.clusters ∧ ((List.all img.clusters fun (k : Nat) => decide (k < 4)) = true) ∧ (State.lpClass urg 0 = 2 ∨
     State.lpClass urg 0 = 0 ∧ State.lp urg 0 12 = 0 ∨ State.lpClass urg 0 = 1 ∧ stepCost urg 0 ≤ State.lp urg 0 36)) ∧
    (State.serving st2 = true ∧ State.admits st2 = true ∧ (∀ (j : Nat), j < 16 → (State.loop st2 j).step = none ∧ (j ≠ 0 →
     State.lpServing st2 j = false)) ∧ ((List.all st2.images fun (j : Image) => !j.leaving) = true) ∧ State.hasHead st2 0 =
     true ∧ State.lpPaused st2 0 = false ∧ (State.loop st2 0).head = none ∧ (State.loop st2 0).abandon = 0 ∧
     st2.disp.abandoning = false ∧ State.rgOcc st2 (State.srcRing st2 0) = 1 ∧ (entryLands st2 Master.dispatch (doneRing 0) 32
     = true ∧ headFrees st2 Master.dispatch (State.srcRing st2 0) = true) ∧ headCheck st2 (0) (State.headBytes st2 0) = some
     (7, 8708) ∧ 8708 ≠ 8716) ∧
    (State.serving st3 = true ∧ State.admits st3 = true ∧ (∀ (j : Nat), j < 16 → (State.loop st3 j).step = none ∧ (j ≠ 0 →
     State.lpServing st3 j = false)) ∧ ((List.all st3.images fun (j : Image) => !j.leaving) = true) ∧ State.hasHead st3 0 =
     true ∧ State.lpPaused st3 0 = false ∧ (State.loop st3 0).head = none ∧ (State.loop st3 0).abandon = 0 ∧
     st3.disp.abandoning = false ∧ State.rgOcc st3 (State.srcRing st3 0) = 1 ∧ (entryLands st3 Master.dispatch (doneRing 0) 32
     = true ∧ headFrees st3 Master.dispatch (State.srcRing st3 0) = true) ∧ headCheck st3 (0) (State.headBytes st3 0) = none ∧
     State.lpClass st3 0 = 0 ∧ State.lp st3 0 12 ≠ 0 ∧ (readEntry st3 (0) (State.headBytes st3 0)).origin + State.lp st3 0 12
     ≤ State.dt st3) := by
  refine ⟨?_, ?_, ?_⟩ <;> decide +kernel

theorem wit_LoopsServeTheirHeads_3 :
    ((State.loop bnd 0).step = some s40 ∧ State.image bnd s40.model = some img ∧ State.boundOn bnd 2 0 = true ∧ closeReady bnd
     0 = true ∧ (∀ (j : Nat), j < 16 → j ≠ 0 → (State.loop bnd j).step = none) ∧ ((List.all bnd.images fun (j : Image) =>
     !j.leaving) = true) ∧ (stepOutcome s40 (State.dt bnd)).snd ≠ 8714 ∧ entryLands bnd Master.dispatch (doneRing 0) 32 = true
     ∧ bnd.check.retDisp = false) := by
  decide +kernel

theorem wit_LoopsServeTheirHeads_4 :
    ((0 : Fin 16) ≠ (4 : Fin 16) ∧ State.serving vic2 = true ∧ State.admits vic2 = true ∧ (∀ (c : Nat), c < 16 → c ≠ 0 → c ≠ 4
     → State.lpServing vic2 c = false ∧ (State.loop vic2 c).step = none) ∧ ((List.all vic2.images fun (c : Image) =>
     !c.leaving) = true) ∧ State.hasHead vic2 0 = true ∧ State.lpPaused vic2 0 = false ∧ State.lpClass vic2 0 = 2 ∧
     State.lpCfg vic2 0 4 4 = 0 ∧ State.lpClass vic2 4 < 2 ∧ (State.loop vic2 0).head = some st0.entry ∧ (State.loop vic2
     0).abandon = 0 ∧ vic2.disp.abandoning = false ∧ State.lpImage vic2 0 = some img ∧ State.imageBusy vic2 (State.lp vic2 0
     4) = false ∧ (State.loop vic2 4).step = some st0 ∧ st0.bound = true ∧ st0.outcome = none ∧ State.image vic2 st0.model =
     some im2 ∧ 2 ∈ img.clusters ∧ 2 ∈ im2.clusters ∧ State.csqStep vic2 2 = true ∧ (State.cseq vic2 2).loop = 4 ∧
     State.csqPhase vic2 2 = 1 ∧ State.csqPreempted vic2 2 = false ∧ State.getB vic2 (Blk.csq 2) 116 24 = false ∧ (∀ (c :
     Nat), c ∈ im2.clusters → c < 4) ∧ List.Nodup im2.clusters) := by
  decide +kernel

theorem wit_LoopsServeTheirHeads_5 :
    (atBoundary vic 2 = false) ∧
    (State.csqPhase bw 2 = 2 ∧ (State.loop bw 4).step = some va4 ∧ 2 ∈ va4.waits ∧ (∀ (j : Fin 16), j ≠ (4 : Fin 16) →
     (State.loop bw ↑j).step = none) ∧ State.csqStep bw 2 = true ∧ (State.cseq bw 2).loop = 4 ∧ State.csqPreempted bw 2 =
     false) := by
  refine ⟨?_, ?_⟩ <;> decide +kernel

theorem wit_HostsAttachAndLoopsAreEnabled_1 :
    (Applies base0 AP Blk.disp 84 (65541 : Word) ones ∧ bit (65541 : Word) 16 = true ∧ bit (65541 : Word) 17 = false ∧ (∀ (l :
     Nat), l < 16 → State.lpServing base0 l = false)) := by
  decide +kernel

theorem wit_HostsAttachAndLoopsAreEnabled_2 :
    (Applies base AP Blk.disp 84 (131077 : Word) ones ∧ bit (131077 : Word) 16 = false ∧ bit (131077 : Word) 17 = true) := by
  decide +kernel

theorem wit_HostsAttachAndLoopsAreEnabled_3 :
    (Applies base AP Blk.disp 84 (196613 : Word) ones ∧ bit (196613 : Word) 16 = true ∧ bit (196613 : Word) 17 = true ∧ AP ≠
     Master.xspi) := by
  decide +kernel

theorem wit_HostsAttachAndLoopsAreEnabled_4 :
    (Applies base AP Blk.disp 76 (5 : Word) ones) := by
  decide +kernel

theorem wit_HostsAttachAndLoopsAreEnabled_5 :
    (st5.disp.attach = 1 ∧ st5.disp.hbDt + State.getN st5 Blk.disp 80 ≤ State.dt st5) := by
  decide +kernel

theorem wit_HostsAttachAndLoopsAreEnabled_6 :
    ((base.disp.attach ≠ 1 ∨ State.dt base < base.disp.hbDt + State.getN base Blk.disp 80)) := by
  decide +kernel

theorem wit_HostsAttachAndLoopsAreEnabled_7 :
    (orp.disp.attach ≠ 1 ∧ orp.disp.orphanDt = some 0 ∧ State.dt orp < 0 + 1966080000) ∧
    (st6.disp.attach ≠ 1 ∧ st6.disp.orphanDt = some 0 ∧ 0 + 1966080000 ≤ State.dt st6 ∧ (∀ (l : Nat), l < 16 → State.lpServing
     st6 l = false)) := by
  refine ⟨?_, ?_⟩ <;> decide +kernel

theorem wit_HostsAttachAndLoopsAreEnabled_8 :
    (Applies base BV Blk.disp 156 (1 : Word) ones ∧ bit (1 : Word) 0 = true) := by
  decide +kernel

theorem wit_HostsAttachAndLoopsAreEnabled_9 :
    (Applies st7 BV Blk.disp 156 (0 : Word) ones ∧ bit (0 : Word) 0 = false ∧ st7.disp.attach < 4) := by
  decide +kernel

theorem wit_HostsAttachAndLoopsAreEnabled_10 :
    (((State.quiescing st7 && List.all (List.range 16) fun (l : Nat) => Option.isNone (State.loop st7 l).step) = true)) := by
  decide +kernel

theorem wit_HostsAttachAndLoopsAreEnabled_11 :
    (((State.quiescing base && List.all (List.range 16) fun (l : Nat) => Option.isNone (State.loop base l).step) = false)) := by
  decide +kernel

theorem wit_HostsAttachAndLoopsAreEnabled_12 :
    (Applies st8 SQ Blk.disp (lpOff 0 0) (4 : Word) ones ∧ bit (4 : Word) 0 = false) ∧
    (Applies cf SQ Blk.disp (lpOff 0 0) (5 : Word) ones ∧ bit (5 : Word) 0 = true ∧ State.lpServing cf 0 = false ∧ loopCheck
     (State.setB (plainStore Blk.disp (lpOff 0 0) (5 : Word) ones cf) Blk.disp (lpOff 0 0) 0 true) 0 = none) ∧
    (Applies cf SQ Blk.disp (lpOff 0 0) (7 : Word) ones ∧ bit (7 : Word) 0 = true ∧ State.lpServing cf 0 = false ∧ loopCheck
     (State.setB (plainStore Blk.disp (lpOff 0 0) (7 : Word) ones cf) Blk.disp (lpOff 0 0) 0 true) 0 = some (8706, 256)) := by
  refine ⟨?_, ?_, ?_⟩ <;> decide +kernel

end T14

namespace T15

abbrev rg (s : State) (q : Nat) (b : Word) (cfg own : Word) (h t : Word) : State := ((((((s.setB (rgBlk q) offStatus 0
    true).setRg q 0 b).setRg q 0x08 cfg).setRg q 0x0C own).setRg q 0x14 1).setRg q 0x1C h).setRg q 0x20 t
abbrev base : State := (live.setN .ddrc 0x44 2048).setB (.csi 1) offStatus 0 true
abbrev rings : State := rg base 84 0x80000000 0x10102 0x55 0 0
abbrev cxx (s : State) (cfg : Word) : State := (((s.setN (.csi 1) 0x100 cfg.toNat).setN (.csi 1) 0x104 0x00020004).setN (.csi
    1) 0x108 0x81000000).setN (.csi 1) 0x114 64 |>.setN (.csi 1) 0x110 256
abbrev ctx : State := cxx rings 0x00022B01
abbrev nx (c : Instr) (s : State) : State := match exec c s with | .next t => t | _ => s
abbrev op : State := nx (.frameStart 1 0 0x123 false) ctx
abbrev fr : Frame := newFrame ctx 1 0 0 0x123
abbrev pk : LongPacket := {vc := 0, dt := 0x2B, wc := 5, data := [1,2,3,4,0x1B], crcOk := true, fixed := false, excess := false}
abbrev cl : State := nx (.frameEnd 1 0 0x123 false) op
abbrev st1 : State := ctx.setRg 84 0x20 4
abbrev st2 : State := {op with time := {op.time with a := 1000}}
abbrev va3 : LongPacket := {pk with crcOk := false}
abbrev va4 : LongPacket := {pk with excess := true}
abbrev va5 : LongPacket := {pk with dt := 0x2A}
abbrev va6 : Frame := {fr with flags := 2, close := some 0}

theorem wit_FramesOpenDeliverAndPublish_1 :
    (State.csiUp ctx 1 = true ∧ camsOf ctx 1 0 = [0] ∧ cfgRoute (State.cx ctx 1 0 0) = 2 ∧ (State.cam ctx 1 0).frame = none ∧
     State.rgProduces ctx (camRing 1 0) = true ∧ State.rgOcc ctx (camRing 1 0) + List.length (State.cam ctx 1 0).closed <
     State.rgN ctx (camRing 1 0)) := by
  decide +kernel

theorem wit_FramesOpenDeliverAndPublish_2 :
    (State.csiUp st1 1 = true ∧ camsOf st1 1 0 = [0] ∧ cfgRoute (State.cx st1 1 0 0) = 2 ∧ (State.cam st1 1 0).frame = none ∧
     State.rgProduces st1 (camRing 1 0) = true ∧ State.rgN st1 (camRing 1 0) ≤ State.rgOcc st1 (camRing 1 0) + List.length
     (State.cam st1 1 0).closed) := by
  decide +kernel

theorem wit_FramesOpenDeliverAndPublish_3 :
    (State.csiUp st2 1 = true ∧ camsOf st2 1 0 = [0] ∧ cfgRoute (State.cx st2 1 0 0) = 2 ∧ (State.cam st2 1 0).frame = some fr
     ∧ cfgRoute fr.cfg = 2 ∧ fr.lines < fld fr.size 29 16 ∧ State.rgProduces st2 (camRing 1 0) = true ∧ State.rgOcc st2
     (camRing 1 0) + List.length (State.cam st2 1 0).closed + 1 < State.rgN st2 (camRing 1 0) ∧ va4.vc = 0 ∧ va4.dt = cfgDt
     (State.cx st2 1 0 0) ∧ List.contains longDts va4.dt = true ∧ va4.fixed = false ∧ va4.excess = true ∧ List.contains
     fr.once 16435 = false ∧ fr.dt + BitVec.toNat (State.cx st2 1 0 24) ≤ State.dt st2 ∧ List.contains fr.once 16434 = false) ∧
    (State.csiUp op 1 = true ∧ camsOf op 1 0 = [0] ∧ cfgRoute (State.cx op 1 0 0) = 2 ∧ (State.cam op 1 0).frame = some fr ∧
     cfgRoute fr.cfg = 2 ∧ State.dt op < fr.dt + BitVec.toNat (State.cx op 1 0 24) ∧ pk.vc = 0 ∧ pk.dt = cfgDt (State.cx op 1
     0 0) ∧ List.contains longDts pk.dt = true ∧ pk.fixed = false ∧ pk.excess = false ∧ pk.wc = linkLine (cfgDt fr.cfg) (fld
     fr.size 13 0) ∧ fr.dead = false ∧ fr.lines < fld fr.size 29 16 ∧ fr.flags &&& 8 = 0 ∧ camFails op (cfgAgent fr.cfg)
     (fr.buf + fr.wrote * fr.stride) (List.length (rawOut fr.cfg (fld fr.size 13 0) (List.take pk.wc pk.data))) = none ∧
     pk.crcOk = true) ∧
    (State.csiUp st2 1 = true ∧ camsOf st2 1 0 = [0] ∧ cfgRoute (State.cx st2 1 0 0) = 2 ∧ (State.cam st2 1 0).frame = some fr
     ∧ cfgRoute fr.cfg = 2 ∧ va3.vc = 0 ∧ va3.dt = cfgDt (State.cx st2 1 0 0) ∧ List.contains longDts va3.dt = true ∧
     va3.fixed = false ∧ va3.excess = false ∧ va3.wc = linkLine (cfgDt fr.cfg) (fld fr.size 13 0) ∧ fr.dead = false ∧ fr.lines
     < fld fr.size 29 16 ∧ fr.flags &&& 8 = 0 ∧ camFails st2 (cfgAgent fr.cfg) (fr.buf + fr.wrote * fr.stride) (List.length
     (rawOut fr.cfg (fld fr.size 13 0) (List.take va3.wc va3.data))) = none ∧ va3.crcOk = false ∧ List.contains fr.once 16433
     = false) := by
  refine ⟨?_, ?_, ?_⟩ <;> decide +kernel

theorem wit_FramesOpenDeliverAndPublish_4 :
    (State.csiUp ctx 1 = true ∧ camsOf ctx 1 0 = [0] ∧ cfgRoute (State.cx ctx 1 0 0) = 2 ∧ (State.cam ctx 1 0).frame = none)
     := by
  decide +kernel

theorem wit_FramesOpenDeliverAndPublish_5 :
    (State.csiUp ctx 1 = true ∧ camsOf ctx 1 0 = [0] ∧ cfgRoute (State.cx ctx 1 0 0) = 2 ∧ va5.fixed = false ∧ List.contains
     longDts va5.dt = true ∧ va5.vc = 0 ∧ va5.dt ≠ cfgDt (State.cx ctx 1 0 0)) := by
  decide +kernel

theorem wit_FramesOpenDeliverAndPublish_6 :
    (State.csiUp ctx 1 = true ∧ camsOf ctx 1 0 = [0] ∧ cfgRoute (State.cx ctx 1 0 0) = 2 ∧ (State.cam ctx 1 0).closed = []) :=
     by
  decide +kernel

theorem wit_FramesOpenDeliverAndPublish_7 :
    (State.csiUp cl 1 = true ∧ camsOf cl 1 0 = [0] ∧ cfgRoute (State.cx cl 1 0 0) = 2 ∧ (State.cam cl 1 0).closed = [va6] ∧
     State.rgProduces cl (camRing 1 0) = true ∧ State.rgOcc cl (camRing 1 0) < State.rgN cl (camRing 1 0) ∧ State.ringRegion
     cl (State.rgSlot cl (camRing 1 0) (State.rgTail cl (camRing 1 0))) 32 = true ∧ firstFail cl (cfgAgent va6.cfg)
     (State.rgSlot cl (camRing 1 0) (State.rgTail cl (camRing 1 0))) 32 true = none) := by
  decide +kernel

end T15

namespace T15b

abbrev AP : Master := .application 1
abbrev rg (s : State) (q : Nat) (b : Word) (cfg own : Word) (h t : Word) : State := ((((((s.setB (rgBlk q) offStatus 0
    true).setRg q 0 b).setRg q 0x08 cfg).setRg q 0x0C own).setRg q 0x14 1).setRg q 0x1C h).setRg q 0x20 t
abbrev base : State := (live.setN .ddrc 0x44 2048).setB (.csi 1) offStatus 0 true
abbrev rings : State := rg base 84 0x80000000 0x10102 0x55 0 0
abbrev cxx (s : State) (cfg : Word) : State := (((s.setN (.csi 1) 0x100 cfg.toNat).setN (.csi 1) 0x104 0x00020004).setN (.csi
    1) 0x108 0x81000000).setN (.csi 1) 0x114 64 |>.setN (.csi 1) 0x110 256
abbrev ctx : State := cxx rings 0x00022B01
abbrev nx (c : Instr) (s : State) : State := match exec c s with | .next t => t | _ => s
abbrev op : State := nx (.frameStart 1 0 0x123 false) ctx
abbrev fr : Frame := newFrame ctx 1 0 0 0x123
abbrev pk : LongPacket := {vc := 0, dt := 0x2B, wc := 5, data := [1,2,3,4,0x1B], crcOk := true, fixed := false, excess := false}
abbrev cfgd : State := cxx rings 0x00022B00
abbrev job (s : State) : State := {s with jobs := [(0x71, .units [0])]}
abbrev ispc : State := (((cxx rings 0x00002B01).setB (.isp 0) offStatus 0 true).setN (.isp 0) 0x11C 0x11).setN (.isp 0) 0x10C
    0x5000000
abbrev st1 : State := job cfgd
abbrev st2 : State := job (cxx rings 0x00022000)
abbrev st3 : State := base.setN (.csi 1) 0x40 0x00800000
abbrev va4 : LongPacket := ({pk with dt := 0x30} : LongPacket)

theorem wit_ContextsAreCheckedAndLinksReport_1 :
    (State.present st2 (Blk.csi 1) = true ∧ SMap.get? st2.jobs (Blk.pg (Blk.csi 1)) = some (PageJob.units [0]) ∧ camCheck st2
     1 0 = some (16386, 256)) ∧
    (State.present st1 (Blk.csi 1) = true ∧ SMap.get? st1.jobs (Blk.pg (Blk.csi 1)) = some (PageJob.units [0]) ∧ camCheck st1
     1 0 = none) := by
  refine ⟨?_, ?_⟩ <;> decide +kernel

theorem wit_ContextsAreCheckedAndLinksReport_2 :
    (Applies cfgd AP (Blk.csi 1) (cxOff 0 0) (142080 : Word) ones ∧ bit (142080 : Word) 0 = false ∧ State.cxOn cfgd 1 0 =
     false) ∧
    (Applies cfgd AP (Blk.csi 1) (cxOff 0 0) (142081 : Word) ones ∧ bit (142081 : Word) 0 = true ∧ State.cxOn cfgd 1 0 =
     false) ∧
    (Applies op AP (Blk.csi 1) (cxOff 0 0) (142080 : Word) ones ∧ bit (142080 : Word) 0 = false ∧ State.cxOn (plainStore
     (Blk.csi 1) (cxOff 0 0) (142080 : Word) ones op) 1 0 = true ∧ (State.cam op 1 0).frame = some fr ∧ cfgRoute fr.cfg = 2)
     := by
  refine ⟨?_, ?_, ?_⟩ <;> decide +kernel

theorem wit_ContextsAreCheckedAndLinksReport_3 :
    (State.csiUp ispc 1 = true ∧ camsOf ispc 1 0 = [0] ∧ cfgRoute (State.cx ispc 1 0 0) < 2 ∧ camRoutes ispc 1 0 = true ∧
     (State.cam ispc 1 0).frame = none ∧ State.rgProduces ispc (camRing 1 0) = true ∧ State.rgOcc ispc (camRing 1 0) +
     List.length (State.cam ispc 1 0).closed < State.rgN ispc (camRing 1 0) ∧ (memRead (cfgAgent (State.cx ispc 1 0 0))
     (BitVec.toNat (State.sl ispc (cfgRoute (State.cx ispc 1 0 0)) (cfgSlot (State.cx ispc 1 0 0)) 12) + fld (State.sl ispc
     (cfgRoute (State.cx ispc 1 0 0)) (cfgSlot (State.cx ispc 1 0 0)) 16) 7 0 <<< 32) 4096 ispc).snd = none) := by
  decide +kernel

theorem wit_ContextsAreCheckedAndLinksReport_4 :
    (State.csiUp base 1 = true ∧ (∀ (c : Nat), c < 4 → (State.cam base (1) c).frame = none)) := by
  decide +kernel

theorem wit_ContextsAreCheckedAndLinksReport_5 :
    (State.csiUp base 1 = true ∧ (∀ (c : Nat), c < 4 → (State.cam base (1) c).frame = none) ∧ 0 < 2 ^ State.getF base (Blk.csi
     1) 64 1 0) ∧
    (State.csiUp st3 1 = true ∧ (∀ (c : Nat), c < 4 → (State.cam st3 (1) c).frame = none) ∧ 2 ^ State.getF st3 (Blk.csi 1) 64
     1 0 ≤ 1) := by
  refine ⟨?_, ?_⟩ <;> decide +kernel

theorem wit_ContextsAreCheckedAndLinksReport_6 :
    (State.csiUp base 1 = true ∧ va4.fixed = false ∧ List.contains longDts va4.dt = false ∧ (∀ (c : Nat), c < 4 → (State.cam
     base (1) c).frame = none) ∧ 8 ≤ 8 ∧ 8 < 16) := by
  decide +kernel

end T15b

namespace T16

abbrev AP : Master := .application 1
abbrev vr : State :=
    { live with regs := [(0x40002060, 0xffffffff), (0x40002064, 0xfffffff), (0x4001600c, 0x1), (0x40016100, 0x80000000), (0x40016108, 0x20103), (0x4001610c, 0x55), (0x40016114, 0x1), (0x40016120, 0x1), (0x40016180, 0x80001000), (0x40016188, 0x10103), (0x4001618c, 0x55), (0x40016194, 0x1), (0x4001619c, 0x3), (0x400161a0, 0x3), (0x4006000c, 0x1), (0x40060044, 0x800), (0x4008000c, 0x1), (0x40080144, 0x4380780), (0x40080148, 0xb0000000), (0x40080150, 0x10), (0x40080154, 0x2f7600), (0x40080158, 0x780), (0x4008015c, 0xb4000000), (0x4008100c, 0x1), (0x4008200c, 0x1)] }
abbrev vj : State := {vr.setN .vdec 0x140 6 with jobs := [(0x80, .units [1])]}
abbrev on : State :=
    { vr with regs := [(0x40002060, 0xffffffff), (0x40002064, 0xfffffff), (0x4001600c, 0x1), (0x40016100, 0x80000000), (0x40016108, 0x20103), (0x4001610c, 0x55), (0x40016114, 0x1), (0x40016120, 0x1), (0x40016180, 0x80001000), (0x40016188, 0x10103), (0x4001618c, 0x55), (0x40016194, 0x1), (0x4001619c, 0x3), (0x400161a0, 0x3), (0x4006000c, 0x1), (0x40060044, 0x800), (0x4008000c, 0x1), (0x40080140, 0x7), (0x40080144, 0x4380780), (0x40080148, 0xb0000000), (0x40080150, 0x10), (0x40080154, 0x2f7600), (0x40080158, 0x780), (0x4008015c, 0xb4000000), (0x40080164, 0x1), (0x4008100c, 0x1), (0x4008200c, 0x1)], vdec := [(1, VdecSt.init)] }
abbrev chunk (fl : Nat) : List Byte := withCheck (leBytes 5 1 ++ leBytes fl 1 ++ leBytes 1 1 ++ leBytes 0 1 ++ leBytes 0x57 4
    ++ leBytes 0x700000000 8 ++ leBytes 0xB8000000 5 ++ leBytes 0 3 ++ leBytes 0x12C00 4 ++ leBytes 0 3)
abbrev rd : State := on.storeBytes 0x80000000 (chunk 2)
abbrev got : State :=
    { rd with regs := [(0x40002060, 0xffffffff), (0x40002064, 0xfffffff), (0x4001600c, 0x1), (0x40016100, 0x80000000), (0x40016108, 0x20103), (0x4001610c, 0x55), (0x40016114, 0x1), (0x4001611c, 0x1), (0x40016120, 0x1), (0x40016180, 0x80001000), (0x40016188, 0x10103), (0x4001618c, 0x55), (0x40016194, 0x1), (0x4001619c, 0x3), (0x400161a0, 0x3), (0x4006000c, 0x1), (0x40060044, 0x800), (0x400600ac, 0x4b0), (0x4008000c, 0x1), (0x40080140, 0x7), (0x40080144, 0x4380780), (0x40080148, 0xb0000000), (0x40080150, 0x10), (0x40080154, 0x2f7600), (0x40080158, 0x780), (0x4008015c, 0xb4000000), (0x40080164, 0x1), (0x4008100c, 0x1), (0x4008200c, 0x1)], vdec := [(1, { VdecSt.init with chunks := [(some 30064771072, 1)] })] }
abbrev pic : PictureOut :=
    {irap := false, rasl := false, unsup := false, need := 4, width := 1920, height := 1080, ten := false, ref := true, drop := [], output := [], unitLog2 := 6, poc := 8, runs := [{first := 150, units := 60, cause := 2}]}
abbrev go2 : State := got.setN .vdec 0x164 0
abbrev fl : State := (got.setN .vdec 0x164 0).setVd 1
    { got.vd 1 with pics := (List.range 16).map (fun k => {no := k, buf := some k, stamp := 0, fmt := 16, width := 1, height := 1, flags := 0, runs := [], unitLog2 := 4, poc := 0, ref := true, held := false}) }
abbrev vp : VPic :=
    {no := 0x41, buf := some 5, stamp := 0x700000000, fmt := 0x10, width := 1920, height := 1080, flags := 0, runs := [{first := 150, units := 60, cause := 2, method := 0}], unitLog2 := 6, poc := 8, ref := true, held := false}
abbrev pb : State := on.setVd 1 { on.vd 1 with pics := [vp], out := [(0x41, false)] }
abbrev sf : List Byte := withCheck (leBytes 7 1 ++ leBytes 0 1 ++ leBytes 0 2 ++ leBytes 0x57 4 ++ leBytes 0x700000000 8 ++
    leBytes 0xB8000000 5 ++ leBytes 0 1 ++ leBytes 64 2 ++ leBytes 0 7)
abbrev ve : State :=
    { live with regs := [(0x40002060, 0xffffffff), (0x40002064, 0xfffffff), (0x4001600c, 0x1), (0x40016240, 0x80000000), (0x40016248, 0x20103), (0x4001624c, 0x55), (0x40016254, 0x1), (0x40016260, 0x1), (0x40016280, 0x80001000), (0x40016288, 0x10103), (0x4001628c, 0x55), (0x40016294, 0x1), (0x4006000c, 0x1), (0x40060044, 0x800), (0x4008000c, 0x1), (0x4008100c, 0x1), (0x40081044, 0x400040), (0x4008105c, 0xb0000000), (0x40081064, 0x10000), (0x4008200c, 0x1)] }
abbrev ve2 : State :=
    { ve.storeBytes 0x80000000 sf with regs := [(0x40002060, 0xffffffff), (0x40002064, 0xfffffff), (0x4001600c, 0x1), (0x40016240, 0x80000000), (0x40016248, 0x20103), (0x4001624c, 0x55), (0x40016254, 0x1), (0x4001625c, 0x1), (0x40016260, 0x1), (0x40016280, 0x80001000), (0x40016288, 0x10103), (0x4001628c, 0x55), (0x40016294, 0x1), (0x4006000c, 0x1), (0x40060044, 0x800), (0x400600b0, 0x60), (0x4008000c, 0x1), (0x4008100c, 0x1), (0x40081044, 0x400040), (0x4008105c, 0xb0000000), (0x40081064, 0x10000), (0x4008200c, 0x1)], venc := { VencSt.init with src := [{ flags := 0, seq := 87, dt := 30064771072, clipStart := false, clipEnd := false, left := 0 }] } }
abbrev un : UnitOut := {size := 3, excess := false, data := [1,2,3], qp := 24}
abbrev job : List Byte := withCheck (leBytes 9 1 ++ leBytes 0 1 ++ leBytes 0x10 1 ++ leBytes 50 1 ++ leBytes 0x100010 4 ++
    leBytes 0xB8000000 5 ++ leBytes 0xB9000000 5 ++ leBytes 0xBA000000 5 ++ leBytes 0 1 ++ leBytes 0x1000 4 ++ leBytes 64 2 ++
    leBytes 0 1)
abbrev jp : State :=
    { live with regs := [(0x40002060, 0xffffffff), (0x40002064, 0xfffffff), (0x4001600c, 0x1), (0x400162c0, 0x80000000), (0x400162c8, 0x20103), (0x400162cc, 0x55), (0x400162d4, 0x1), (0x400162e0, 0x1), (0x4006000c, 0x1), (0x40060044, 0x800), (0x4008000c, 0x1), (0x4008100c, 0x1), (0x4008200c, 0x1)] }
abbrev jq : State :=
    { jp.storeBytes 0x80000000 job with regs := [(0x40002060, 0xffffffff), (0x40002064, 0xfffffff), (0x4001600c, 0x1), (0x400162c0, 0x80000000), (0x400162c8, 0x20103), (0x400162cc, 0x55), (0x400162d4, 0x1), (0x400162e0, 0x1), (0x4006000c, 0x1), (0x40060044, 0x800), (0x4008000c, 0x1), (0x4008100c, 0x1), (0x4008200c, 0x1), (0x40082040, 0x1)], jpeg := some job }
abbrev jobD : List Byte := withCheck (leBytes 9 1 ++ leBytes 1 1 ++ leBytes 0x10 1 ++ leBytes 50 1 ++ leBytes 0x100010 4 ++
    leBytes 0xB8000000 5 ++ leBytes 0xB9000000 5 ++ leBytes 0xBA000000 5 ++ leBytes 0 1 ++ leBytes 0x1000 4 ++ leBytes 64 2 ++
    leBytes 0 1)
abbrev jd : State := {jq with jpeg := some jobD}
abbrev st1 : State := vj.setN .vdec 0x144 0x04380020
abbrev st2 : State := on.storeBytes 0x80000000 (List.replicate 32 1)
abbrev st3 : State := rd.setN .vdec 0x164 2
abbrev st4 : State := ve.storeBytes 0x80000000 sf
abbrev st5 : State := ve.storeBytes 0x80000000 (List.replicate 32 1)
abbrev va6 : VencSrc := ({flags := 0, seq := 0x57, dt := 0x700000000, clipStart := false, clipEnd := false, left := 0} :
    VencSrc)
abbrev st7 : State := ve2.setN .venc 0x64 2
abbrev st8 : State := jp.storeBytes 0x80000000 job
abbrev st9 : State := jp.storeBytes 0x80000000 (List.replicate 32 1)
abbrev va10 : JpegOut := ({unsup := true, width := 0, height := 0, fmt := 0x10, ri := 0, bad := [], coef := []} : JpegOut)

theorem wit_CodecsDecodeEncodeAndReport_2 :
    (Applies vr AP Blk.vdec (vsOff 1 0) (7 : Word) ones ∧ bit (7 : Word) 0 = true ∧ State.vsOn vr 1 = false) ∧
    (Applies on AP Blk.vdec (vsOff 1 0) (6 : Word) ones ∧ bit (6 : Word) 0 = false ∧ State.vsOn (plainStore Blk.vdec (vsOff 1
     0) (6 : Word) ones on) 1 = true) := by
  refine ⟨?_, ?_⟩ <;> decide +kernel

theorem wit_CodecsDecodeEncodeAndReport_1 :
    (State.present st1 Blk.vdec = true ∧ SMap.get? st1.jobs (Blk.pg Blk.vdec) = some (PageJob.units [1 + 4 * Bool.toNat
     false]) ∧ vdecCheck st1 (1) false = some (18433, 324)) ∧
    (State.present vj Blk.vdec = true ∧ SMap.get? vj.jobs (Blk.pg Blk.vdec) = some (PageJob.units [1 + 4 * Bool.toNat false])
     ∧ vdecCheck vj (1) false = none) := by
  refine ⟨?_, ?_⟩ <;> decide +kernel

theorem wit_CodecsDecodeEncodeAndReport_3 :
    (State.up st2 Blk.vdec = true ∧ State.rgWaits st2 96 = true ∧ State.armedFor st2 5 96 = none ∧ checkOk (State.rgFront st2
     96) = false) ∧
    (State.up st3 Blk.vdec = true ∧ State.rgWaits st3 96 = true ∧ State.armedFor st3 5 96 = none ∧ checkOk (State.rgFront st3
     96) = true ∧ State.vsOn st3 (eByte (State.rgFront st3 96) 2 % 4) = true ∧ (State.vd st3 (eByte (State.rgFront st3 96) 2 %
     4)).skip = 0 ∧ bit (State.vs st3 (eByte (State.rgFront st3 96) 2 % 4) 36) 1 = true) ∧
    (State.up rd Blk.vdec = true ∧ State.rgWaits rd 96 = true ∧ State.armedFor rd 5 96 = none ∧ checkOk (State.rgFront rd 96)
     = true ∧ State.vsOn rd (eByte (State.rgFront rd 96) 2 % 4) = true ∧ (State.vd rd (eByte (State.rgFront rd 96) 2 %
     4)).skip = 0 ∧ bit (State.vs rd (eByte (State.rgFront rd 96) 2 % 4) 36) 1 = false ∧ eByte (State.rgFront rd 96) 1 % 8 = 2
     ∧ (State.vd rd (eByte (State.rgFront rd 96) 2 % 4)).eos = false ∧ readFails rd agVdec (eNum (State.rgFront rd 96) 16 5)
     (eNum (State.rgFront rd 96) 24 4) = none) := by
  refine ⟨?_, ?_, ?_⟩ <;> decide +kernel

theorem wit_CodecsDecodeEncodeAndReport_4 :
    (State.up got Blk.vdec = true ∧ State.vsOn got 1 = true ∧ takePicture (State.vd got 1).chunks = some (some 30064771072,
     [(some 30064771072, 0)]) ∧ (State.vd got 1).eos = false ∧ pictureRunsOk pic = true ∧ bit (State.vs got 1 36) 0 = true ∧
     pic.irap = false ∧ (State.vdReady got 1 = false ∨ State.vdTurn got = some 1)) ∧
    (State.up fl Blk.vdec = true ∧ State.vsOn fl 1 = true ∧ takePicture (State.vd fl 1).chunks = some (some 30064771072,
     [(some 30064771072, 0)]) ∧ (State.vd fl 1).eos = false ∧ pictureRunsOk pic = true ∧ bit (State.vs fl 1 36) 0 = false ∧
     pic.rasl = false ∧ pic.unsup = false ∧ pic.need + State.rgN fl (97 + 1) + 1 ≤ State.vsCount fl 1 ∧ vdFree fl 1 = []) ∧
    (State.up go2 Blk.vdec = true ∧ State.vsOn go2 1 = true ∧ takePicture (State.vd go2 1).chunks = some (some 30064771072,
     [(some 30064771072, 0)]) ∧ (State.vd go2 1).eos = false ∧ pictureRunsOk pic = true ∧ bit (State.vs go2 1 36) 0 = false ∧
     pic.rasl = false ∧ pic.unsup = false ∧ pic.need + State.rgN go2 (97 + 1) + 1 ≤ State.vsCount go2 1 ∧ pic.width ≤ fld
     (State.vs go2 1 4) 12 0 ∧ pic.height ≤ fld (State.vs go2 1 4) 28 16 ∧ pic.output = [] ∧ pic.drop = [] ∧ (∀ (b : Nat), b ∈
     vdFree go2 1 → camFails go2 agVdec (State.vsPool go2 1 + b * BitVec.toNat (State.vs go2 1 20)) (vdBytes go2 (1)
     pic.height) = none) ∧ State.vdTurn go2 = some 1 ∧ ((if (pic.ten && bit (State.vs go2 1 0) 1 && !bit (State.vs go2 1 0) 2)
     = true then 2 else 1) * pic.width ≤ fld (State.vs go2 1 24) 15 0) ∧ pic.width % 2 = 0 ∧ pic.height % 2 = 0) := by
  refine ⟨?_, ?_, ?_⟩ <;> decide +kernel

theorem wit_CodecsDecodeEncodeAndReport_5 :
    (State.up pb Blk.vdec = true ∧ State.vsOn pb 1 = true ∧ State.rgProduces pb (97 + 1) = true ∧ (State.vd pb 1).out = [(65,
     false)] ∧ (List.find? (fun (p : VPic) => p.no == 65) (State.vd pb 1).pics = some vp) ∧ State.rgOcc pb (97 + 1) <
     State.rgN pb (97 + 1) ∧ camFails pb agVdec (State.vsDmg pb 1 + State.rgTail pb (97 + 1) % State.rgN pb (97 + 1) * 4096)
     (List.length (dmgArea vp)) = none ∧ (State.rgSlot pb (97 + 1) (State.rgTail pb (97 + 1)) + 32 ≤ State.vsDmg pb 1 +
     State.rgTail pb (97 + 1) % State.rgN pb (97 + 1) * 4096 ∨ State.vsDmg pb 1 + State.rgTail pb (97 + 1) % State.rgN pb (97
     + 1) * 4096 + List.length (dmgArea vp) ≤ State.rgSlot pb (97 + 1) (State.rgTail pb (97 + 1))) ∧ State.ringRegion pb
     (State.rgSlot pb (97 + 1) (State.rgTail pb (97 + 1))) 32 = true ∧ firstFail pb agVdec (State.rgSlot pb (97 + 1)
     (State.rgTail pb (97 + 1))) 32 true = none) := by
  decide +kernel

theorem wit_CodecsDecodeEncodeAndReport_6 :
    (State.up st5 Blk.venc = true ∧ State.rgWaits st5 101 = true ∧ State.armedFor st5 5 101 = none ∧ checkOk (State.rgFront
     st5 101) = false) ∧
    (State.up st4 Blk.venc = true ∧ State.rgWaits st4 101 = true ∧ State.armedFor st4 5 101 = none ∧ checkOk (State.rgFront
     st4 101) = true ∧ State.veMode st4 ≠ 3 ∧ readFails st4 agVenc (eNum (State.rgFront st4 101) 16 5) (eNum (State.rgFront
     st4 101) 22 2 * ((State.veDims st4).snd + (State.veDims st4).snd / 2)) = none) := by
  refine ⟨?_, ?_⟩ <;> decide +kernel

theorem wit_CodecsDecodeEncodeAndReport_7 :
    (State.up st7 Blk.venc = true ∧ State.rgProduces st7 102 = true ∧ st7.venc.src = [va6] ∧ State.veMode st7 = 0 ∧
     List.length un.data = un.size ∧ va6.clipEnd = false ∧ (∀ (z : VencSrc), z ∈ [] → z.clipStart = false) ∧ (un.qp = if veIdr
     st7 va6 = true then State.getF st7 Blk.venc 80 5 0 else State.getF st7 Blk.venc 80 13 8) ∧ vePlace st7 (List.length
     un.data) = none) ∧
    (State.up ve2 Blk.venc = true ∧ State.rgProduces ve2 102 = true ∧ ve2.venc.src = [va6] ∧ State.veMode ve2 = 0 ∧
     List.length un.data = un.size ∧ va6.clipEnd = false ∧ (∀ (z : VencSrc), z ∈ [] → z.clipStart = false) ∧ (un.qp = if veIdr
     ve2 va6 = true then State.getF ve2 Blk.venc 80 5 0 else State.getF ve2 Blk.venc 80 13 8) ∧ vePlace ve2 (List.length
     un.data) = some 0 ∧ State.rgOcc ve2 102 < State.rgN ve2 102 ∧ camFails ve2 agVenc (State.veBs ve2 + 0) (List.length
     un.data) = none ∧ (State.rgSlot ve2 102 (State.rgTail ve2 102) + 32 ≤ State.veBs ve2 + 0 ∨ State.veBs ve2 + 0 +
     List.length un.data ≤ State.rgSlot ve2 102 (State.rgTail ve2 102)) ∧ State.ringRegion ve2 (State.rgSlot ve2 102
     (State.rgTail ve2 102)) 32 = true ∧ firstFail ve2 agVenc (State.rgSlot ve2 102 (State.rgTail ve2 102)) 32 true = none) :=
     by
  refine ⟨?_, ?_⟩ <;> decide +kernel

theorem wit_CodecsDecodeEncodeAndReport_8 :
    (State.up st9 Blk.jpeg = true ∧ State.rgWaits st9 103 = true ∧ State.armedFor st9 5 103 = none ∧ st9.jpeg = none ∧ checkOk
     (State.rgFront st9 103) = false) ∧
    (State.up st8 Blk.jpeg = true ∧ State.rgWaits st8 103 = true ∧ State.armedFor st8 5 103 = none ∧ st8.jpeg = none ∧ checkOk
     (State.rgFront st8 103) = true) := by
  refine ⟨?_, ?_⟩ <;> decide +kernel

theorem wit_CodecsDecodeEncodeAndReport_9 :
    (State.up jd Blk.jpeg = true ∧ jd.jpeg = some jobD ∧ 0 < State.rgN jd 103 ∧ camFails jd agJpeg (eNum jobD 18 5) 32 = none
     ∧ jobForeign jd jobD va10 = false ∧ (jobStatus jd jobD va10).fst ≠ 1 ∧ (jobStatus jd jobD va10).fst ≠ 4 ∧ (jobStatus jd
     jobD va10).fst ≠ 5) := by
  decide +kernel

end T16

namespace T17

abbrev AP : Master := .application 1
abbrev body (ow ww stride n : Nat) (buf : Nat) : List Byte := leBytes 0x58 1 ++ leBytes 0 1 ++ leBytes 0 1 ++ leBytes 1 1 ++
    leBytes 0 4 ++ leBytes ww 2 ++ leBytes ww 2 ++ leBytes 32 1 ++ leBytes 128 1 ++ leBytes 16 1 ++ leBytes 32 1 ++ leBytes
    0x00005EED00000017 8 ++ leBytes 1041 8 ++ leBytes 0x108000 4 ++ leBytes 0x140000 4 ++ leBytes n 2 ++ leBytes 0 2 ++
    leBytes stride 4 ++ leBytes 0xC0000000 5 ++ leBytes 6 1 ++ leBytes 0 2 ++ leBytes buf 4 ++ leBytes 0 4 ++ leBytes
    0x43000000 4 ++ leBytes 0x43000000 4 ++ leBytes 0x43000000 4 ++ leBytes 0x3F800000 4 ++ leBytes 0x3F800000 4 ++ leBytes
    0x3F800000 4 ++ leBytes 0 8 ++ leBytes ow 2 ++ leBytes ow 2 ++ leBytes 0 28 ++ leBytes 0x31 4 ++ leBytes 0 27
def words (l : List Byte) : List Nat := (List.range 40).map (fun k => eNum l (4 * k) 4)
abbrev withDesc (s : State) (l : List Byte) : State := (words l).zipIdx.foldl (fun t (p : Nat × Nat) => t.setN .spls (spDesc 5
    + 4 * p.2) p.1) s
abbrev d0 : State :=
    { live with regs := [(0x40002060, 0xffffffff), (0x40002064, 0xfffffff), (0x4001400c, 0x1), (0x40014240, 0x80001000), (0x40014248, 0x10202), (0x4001424c, 0x55), (0x40014254, 0x1), (0x4001500c, 0x1), (0x40015300, 0x80000000), (0x40015308, 0x20103), (0x4001530c, 0x55), (0x40015314, 0x1), (0x40015320, 0x1), (0x4006000c, 0x1), (0x40060044, 0x800), (0x4009000c, 0x1), (0x40091420, 0x1000058), (0x40091428, 0x80008), (0x4009142c, 0x20108020), (0x40091430, 0x17), (0x40091434, 0x5eed), (0x40091438, 0x411), (0x40091440, 0x108000), (0x40091444, 0x140000), (0x40091448, 0x4), (0x4009144c, 0xc0), (0x40091450, 0xc0000000), (0x40091454, 0x600), (0x40091458, 0x400), (0x40091460, 0x43000000), (0x40091464, 0x43000000), (0x40091468, 0x43000000), (0x4009146c, 0x3f800000), (0x40091470, 0x3f800000), (0x40091474, 0x3f800000), (0x40091480, 0x80008), (0x400914a0, 0x31), (0x400914bc, 0xc7000000)] }
abbrev db : State := (d0.setN .spl (spOff 5 0) 1).setN .spl (spOff 5 4) 4
abbrev on : State :=
    { d0 with regs := [(0x40002060, 0xffffffff), (0x40002064, 0xfffffff), (0x4001400c, 0x1), (0x40014240, 0x80001000), (0x40014248, 0x10202), (0x4001424c, 0x55), (0x40014254, 0x1), (0x4001500c, 0x1), (0x40015300, 0x80000000), (0x40015308, 0x20103), (0x4001530c, 0x55), (0x40015314, 0x1), (0x40015320, 0x1), (0x4006000c, 0x1), (0x40060044, 0x800), (0x4009000c, 0x1), (0x400901a0, 0x1), (0x400901a4, 0x1), (0x400901ac, 0x411), (0x40091420, 0x1000058), (0x40091428, 0x80008), (0x4009142c, 0x20108020), (0x40091430, 0x17), (0x40091434, 0x5eed), (0x40091438, 0x411), (0x40091440, 0x108000), (0x40091444, 0x140000), (0x40091448, 0x4), (0x4009144c, 0xc0), (0x40091450, 0xc0000000), (0x40091454, 0x600), (0x40091458, 0x400), (0x40091460, 0x43000000), (0x40091464, 0x43000000), (0x40091468, 0x43000000), (0x4009146c, 0x3f800000), (0x40091470, 0x3f800000), (0x40091474, 0x3f800000), (0x40091480, 0x80008), (0x400914a0, 0x31), (0x400914bc, 0xc7000000)], spl := [(5, SplSt.init)] }
abbrev fr (fmt fl w h : Nat) (cap : Nat) : List Byte := withCheck (leBytes 4 1 ++ leBytes fl 1 ++ leBytes 0 1 ++ leBytes fmt 1
    ++ leBytes 7 4 ++ leBytes cap 8 ++ leBytes 0xB0000000 5 ++ leBytes 0 1 ++ leBytes w 2 ++ leBytes h 2 ++ leBytes 64 2 ++
    leBytes 0 3)
abbrev w (e : List Byte) : State := {on with time := {on.time with a := 3000000000}}.storeBytes 0x80000000 e
abbrev st1 : State := db.setN .spls (spDesc 5) 0
abbrev st2 : State := w (fr 0x10 0 16 16 3000000000000)
abbrev st3 : State := w (fr 0x10 0 16 16 0)
abbrev st4 : State := w (fr 0x13 0 16 16 0)
abbrev st5 : State := w (List.replicate 32 3)
abbrev st6 : State := {withDesc (w (fr 0x10 1 16 16 3000000000000)) (withCheck ((body 8 8 192 4 1024).set 1 8)) with seq := 0}

theorem wit_StreamsTakeFillAndPublish_2 :
    ((Applies d0 AP Blk.spl ((fun (k : Nat) => spOff (5) k) 0) (1 : Word) ones) ∧ bit (1 : Word) 0 = true ∧ State.spOn d0 5 =
     false ∧ State.spBusy d0 5 = false) ∧
    ((Applies on AP Blk.spl ((fun (k : Nat) => spOff (5) k) 0) (0 : Word) ones) ∧ bit (0 : Word) 0 = false ∧ State.spOn on 5 =
     true ∧ (Option.getD (Option.map (fun (j : SplJob) => j.stream == 5) on.splJob) false = false) ∧ (State.sp on 5).run =
     none ∧ (State.sp on 5).open_ = [] ∧ (State.sp on 5).queue = []) := by
  refine ⟨?_, ?_⟩ <;> decide +kernel

theorem wit_StreamsTakeFillAndPublish_1 :
    (State.spBusy st1 5 = true ∧ spCheck st1 5 = some (20492, 1212)) ∧
    (State.spBusy db 5 = true ∧ spCheck db 5 = none) := by
  refine ⟨?_, ?_⟩ <;> decide +kernel

theorem wit_StreamsTakeFillAndPublish_3 :
    (State.up st5 Blk.spl = true ∧ st5.splJob = none ∧ State.armedFor st5 5 (State.spSrc st5 4) = none ∧ spTurn st5 ≠ some 4) ∧
    (State.up st5 Blk.spl = true ∧ st5.splJob = none ∧ State.armedFor st5 5 (State.spSrc st5 5) = none ∧ spTurn st5 = some 5 ∧
     judgeEntry st5 (5) (State.rgFront st5 (State.spSrc st5 5)) = SplVerdict.skip) ∧
    (State.up st3 Blk.spl = true ∧ st3.splJob = none ∧ State.armedFor st3 5 (State.spSrc st3 5) = none ∧ spTurn st3 = some 5 ∧
     judgeEntry st3 (5) (State.rgFront st3 (State.spSrc st3 5)) = SplVerdict.stale ∧ (State.sp st3 5).run = none) ∧
    (State.up st4 Blk.spl = true ∧ st4.splJob = none ∧ State.armedFor st4 5 (State.spSrc st4 5) = none ∧ spTurn st4 = some 5 ∧
     (judgeEntry st4 (5) (State.rgFront st4 (State.spSrc st4 5)) = SplVerdict.badFormat ∨ judgeEntry st4 (5) (State.rgFront
     st4 (State.spSrc st4 5)) = SplVerdict.badGeometry)) ∧
    (State.up st2 Blk.spl = true ∧ st2.splJob = none ∧ State.armedFor st2 5 (State.spSrc st2 5) = none ∧ spTurn st2 = some 5 ∧
     judgeEntry st2 (5) (State.rgFront st2 (State.spSrc st2 5)) = SplVerdict.accept ∧ spDescOk st2 5 = true ∧ (State.sp st2
     5).run = none) ∧
    (State.up st6 Blk.spl = true ∧ st6.splJob = none ∧ State.armedFor st6 5 (State.spSrc st6 5) = none ∧ spTurn st6 = some 5 ∧
     judgeEntry st6 (5) (State.rgFront st6 (State.spSrc st6 5)) = SplVerdict.damaged) := by
  refine ⟨?_, ?_, ?_, ?_, ?_, ?_⟩ <;> decide +kernel

end T17

namespace T17b

abbrev AP : Master := .application 1
abbrev rg (s : State) (q : Nat) (b : Word) (cfg own : Word) (h t : Word) : State := ((((((s.setB (rgBlk q) offStatus 0
    true).setRg q 0 b).setRg q 0x08 cfg).setRg q 0x0C own).setRg q 0x14 1).setRg q 0x1C h).setRg q 0x20 t
abbrev base : State := ((live.setN .ddrc 0x44 2048).setB .spl offStatus 0 true).setB .spls offStatus 0 true
abbrev ds (s : State) (l : List (Nat × Nat)) : State := l.foldl (fun t p => t.setN .spls (spDesc 5 + p.1) p.2) s
abbrev d0 : State := ds base [(0, 0x02020058), (8, 0x00020002), (16, 23), (36, 0x100), (40, 2), (44, 64), (48, 0xC0000000),
    (52, 0x300), (56, 256), (64, 0), (76, 0x3F800000), (96, 0x00010001)]
abbrev r0 : State := ((rg (rg d0 88 0x80000000 0x20103 0x55 0 1) 69 0x80001000 0x10202 0x55 0 0).setN .spl (spOff 5 0) 1).setN
    .spl (spOff 5 4) 1
abbrev e0 : List Byte := leBytes 4 1 ++ leBytes 0 1 ++ leBytes 0 1 ++ leBytes 0x10 1 ++ leBytes 7 4 ++ leBytes 0 8 ++ leBytes
    0xB0000000 5 ++ leBytes 0 1 ++ leBytes 16 2 ++ leBytes 16 2 ++ leBytes 64 2 ++ leBytes 0 4
abbrev bt (c : Nat) : Batch :=
    { bucket := 0, buf := 1, count := c, since := 0, first := 0, capture := 0, damaged := false, expired := false, flags := 0, seq := 0 }
abbrev st (s : State) (o : List Batch) (qu : List SplItem) (rn : Option DropRun) : State := s.setSp 5
    { SplSt.init with open_ := o, queue := qu, run := rn }
abbrev job : SplJob := {stream := 5, entry := e0, index := 9, bucket := 0}
abbrev jb : State := {st r0 [bt 0] [] none with splJob := some job}
abbrev jb2 : State := (jb.storeBytes 0xB0000000 [7, 7]).storeBytes 0xB0000040 [7, 7]
abbrev lt (s : State) : State := {s with time := {s.time with a := 3000000000}}
abbrev dr : DropRun := {first := 4, capture := 7, count := 2, since := 0, ended := false}
abbrev st1 : State := st r0 [bt 1] [] none
abbrev st2 : State := lt (st r0 [bt 1] [] none)
abbrev st3 : State := (st r0 [bt 1] [] (some dr))
abbrev st4 : State := lt (st r0 [bt 1] [] (some dr))
abbrev st5 : State := (st r0 [] [.batch (bt 2)] none).setN .spl (spOff 5 0) 0
abbrev st6 : State := (st r0 [] [.batch (bt 2)] none).setRg 69 0x20 4
abbrev st7 : State := (st r0 [] [.drop 3] (some dr))
abbrev st8 : State := (st r0 [] [.drop 3] (some dr)).setRg 69 0x20 4

theorem wit_StreamsTakeFillAndPublish_4 :
    (jb2.splJob = some job ∧ job.stream = 5 ∧ State.spEn jb2 5 = true ∧ (List.findSome? (fun (w : Nat × Nat) => readFails jb2
     agSpl w.fst w.snd) (sourceRows (sourceOf job.entry) (drawsOf jb2 (5) job.index (eNum job.entry 22 2) (eNum job.entry 24
     2))) = none) ∧ (List.find? (fun (w : Batch) => w.bucket == job.bucket) (State.sp jb2 5).open_ = some (bt 0)) ∧ camFails
     jb2 agSpl (State.spBuf jb2 (5) (bt 0).buf) (State.spInLen jb2 5) = none ∧ (bt 0).count + 1 < State.spBatchN jb2 5 ∧ (bt
     0).expired = false ∧ List.length (tensor jb2 (5) job.bucket (sourceOf job.entry) (drawsOf jb2 (5) job.index (eNum
     job.entry 22 2) (eNum job.entry 24 2))) ≤ State.spStride jb2 5) := by
  decide +kernel

theorem wit_StreamsTakeFillAndPublish_2 :
    ((Applies st1 AP Blk.spl ((fun (k : Nat) => spOff (5) k) 0) (0 : Word) ones) ∧ bit (0 : Word) 0 = false ∧ State.spOn st1 5
     = true ∧ (Option.getD (Option.map (fun (j : SplJob) => j.stream == 5) st1.splJob) false = false) ∧ (State.sp st1 5).run =
     none ∧ (State.sp st1 5).open_ = [bt 1] ∧ (bt 1).count ≠ 0 ∧ camFails st1 agSpl (State.spBuf st1 (5) (bt 1).buf)
     (State.spInLen st1 5) = none) := by
  decide +kernel

theorem wit_StreamsTakeFillAndPublish_5 :
    (st1.splJob = none ∧ (State.sp st1 5).open_ = [bt 1] ∧ (bt 1).expired = false ∧ (State.spTmo st1 5 = 0 ∨ State.dt st1 <
     (bt 1).since + State.spTmo st1 5)) ∧
    (st2.splJob = none ∧ (State.sp st2 5).open_ = [bt 1] ∧ (bt 1).expired = false ∧ State.spTmo st2 5 ≠ 0 ∧ (bt 1).since +
     State.spTmo st2 5 ≤ State.dt st2 ∧ (bt 1).count ≠ 0 ∧ (∀ (w : DropRun), (State.sp st2 5).run = some w → w.ended = true ∨
     State.dt st2 < w.since + State.spTmo st2 5) ∧ camFails st2 agSpl (State.spBuf st2 (5) (bt 1).buf) (State.spInLen st2 5) =
     none) := by
  refine ⟨?_, ?_⟩ <;> decide +kernel

theorem wit_StreamsTakeFillAndPublish_6 :
    ((State.sp st3 5).run = some dr ∧ dr.ended = false ∧ (State.spTmo st3 5 = 0 ∨ State.dt st3 < dr.since + State.spTmo st3
     5)) ∧
    ((State.sp st4 5).run = some dr ∧ dr.ended = false ∧ State.spTmo st4 5 ≠ 0 ∧ dr.since + State.spTmo st4 5 ≤ State.dt st4)
     := by
  refine ⟨?_, ?_⟩ <;> decide +kernel

theorem wit_StreamsTakeFillAndPublish_7 :
    (State.rgProduces st8 (spRing 5) = true ∧ (State.sp st8 5).queue = [SplItem.drop 3] ∧ (State.sp st8 5).run = some dr ∧
     State.rgN st8 (spRing 5) ≤ State.rgOcc st8 (spRing 5)) ∧
    (State.rgProduces st6 (spRing 5) = true ∧ (State.sp st6 5).queue = [SplItem.batch (bt 2)] ∧ State.rgN st6 (spRing 5) ≤
     State.rgOcc st6 (spRing 5)) ∧
    (State.rgProduces st7 (spRing 5) = true ∧ (State.sp st7 5).queue = [SplItem.drop 3] ∧ (State.sp st7 5).run = some dr ∧
     (State.ringRegion st7 (State.rgSlot st7 (spRing 5) (State.rgTail st7 (spRing 5))) 64 = true ∧ firstFail st7 agSpl
     (State.rgSlot st7 (spRing 5) (State.rgTail st7 (spRing 5))) 64 true = none) ∧ State.rgOcc st7 (spRing 5) < State.rgN st7
     (spRing 5)) ∧
    (State.rgProduces st5 (spRing 5) = true ∧ (State.sp st5 5).queue = [SplItem.batch (bt 2)] ∧ (State.ringRegion st5
     (State.rgSlot st5 (spRing 5) (State.rgTail st5 (spRing 5))) 64 = true ∧ firstFail st5 agSpl (State.rgSlot st5 (spRing 5)
     (State.rgTail st5 (spRing 5))) 64 true = none) ∧ State.rgOcc st5 (spRing 5) < State.rgN st5 (spRing 5)) := by
  refine ⟨?_, ?_, ?_, ?_⟩ <;> decide +kernel

end T17b

namespace T18

abbrev GT : Master := .gatehouse
abbrev BV : Master := .belvedere
abbrev slp : State := {(live.setN .gate 0x4C 0xFF0F) with power := {live.power with pstate := .sleep}}
abbrev al (s : State) : State := {s with gate := {s.gate with alarm := true}}
abbrev wr1 : WakeRec :=
    { tick := 1, main := 3, action := 3, source := 2, slot := 1, gpio := 0, dt := 7, phrase := none, link := 0 }
abbrev dn : State := (live.setF .gate 0x68 1 0 1)
abbrev q1 (typ : Nat) : State := (live.setF .gate 0x74 12 0 1).storeBytes mqBase (linkMsg typ 0 1 2 3)
abbrev lt (s : State) : State := {s with time := {s.time with a := 3000000}}
abbrev rs : State := (live.setF .gate 0x68 1 0 2)
abbrev ku : State := (live.setB .kws 0x40 0 true).setB .kws offStatus 0 true
abbrev ai : State := ((live.setB .aoi offStatus 0 true).setN .aoi 0x40 1).setN .aoi 0x110 0x00141234
abbrev st1 : State := slp.setN .gate 0x4C 0
abbrev st2 : State := slp.setN .gate 0x50 0xFFFF
abbrev st3 : State := slp.setN .gate 0x50 0x40
abbrev st4 : State := al slp
abbrev st5 : State := al (slp.setN .gate 0x60 1)
abbrev st6 : State := {live with gate := {live.gate with recs := [wr1]}}
abbrev st7 : State := dn.setF .gate 0x74 12 0 2
abbrev st8 : State := q1 0x14
abbrev st9 : State := q1 0x13
abbrev st10 : State := lt live
abbrev st11 : State := lt (live.setF .gate 0x68 5 4 2)
abbrev st12 : State := {dn with gate := {dn.gate with link := {dn.gate.link with next := 5}}}
abbrev st13 : State := rs.setF .gate 0x68 9 8 3
abbrev st14 : State := live.set .lock (lockOff 3) 0x00003001
abbrev st15 : State := live.setN .gate 0x48 15
abbrev st16 : State := lt ai
abbrev st17 : State := lt (ai.setN .aoi 0x114 0x100000)

theorem wit_TheGatehouseWakesLinksAndListens_1 :
    (Applies st1 GT Blk.gate 88 (1 : Word) ones ∧ bit (1 : Word) 0 = true ∧ State.mainCode st1 ≠ 0) ∧
    (Applies live BV Blk.gate 88 (1 : Word) ones ∧ bit (1 : Word) 0 = true ∧ State.mainCode live = 0) := by
  refine ⟨?_, ?_⟩ <;> decide +kernel

theorem wit_TheGatehouseWakesLinksAndListens_2 :
    (State.gateUp st3 = true ∧ (State.getF st3 Blk.gate 80 (2 * 3 + 1) (2 * 3) = 0 ∨ State.getF st3 Blk.gate 80 (2 * 3 + 1) (2
     * 3) = if false = true then 2 else 1)) ∧
    (State.gateUp st2 = true ∧ (State.getF st2 Blk.gate 80 (2 * 3 + 1) (2 * 3) = 3 ∨ State.getF st2 Blk.gate 80 (2 * 3 + 1) (2
     * 3) = if true = true then 1 else 2)) := by
  refine ⟨?_, ?_⟩ <;> decide +kernel

theorem wit_TheGatehouseWakesLinksAndListens_3 :
    (Applies live BV Blk.gate 96 (1 : Word) ones) := by
  decide +kernel

theorem wit_TheGatehouseWakesLinksAndListens_4 :
    (State.gateUp st5 = true ∧ st5.gate.alarm = true ∧ 1000 * st5.time.a < State.alarm st5) ∧
    (State.gateUp st4 = true ∧ st4.gate.alarm = true ∧ State.alarm st4 ≤ 1000 * st4.time.a) := by
  refine ⟨?_, ?_⟩ <;> decide +kernel

theorem wit_TheGatehouseWakesLinksAndListens_5 :
    (st6.gate.recs = [wr1] ∧ State.mqOcc st6 < 4096) := by
  decide +kernel

theorem wit_TheGatehouseWakesLinksAndListens_6 :
    (Applies live GT Blk.gate 116 (1 : Word) ones ∧ ringDiff 4096 (fld (1 : Word) 12 0) (State.mqHead live) ≤ 4096) ∧
    (Applies live GT Blk.gate 116 (6144 : Word) ones ∧ 4096 < ringDiff 4096 (fld (6144 : Word) 12 0) (State.mqHead live)) := by
  refine ⟨?_, ?_⟩ <;> decide +kernel

theorem wit_TheGatehouseWakesLinksAndListens_7 :
    (Applies st7 BV Blk.gate 112 (1 : Word) ones ∧ ringDiff 4096 (State.mqTail st7) (fld (1 : Word) 12 0) ≤ State.mqOcc st7)
     := by
  decide +kernel

theorem wit_TheGatehouseWakesLinksAndListens_8 :
    (State.linkLive st10 = true ∧ State.getF st10 Blk.gate 104 5 4 < 2 ∧ st10.gate.link.sinceAo + 32768 ≤ State.dt st10 ∧
     st10.gate.link.suppress = 0) ∧
    (State.linkLive st8 = true ∧ State.mqOcc st8 ≠ 0 ∧ checkOk (State.mqFront st8) = true ∧ BitVec.toNat (List.headD
     (State.mqFront st8) (0 : Byte)) ≠ 19 ∧ State.dt st8 < st8.gate.link.sinceAo + 32768) ∧
    (State.linkLive st11 = true ∧ 2 ≤ State.getF st11 Blk.gate 104 5 4 ∧ within (State.dt st11) (60 * oneSecond)
     st11.gate.link.downs = [] ∧ st11.gate.link.inj = none ∧ State.mqOcc st11 < 4096) ∧
    (State.linkLive st9 = true ∧ State.mqOcc st9 ≠ 0 ∧ checkOk (State.mqFront st9) = true ∧ BitVec.toNat (List.headD
     (State.mqFront st9) (0 : Byte)) = 19 ∧ st9.gate.link.rxSeq ≠ some (BitVec.toNat (List.headD (List.drop 1 (State.mqFront
     st9)) (0 : Byte)))) := by
  refine ⟨?_, ?_, ?_, ?_⟩ <;> decide +kernel

theorem wit_TheGatehouseWakesLinksAndListens_9 :
    (State.gateUp dn = true ∧ dn.power.pstate = PState.run ∧ ((fun (t : State) => State.getF t Blk.gate 104 1 0) dn = 1) ∧
     dn.gate.link.inj = none ∧ dn.gate.link.next ≤ State.dt dn) ∧
    (State.gateUp st12 = true ∧ st12.power.pstate = PState.run ∧ ((fun (t : State) => State.getF t Blk.gate 104 1 0) st12 = 1)
     ∧ st12.gate.link.inj = none ∧ State.dt st12 < st12.gate.link.next) := by
  refine ⟨?_, ?_⟩ <;> decide +kernel

theorem wit_TheGatehouseWakesLinksAndListens_10 :
    (((fun (t : State) => State.getF t Blk.gate 104 1 0) rs = 2) ∧ rs.gate.link.hs = false ∧ State.mqOcc rs < 4096 ∧
     State.getF rs Blk.gate 104 9 8 < 3) ∧
    (((fun (t : State) => State.getF t Blk.gate 104 1 0) st13 = 2) ∧ st13.gate.link.hs = false ∧ State.mqOcc st13 < 4096 ∧
     State.getF st13 Blk.gate 104 9 8 = 3) := by
  refine ⟨?_, ?_⟩ <;> decide +kernel

theorem wit_TheGatehouseWakesLinksAndListens_11 :
    (Applies live BV Blk.gate 108 (1 : Word) ones ∧ bit (1 : Word) 0 = true ∧ live.gate.link.inj = none ∧ ((fun (t : State) =>
     State.getF t Blk.gate 104 1 0) live ≠ 1)) ∧
    (Applies dn BV Blk.gate 108 (1 : Word) ones ∧ bit (1 : Word) 0 = true ∧ dn.gate.link.inj = none ∧ ((fun (t : State) =>
     State.getF t Blk.gate 104 1 0) dn = 1)) := by
  refine ⟨?_, ?_⟩ <;> decide +kernel

theorem wit_TheGatehouseWakesLinksAndListens_12 :
    (Applies st14 BV Blk.gate 68 (2 : Word) ones ∧ bit (2 : Word) 1 = true) := by
  decide +kernel

theorem wit_TheGatehouseWakesLinksAndListens_13 :
    (accJudge live (Agent.cpu BV) (gtSram + 262144) true = Acc.gate ∧ (∀ (c : Fin 32), BV ≠ Master.channel c)) := by
  decide +kernel

theorem wit_TheGatehouseWakesLinksAndListens_14 :
    (State.kwsUp ku = true) := by
  decide +kernel

theorem wit_TheGatehouseWakesLinksAndListens_15 :
    (State.kwsUp ku = true ∧ State.kwsFrames ku < 160 * (ku.gate.kws.hops + 1)) := by
  decide +kernel

theorem wit_TheGatehouseWakesLinksAndListens_16 :
    (Applies ku GT Blk.kws 64 (0 : Word) ones ∧ bit (0 : Word) 0 = false) ∧
    (Applies st15 GT Blk.kws 64 (1 : Word) ones ∧ bit (1 : Word) 0 = true ∧ State.getB st15 Blk.kws 64 0 = false ∧
     State.clockOn st15 61 = true ∧ kwsCheck (plainStore Blk.kws 64 (1 : Word) ones st15) = some (24864, 68) ∧ State.mqOcc
     st15 < 4096) := by
  refine ⟨?_, ?_⟩ <;> decide +kernel

theorem wit_TheGatehouseWakesLinksAndListens_17 :
    (State.aiUp st16 = true ∧ State.aiOn st16 1 = true ∧ bit (State.ai st16 1 4) 20 = false ∧ Option.getD (SMap.get?
     st16.gate.polls 1) 0 + fld (State.ai st16 1 0) 31 20 ≤ st16.time.a ∧ State.mqOcc st16 < 4096 ∧ fld (State.ai st16 1 4) 17
     16 = 0) ∧
    (State.aiUp st17 = true ∧ State.aiOn st17 1 = true ∧ bit (State.ai st17 1 4) 20 = true) := by
  refine ⟨?_, ?_⟩ <;> decide +kernel

theorem wit_TheGatehouseWakesLinksAndListens_18 :
    (Applies ai GT Blk.aoi 68 (1 : Word) ones ∧ State.aiUp ai = true) := by
  decide +kernel

end T18

namespace T18b

abbrev GT : Master := .gatehouse
abbrev mdl (s : State) : State := (s.storeBytes gtSram (leBytes 0x3153574B 4 ++ leBytes 0x00000101 4 ++ leBytes 160 4 ++
    leBytes 324 4)).storeBytes (gtSram + 80) (leBytes 0 48 ++ leBytes 1 4 ++ leBytes 0x00010001 4 ++ leBytes 160 2 ++ leBytes
    1 2 ++ leBytes 160 4 ++ leBytes 320 4 ++ leBytes 0 12)
abbrev off : State := ((mdl live).setN .gate 0x48 15).setN .kws 0x44 0x10001
abbrev ku : State := ((off.setB .kws 0x40 0 true).setB .kws offStatus 0 true).setN .kws 0x50 160

theorem wit_TheGatehouseWakesLinksAndListens_16 :
    (Applies off GT Blk.kws 64 (1 : Word) ones ∧ bit (1 : Word) 0 = true ∧ State.getB off Blk.kws 64 0 = false ∧ State.clockOn
     off 61 = true ∧ kwsCheck (plainStore Blk.kws 64 (1 : Word) ones off) = none) := by
  decide +kernel

theorem wit_TheGatehouseWakesLinksAndListens_15 :
    (State.kwsUp ku = true ∧ 160 * (ku.gate.kws.hops + 1) ≤ State.kwsFrames ku ∧ kwsOutside ku = false ∧ kwsBad ku = false) :=
     by
  decide +kernel

end T18b

namespace T19

abbrev BV : Master := .belvedere
abbrev fw1 : State := live.updComp 1 (fun x => {x with state := 2})
abbrev lt (s : State) : State := {s with time := {s.time with a := 3000000}}
abbrev gw (c : Nat) (l : List Nat) : State := lt (live.updComp c (fun x =>
    {x with state := 2, kicks := freshKicks c 0, restarts := l}))
abbrev req (cmd : Nat) (arg : Nat) : List Byte := withCheck (leBytes 0xD 1 ++ leBytes cmd 1 ++ leBytes 0 2 ++ leBytes 0x1234 4
    ++ leBytes arg 7 ++ leBytes 0 48)
abbrev rings : State :=
    { fw1 with regs := [(0x4000204c, 0x8d240001), (0x40002060, 0xffffffff), (0x40002064, 0xfffffff), (0x4001700c, 0x1), (0x40017100, 0x80f00000), (0x40017108, 0x204), (0x4001710c, 0x25), (0x40017110, 0x1), (0x40017114, 0x1), (0x40017140, 0x80f00400), (0x40017148, 0x204), (0x4001714c, 0x52), (0x40017150, 0x1), (0x40017154, 0x1), (0x40017180, 0x80f00800), (0x40017188, 0x204), (0x4001718c, 0x24), (0x40017190, 0x1), (0x40017194, 0x1), (0x400171c0, 0x80f00c00), (0x400171c8, 0x204), (0x400171cc, 0x42), (0x400171d0, 0x1), (0x400171d4, 0x1), (0x40017200, 0x80f01000), (0x40017208, 0x204), (0x4001720c, 0x26), (0x40017210, 0x1), (0x40017214, 0x1), (0x40017240, 0x80f01400), (0x40017248, 0x204), (0x4001724c, 0x62), (0x40017250, 0x1), (0x40017254, 0x1), (0x4006000c, 0x1), (0x40060044, 0x800)] }
abbrev rq (p : Nat) (e : List Byte) : State := (rings.setRg (112 + 2 * p) 0x20 1).storeBytes (0x80F00000 + 0x800 * p) e
abbrev sr : SleepReq := {pair := 0, limit := 500, gone := false}
abbrev sq : State := onFw (fun f => {f with sleep := some sr}) (rq 0 (req 5 0))
abbrev st1 : State := live.updComp 1 (fun x => {x with state := 4})
abbrev st2 : State := gw 4 []
abbrev st3 : State := gw 4 [2999999000, 2999999990]
abbrev st4 : State := rq 0 (req 1 0)
abbrev st5 : State := rq 1 (List.replicate 64 7)
abbrev st6 : State := rq 1 (req 2 1)
abbrev st7 : State := rq 1 (req 2 0)
abbrev st8 : State := rq 1 (req 3 0)
abbrev st9 : State := rq 1 (req 4 0)
abbrev st10 : State := (rq 1 (req 4 0)).setN .belv 0x4C 1
abbrev st11 : State := rq 1 (req 9 0)
abbrev st12 : State := rq 2 (req 5 0)
abbrev st13 : State := rq 0 (req 5 0)
abbrev st14 : State := (rq 0 (req 5 0)).setB .venc offStatus 0 true
abbrev st15 : State := (rq 0 (req 5 0)).setN .belv 0x48 1
abbrev st16 : State := lt sq
abbrev st17 : State := onFw (fun f => {f with sleep := some sr}) (rq 1 (req 5 0))

theorem wit_FirmwareAnswersRingsAndWatchdogs_1 :
    (State.present live Blk.sens = true) := by
  decide +kernel

theorem wit_FirmwareAnswersRingsAndWatchdogs_2 :
    (Applies st1 BV Blk.fw 176 (1 : Word) ones ∧ (State.comp st1 (fld (1 : Word) 2 0)).state ≠ 2 ∧ Applies st1 BV Blk.fw 180
     (1 : Word) ones ∧ ((State.comp st1 (fld (1 : Word) 2 0)).state = 4 ∨ (State.comp st1 (fld (1 : Word) 2 0)).state = 5 ∨
     (State.comp st1 (fld (1 : Word) 2 0)).state = 6) ∧ Applies st1 BV Blk.fw 76 (1 : Word) ones ∧ hasLatch BV = true) ∧
    (Applies fw1 BV Blk.fw 176 (1 : Word) ones ∧ (State.comp fw1 (fld (1 : Word) 2 0)).state = 2 ∧ Applies fw1 BV Blk.fw 180
     (1 : Word) ones ∧ ((State.comp fw1 (fld (1 : Word) 2 0)).state = 2 ∨ (State.comp fw1 (fld (1 : Word) 2 0)).state = 3 ∨
     (State.comp fw1 (fld (1 : Word) 2 0)).state = 1 ∧ Option.isSome (State.comp fw1 (fld (1 : Word) 2 0)).started = true) ∧
     (State.comp fw1 (fld (1 : Word) 2 0)).staged = false ∧ (fld (1 : Word) 2 0 = 1 → fw1.fw.pending = false)) ∧
    (Applies live (Master.channel (3 : Fin 32)) Blk.fw 76 (1 : Word) ones ∧ hasLatch (Master.channel (3 : Fin 32)) = false) :=
     by
  refine ⟨?_, ?_, ?_⟩ <;> decide +kernel

theorem wit_FirmwareAnswersRingsAndWatchdogs_3 :
    (wdogDue live 4 0 = false) ∧
    (wdogDue st3 4 0 = true ∧ (State.comp st3 4).staged = false ∧ 2 ≤ 4 ∧ 4 ≤ 4 ∧ 2 ≤ List.length (within (State.dt st3) (600
     * oneSecond) (State.comp st3 4).restarts)) ∧
    (wdogDue st2 4 0 = true ∧ (State.comp st2 4).staged = false ∧ 2 ≤ 4 ∧ 4 ≤ 4 ∧ List.length (within (State.dt st2) (600 *
     oneSecond) (State.comp st2 4).restarts) < 2) := by
  refine ⟨?_, ?_, ?_⟩ <;> decide +kernel

theorem wit_FirmwareAnswersRingsAndWatchdogs_4a :
    (mgmtHead st5 1 = some (List.replicate 64 (7 : Byte)) ∧ entryLands st5 Master.belvedere (reqRing 1 + 1) 64 = true ∧
     headFrees st5 Master.belvedere (reqRing 1) = true ∧ checkOk (List.replicate 64 (7 : Byte)) = false) ∧
    (mgmtHead st4 0 = some (req 1 0) ∧ entryLands st4 Master.belvedere (reqRing 0 + 1) 64 = true ∧ headFrees st4
     Master.belvedere (reqRing 0) = true ∧ reqBad (req 1 0) = false ∧ eByte (req 1 0) 1 = 1) ∧
    (mgmtHead st6 1 = some (req 2 1) ∧ entryLands st6 Master.belvedere (reqRing 1 + 1) 64 = true ∧ headFrees st6
     Master.belvedere (reqRing 1) = true ∧ reqBad (req 2 1) = false ∧ eByte (req 2 1) 1 = 2 ∧ State.digestOf st6 (eByte (req 2
     1) 8) = some []) ∧
    (mgmtHead st7 1 = some (req 2 0) ∧ entryLands st7 Master.belvedere (reqRing 1 + 1) 64 = true ∧ headFrees st7
     Master.belvedere (reqRing 1) = true ∧ reqBad (req 2 0) = false ∧ eByte (req 2 0) 1 = 2 ∧ State.digestOf st7 (eByte (req 2
     0) 8) = none) ∧
    (mgmtHead st17 1 = some (req 5 0) ∧ entryLands st17 Master.belvedere (reqRing 1 + 1) 64 = true ∧ headFrees st17
     Master.belvedere (reqRing 1) = true ∧ reqBad (req 5 0) = false ∧ eByte (req 5 0) 1 = 5 ∧ 1 ≠ 2 ∧ st17.fw.sleep = some sr
     ∧ sr.pair ≠ 1) ∧
    (mgmtHead st8 1 = some (req 3 0) ∧ entryLands st8 Master.belvedere (reqRing 1 + 1) 64 = true ∧ headFrees st8
     Master.belvedere (reqRing 1) = true ∧ reqBad (req 3 0) = false ∧ eByte (req 3 0) 1 = 3) := by
  refine ⟨?_, ?_, ?_, ?_, ?_, ?_⟩ <;> decide +kernel

theorem wit_FirmwareAnswersRingsAndWatchdogs_4b :
    (mgmtHead st16 0 = some (req 5 0) ∧ entryLands st16 Master.belvedere (reqRing 0 + 1) 64 = true ∧ headFrees st16
     Master.belvedere (reqRing 0) = true ∧ reqBad (req 5 0) = false ∧ eByte (req 5 0) 1 = 5 ∧ 0 ≠ 2 ∧ st16.fw.sleep = some sr
     ∧ sr.pair = 0 ∧ sr.gone = false ∧ State.quiet st16 = false ∧ sr.limit ≤ State.dt st16) ∧
    (mgmtHead st15 0 = some (req 5 0) ∧ entryLands st15 Master.belvedere (reqRing 0 + 1) 64 = true ∧ headFrees st15
     Master.belvedere (reqRing 0) = true ∧ reqBad (req 5 0) = false ∧ eByte (req 5 0) 1 = 5 ∧ 0 ≠ 2 ∧ st15.fw.sleep = none ∧
     State.updState st15 ≠ 0) ∧
    (mgmtHead sq 0 = some (req 5 0) ∧ entryLands sq Master.belvedere (reqRing 0 + 1) 64 = true ∧ headFrees sq Master.belvedere
     (reqRing 0) = true ∧ reqBad (req 5 0) = false ∧ eByte (req 5 0) 1 = 5 ∧ 0 ≠ 2 ∧ sq.fw.sleep = some sr ∧ sr.pair = 0 ∧
     sr.gone = false ∧ State.quiet sq = false ∧ State.dt sq < sr.limit) ∧
    (mgmtHead st9 1 = some (req 4 0) ∧ entryLands st9 Master.belvedere (reqRing 1 + 1) 64 = true ∧ headFrees st9
     Master.belvedere (reqRing 1) = true ∧ reqBad (req 4 0) = false ∧ eByte (req 4 0) 1 = 4 ∧ State.logHas st9 (eNum (req 4 0)
     8 4) = false) ∧
    (mgmtHead st10 1 = some (req 4 0) ∧ entryLands st10 Master.belvedere (reqRing 1 + 1) 64 = true ∧ headFrees st10
     Master.belvedere (reqRing 1) = true ∧ reqBad (req 4 0) = false ∧ eByte (req 4 0) 1 = 4 ∧ State.logHas st10 (eNum (req 4
     0) 8 4) = true) := by
  refine ⟨?_, ?_, ?_, ?_, ?_⟩ <;> decide +kernel

theorem wit_FirmwareAnswersRingsAndWatchdogs_4c :
    (mgmtHead st11 1 = some (req 9 0) ∧ entryLands st11 Master.belvedere (reqRing 1 + 1) 64 = true ∧ headFrees st11
     Master.belvedere (reqRing 1) = true ∧ reqBad (req 9 0) = false ∧ (eByte (req 9 0) 1 = 0 ∨ 6 ≤ eByte (req 9 0) 1)) ∧
    (mgmtHead st12 2 = some (req 5 0) ∧ entryLands st12 Master.belvedere (reqRing 2 + 1) 64 = true ∧ headFrees st12
     Master.belvedere (reqRing 2) = true ∧ reqBad (req 5 0) = false ∧ eByte (req 5 0) 1 = 5 ∧ 2 = 2) ∧
    (mgmtHead st13 0 = some (req 5 0) ∧ entryLands st13 Master.belvedere (reqRing 0 + 1) 64 = true ∧ headFrees st13
     Master.belvedere (reqRing 0) = true ∧ reqBad (req 5 0) = false ∧ eByte (req 5 0) 1 = 5 ∧ 0 ≠ 2 ∧ st13.fw.sleep = none ∧
     State.updState st13 = 0 ∧ blocksOn st13 = 0) ∧
    (mgmtHead st14 0 = some (req 5 0) ∧ entryLands st14 Master.belvedere (reqRing 0 + 1) 64 = true ∧ headFrees st14
     Master.belvedere (reqRing 0) = true ∧ reqBad (req 5 0) = false ∧ eByte (req 5 0) 1 = 5 ∧ 0 ≠ 2 ∧ st14.fw.sleep = none ∧
     State.updState st14 = 0 ∧ blocksOn st14 ≠ 0) := by
  refine ⟨?_, ?_, ?_, ?_⟩ <;> decide +kernel

end T19

namespace T19b

abbrev fw1 : State := live.updComp 1 (fun x => {x with state := 2})
abbrev M (b : List Byte) : Mctp := {src := 9, body := b}
abbrev lt (s : State) : State := {s with time := {s.time with a := 4000000}}
abbrev m11 : Mctp := M [0,4,0,0,1,0,1,2,3,4,5]
abbrev u (n : Nat) (x : UpdSt) : State := onFw (fun f => {f with upd := x}) (fw1.setN .belv 0x48 n)
abbrev ux : UpdSt := {UpdSt.init with who := 9, xfer := 4, size := 20, got := 0}
abbrev rp : State := onFw (fun f => {f with report := some (0, 0, 1)}) ((fw1.setN .belv 0x4C 1).setN .belv 0x44 0x0905)
abbrev st1 : State := u 3 ux
abbrev st2 : State := onFw (fun f => {f with sleep := some {pair := 0, limit := 3, gone := false}}) fw1
abbrev st3 : State := u 1 ux
abbrev st4 : State := u 2 ux
abbrev st5 : State := u 2 {ux with done := [2]}
abbrev st6 : State := lt (u 3 ux)
abbrev st7 : State := lt (rp.storeBytes 0x80400000 (List.replicate 32 5))
abbrev st8 : State := (rp.storeBytes 0x80400000 (List.replicate 32 5))
abbrev st9 : State := rp.updComp 4 (fun x => {x with state := 2})

theorem wit_TheManagementNetworkAnswers_1 :
    (State.mctpUp fw1 = true ∧ State.fwRuns fw1 1 = true ∧ List.length (M [(0 : Byte), (5 : Byte)]).body = 2 ∧ at' (M [(0 :
     Byte), (5 : Byte)]).body 0 1 % 4 ≤ 1 ∧ at' (M [(0 : Byte), (5 : Byte)]).body 1 1 ≠ 0 ∧ at' (M [(0 : Byte), (5 :
     Byte)]).body 1 1 ≠ 255) := by
  decide +kernel

theorem wit_TheManagementNetworkAnswers_2 :
    (State.mctpUp fw1 = true ∧ State.fwRuns fw1 1 = true) := by
  decide +kernel

theorem wit_TheManagementNetworkAnswers_3 :
    (State.mctpUp fw1 = true ∧ State.fwRuns fw1 1 = true) := by
  decide +kernel

theorem wit_TheManagementNetworkAnswers_4 :
    (State.mctpUp fw1 = true ∧ State.fwRuns fw1 1 = true ∧ 255 ∈ [255, 0, 1, 127] ∧ List.length (M [(255 : Byte)]).body = 1 ∧
     at' (M [(255 : Byte)]).body 0 1 = 255) := by
  decide +kernel

theorem wit_TheManagementNetworkAnswers_5 :
    (State.mctpUp fw1 = true ∧ State.fwRuns fw1 1 = true) := by
  decide +kernel

theorem wit_TheManagementNetworkAnswers_6 :
    (State.mctpUp fw1 = true ∧ State.fwRuns fw1 1 = true ∧ List.length (M [(0 : Byte)]).body = 1 ∧ at' (M [(0 : Byte)]).body 0
     1 = 0) := by
  decide +kernel

theorem wit_TheManagementNetworkAnswers_7 :
    (State.mctpUp fw1 = true ∧ State.fwRuns fw1 1 = true ∧ (State.updState fw1 = 0 ∨ fw1.fw.upd.who ≠ (M [(1 : Byte), (0 :
     Byte), (7 : Byte)]).src) ∧ 3 ≤ List.length (M [(1 : Byte), (0 : Byte), (7 : Byte)]).body ∧ at' (M [(1 : Byte), (0 :
     Byte), (7 : Byte)]).body 0 1 ≤ 1 ∧ at' (M [(1 : Byte), (0 : Byte), (7 : Byte)]).body 1 1 = 0 ∧ List.length (M [(1 :
     Byte), (0 : Byte), (7 : Byte)]).body = 3 ∧ 1 ≤ at' (M [(1 : Byte), (0 : Byte), (7 : Byte)]).body 0 2 ∧ at' (M [(1 :
     Byte), (0 : Byte), (7 : Byte)]).body 0 2 ≤ 28) ∧
    (State.mctpUp fw1 = true ∧ State.fwRuns fw1 1 = true ∧ (State.updState fw1 = 0 ∨ fw1.fw.upd.who ≠ (M [(0 : Byte), (0 :
     Byte), (0 : Byte), (0 : Byte), (0 : Byte), (2 : Byte)]).src) ∧ List.length (M [(0 : Byte), (0 : Byte), (0 : Byte), (0 :
     Byte), (0 : Byte), (2 : Byte)]).body = 6 ∧ at' (M [(0 : Byte), (0 : Byte), (0 : Byte), (0 : Byte), (0 : Byte), (2 :
     Byte)]).body 5 1 ∈ pldmTypes) ∧
    (State.mctpUp fw1 = true ∧ State.fwRuns fw1 1 = true ∧ (State.updState fw1 = 0 ∨ fw1.fw.upd.who ≠ (M [(1 : Byte)]).src) ∧
     List.length (M [(1 : Byte)]).body = 1 ∧ at' (M [(1 : Byte)]).body 0 1 ≠ 0 ∧ at' (M [(1 : Byte)]).body 0 1 ≠ 255) ∧
    (State.mctpUp fw1 = true ∧ State.fwRuns fw1 1 = true ∧ (State.updState fw1 = 0 ∨ fw1.fw.upd.who ≠ (M [(0 : Byte), (0 :
     Byte), (0 : Byte), (0 : Byte), (1 : Byte), (2 : Byte), (3 : Byte), (4 : Byte), (5 : Byte), (6 : Byte), (7 : Byte), (8 :
     Byte), (9 : Byte)]).src) ∧ List.length (M [(0 : Byte), (0 : Byte), (0 : Byte), (0 : Byte), (1 : Byte), (2 : Byte), (3 :
     Byte), (4 : Byte), (5 : Byte), (6 : Byte), (7 : Byte), (8 : Byte), (9 : Byte)]).body = 13 ∧ at' (M [(0 : Byte), (0 :
     Byte), (0 : Byte), (0 : Byte), (1 : Byte), (2 : Byte), (3 : Byte), (4 : Byte), (5 : Byte), (6 : Byte), (7 : Byte), (8 :
     Byte), (9 : Byte)]).body 0 4 ≤ 28) ∧
    (State.mctpUp fw1 = true ∧ State.fwRuns fw1 1 = true ∧ (State.updState fw1 = 0 ∨ fw1.fw.upd.who ≠ (M [(1 : Byte), (0 :
     Byte), (1 : Byte), (2 : Byte)]).src) ∧ List.length (M [(1 : Byte), (0 : Byte), (1 : Byte), (2 : Byte)]).body = 4 ∧ 1 ≤
     at' (M [(1 : Byte), (0 : Byte), (1 : Byte), (2 : Byte)]).body 0 2 ∧ at' (M [(1 : Byte), (0 : Byte), (1 : Byte), (2 :
     Byte)]).body 0 2 ≤ 12 ∧ at' (M [(1 : Byte), (0 : Byte), (1 : Byte), (2 : Byte)]).body 2 1 ≤ 1 ∧ at' (M [(1 : Byte), (0 :
     Byte), (1 : Byte), (2 : Byte)]).body 3 1 ≤ 2) := by
  refine ⟨?_, ?_, ?_, ?_, ?_⟩ <;> decide +kernel

theorem wit_TheManagementNetworkAnswers_8 :
    (State.mctpUp fw1 = true ∧ State.fwRuns fw1 1 = true ∧ State.updState fw1 = 0 ∧ 11 ≤ List.length m11.body ∧ fw1.fw.sleep =
     none ∧ 32 ≤ at' m11.body 0 4) := by
  decide +kernel

theorem wit_TheManagementNetworkAnswers_9 :
    (State.mctpUp st1 = true ∧ State.fwRuns st1 1 = true ∧ State.updState st1 ≠ 0 ∧ 11 ≤ List.length m11.body) := by
  decide +kernel

theorem wit_TheManagementNetworkAnswers_10 :
    (State.mctpUp st2 = true ∧ State.fwRuns st2 1 = true ∧ State.updState st2 = 0 ∧ 11 ≤ List.length m11.body ∧ Option.isSome
     st2.fw.sleep = true) := by
  decide +kernel

theorem wit_TheManagementNetworkAnswers_11 :
    (State.mctpUp st3 = true ∧ State.fwRuns st3 1 = true ∧ State.updState st3 = 1 ∧ 12 ≤ List.length (M [(5 : Byte), (0 :
     Byte), (0 : Byte), (2 : Byte), (0 : Byte), (0 : Byte), (0 : Byte), (0 : Byte), (0 : Byte), (0 : Byte), (0 : Byte), (0 :
     Byte)]).body ∧ 1 ≤ at' (M [(5 : Byte), (0 : Byte), (0 : Byte), (2 : Byte), (0 : Byte), (0 : Byte), (0 : Byte), (0 :
     Byte), (0 : Byte), (0 : Byte), (0 : Byte), (0 : Byte)]).body 3 2 ∧ at' (M [(5 : Byte), (0 : Byte), (0 : Byte), (2 :
     Byte), (0 : Byte), (0 : Byte), (0 : Byte), (0 : Byte), (0 : Byte), (0 : Byte), (0 : Byte), (0 : Byte)]).body 3 2 ≤ 5) := by
  decide +kernel

theorem wit_TheManagementNetworkAnswers_12 :
    (State.mctpUp st4 = true ∧ State.fwRuns st4 1 = true ∧ State.updState st4 = 2 ∧ 19 ≤ List.length (M [(0 : Byte), (0 :
     Byte), (2 : Byte), (0 : Byte), (0 : Byte), (0 : Byte), (0 : Byte), (0 : Byte), (0 : Byte), (100 : Byte), (0 : Byte), (0 :
     Byte), (0 : Byte), (0 : Byte), (0 : Byte), (0 : Byte), (0 : Byte), (0 : Byte), (0 : Byte)]).body ∧ 1 ≤ at' (M [(0 :
     Byte), (0 : Byte), (2 : Byte), (0 : Byte), (0 : Byte), (0 : Byte), (0 : Byte), (0 : Byte), (0 : Byte), (100 : Byte), (0 :
     Byte), (0 : Byte), (0 : Byte), (0 : Byte), (0 : Byte), (0 : Byte), (0 : Byte), (0 : Byte), (0 : Byte)]).body 2 2 ∧ at' (M
     [(0 : Byte), (0 : Byte), (2 : Byte), (0 : Byte), (0 : Byte), (0 : Byte), (0 : Byte), (0 : Byte), (0 : Byte), (100 :
     Byte), (0 : Byte), (0 : Byte), (0 : Byte), (0 : Byte), (0 : Byte), (0 : Byte), (0 : Byte), (0 : Byte), (0 : Byte)]).body
     2 2 ≤ 5 ∧ 1 ≤ at' (M [(0 : Byte), (0 : Byte), (2 : Byte), (0 : Byte), (0 : Byte), (0 : Byte), (0 : Byte), (0 : Byte), (0
     : Byte), (100 : Byte), (0 : Byte), (0 : Byte), (0 : Byte), (0 : Byte), (0 : Byte), (0 : Byte), (0 : Byte), (0 : Byte), (0
     : Byte)]).body 9 4 ∧ at' (M [(0 : Byte), (0 : Byte), (2 : Byte), (0 : Byte), (0 : Byte), (0 : Byte), (0 : Byte), (0 :
     Byte), (0 : Byte), (100 : Byte), (0 : Byte), (0 : Byte), (0 : Byte), (0 : Byte), (0 : Byte), (0 : Byte), (0 : Byte), (0 :
     Byte), (0 : Byte)]).body 9 4 ≤ 524288) := by
  decide +kernel

theorem wit_TheManagementNetworkAnswers_13 :
    (State.mctpUp st1 = true ∧ State.fwRuns st1 1 = true ∧ State.updState st1 = 3 ∧ (M [(0 : Byte), (1 : Byte), (2 : Byte), (3
     : Byte), (4 : Byte)]).src = st1.fw.upd.who ∧ at' (M [(0 : Byte), (1 : Byte), (2 : Byte), (3 : Byte), (4 : Byte)]).body 0
     1 = 0 ∧ 1 ≤ List.length (M [(0 : Byte), (1 : Byte), (2 : Byte), (3 : Byte), (4 : Byte)]).body ∧ List.length (List.drop 1
     (M [(0 : Byte), (1 : Byte), (2 : Byte), (3 : Byte), (4 : Byte)]).body) = min st1.fw.upd.xfer (st1.fw.upd.size -
     st1.fw.upd.got) ∧ st1.fw.upd.got + List.length (List.drop 1 (M [(0 : Byte), (1 : Byte), (2 : Byte), (3 : Byte), (4 :
     Byte)]).body) ≠ st1.fw.upd.size) := by
  decide +kernel

theorem wit_TheManagementNetworkAnswers_14 :
    (State.mctpUp st5 = true ∧ State.fwRuns st5 1 = true ∧ State.updState st5 = 2 ∧ List.length (M [(0 : Byte)]).body = 1 ∧
     st5.fw.upd.done ≠ [] ∧ at' (M [(0 : Byte)]).body 0 1 ≠ 1) ∧
    (State.mctpUp st5 = true ∧ State.fwRuns st5 1 = true ∧ State.updState st5 = 2 ∧ List.length (M [(1 : Byte)]).body = 1 ∧
     st5.fw.upd.done ≠ [] ∧ at' (M [(1 : Byte)]).body 0 1 = 1 ∧ List.all st5.fw.upd.done (digestHolds st5) = false) := by
  refine ⟨?_, ?_⟩ <;> decide +kernel

theorem wit_TheManagementNetworkAnswers_15 :
    (State.mctpUp st1 = true ∧ State.fwRuns st1 1 = true ∧ (State.updState st1 = 3 ∨ State.updState st1 = 4 ∨ State.updState
     st1 = 5)) := by
  decide +kernel

theorem wit_TheManagementNetworkAnswers_16 :
    (State.mctpUp st1 = true ∧ State.fwRuns st1 1 = true ∧ 1 ≤ State.updState st1 ∧ State.updState st1 ≤ 6) := by
  decide +kernel

theorem wit_TheManagementNetworkAnswers_17 :
    (State.mctpUp st6 = true ∧ State.fwRuns st6 1 = true ∧ State.present st6 Blk.belv = true ∧ State.updState st6 ≠ 0 ∧
     st6.fw.upd.dt + updateLimit ≤ State.dt st6) ∧
    (State.mctpUp st1 = true ∧ State.fwRuns st1 1 = true ∧ State.present st1 Blk.belv = true ∧ State.updState st1 ≠ 0 ∧
     State.dt st1 < st1.fw.upd.dt + updateLimit) := by
  refine ⟨?_, ?_⟩ <;> decide +kernel

theorem wit_TheManagementNetworkAnswers_18 :
    (State.mctpUp rp = true ∧ State.fwRuns rp 1 = true ∧ rp.fw.report = some (0, 0, 1) ∧ State.dt rp < 0 + oneSecond ∧ (M [(1
     : Byte), (0 : Byte), (0 : Byte), (0 : Byte)]).src = State.reportDst rp ∧ (at' (M [(1 : Byte), (0 : Byte), (0 : Byte), (0
     : Byte)]).body 0 4 + 2 ^ 32 - 0) % 2 ^ 32 ≤ 1 ∧ State.logNext rp = at' (M [(1 : Byte), (0 : Byte), (0 : Byte), (0 :
     Byte)]).body 0 4) ∧
    (State.mctpUp st7 = true ∧ State.fwRuns st7 1 = true ∧ st7.fw.report = some (0, 0, 1) ∧ 0 + oneSecond ≤ State.dt st7) := by
  refine ⟨?_, ?_⟩ <;> decide +kernel

theorem wit_TheManagementNetworkAnswers_19 :
    (State.mctpUp rp = true ∧ State.fwRuns rp 1 = true ∧ List.length (M [(7 : Byte), (0 : Byte), (0 : Byte), (0 : Byte), (1 :
     Byte)]).body = 5 ∧ at' (M [(7 : Byte), (0 : Byte), (0 : Byte), (0 : Byte), (1 : Byte)]).body 4 1 = 1 ∧ State.logHas rp
     (at' (M [(7 : Byte), (0 : Byte), (0 : Byte), (0 : Byte), (1 : Byte)]).body 0 4) = false) ∧
    (State.mctpUp st8 = true ∧ State.fwRuns st8 1 = true ∧ List.length (M [(0 : Byte), (0 : Byte), (0 : Byte), (0 : Byte), (1
     : Byte)]).body = 5 ∧ at' (M [(0 : Byte), (0 : Byte), (0 : Byte), (0 : Byte), (1 : Byte)]).body 4 1 = 1 ∧ State.logHas st8
     (at' (M [(0 : Byte), (0 : Byte), (0 : Byte), (0 : Byte), (1 : Byte)]).body 0 4) = true) := by
  refine ⟨?_, ?_⟩ <;> decide +kernel

theorem wit_TheManagementNetworkAnswers_20 :
    (State.mctpUp rp = true ∧ State.fwRuns rp 1 = true ∧ List.length (M []).body = 0) := by
  decide +kernel

theorem wit_TheManagementNetworkAnswers_21 :
    (State.mctpUp st9 = true ∧ State.fwRuns st9 1 = true ∧ List.length (M [(4 : Byte)]).body = 1 ∧ at' (M [(4 : Byte)]).body 0
     1 = 4 ∧ (State.comp st9 4).state = 2 ∧ (State.comp st9 4).staged = false ∧ State.digestOf st9 (at' (M [(4 : Byte)]).body
     0 1) = some []) := by
  decide +kernel

theorem wit_TheManagementNetworkAnswers_22 :
    (State.mctpUp rp = true ∧ State.fwRuns rp 1 = true ∧ List.length (M [(1 : Byte), (0 : Byte), (0 : Byte), (0 : Byte)]).body
     = 4 ∧ at' (M [(1 : Byte), (0 : Byte), (0 : Byte), (0 : Byte)]).body 0 4 ≤ 3) := by
  decide +kernel

theorem wit_TheManagementNetworkAnswers_23 :
    (State.mctpUp rp = true ∧ State.fwRuns rp 1 = true) := by
  decide +kernel

theorem wit_TheManagementNetworkAnswers_24 :
    (State.mctpUp rp = true ∧ State.fwRuns rp 1 = true) := by
  decide +kernel

/-- Four bytes of a number behind another byte read as that number. -/
theorem at'_leBytes (v : BitVec 32) (b : Byte) : at' (b :: leBytes v.toNat 4) 1 4 = v.toNat := by
  have h := v.isLt
  simp [at', leBytes, leNat, byteOf, List.range, List.range.loop]
  omega

theorem wit_TheManagementNetworkAnswers_7commands :
    let b : List Byte := 0 :: leBytes (Config.pldmVersion 0).toNat 4
    b.length = 5 ∧ at' b 0 1 ∈ pldmTypes ∧ at' b 1 4 = (Config.pldmVersion (at' b 0 1)).toNat :=
  ⟨rfl, by decide, at'_leBytes _ 0⟩

end T19b

namespace T20

abbrev BV : Master := .belvedere
abbrev r1 : ErrRec :=
    {dt := 5, unit := 0x2102, code := 0x731, op := 7, temp := 1, volt := 2, cls := 2, rpt := 0, detail := [1,2,3,0,0,0,0,0,0,0]}
abbrev r0 : ErrRec := {r1 with cls := 0, code := 0x730}
abbrev rp : ErrRec := {r1 with cls := 1}
abbrev qs (l : List ErrRec) (s : State) : State := onCheck (fun k => {k with queue := l}) s
abbrev rs (r : ErrRec) (s : State) : State := onCheck (fun k => {k with raised := [(0, r)]}) s
abbrev ms (s : State) : State := onCheck (fun k => {k with mirror := [r1, r0]}) s
abbrev q104 (head tail : Nat) (s : State) : State := [(0, 0x80001000), (0x08, 0x10001), (0x14, 1), (0x1C, head), (0x20,
    tail)].foldl (fun t p => t.setN (rgBlk 104) (rgOff 104 p.1) p.2) (s.setB .fw 0x48 1 true)
abbrev sg (b : List Byte) (s : State) : State := onCheck (fun k =>
    {k with staged := (List.range 8).foldl (fun m w => m.put (8 * BV.code + w) (wd (at' b (4*w) 4))) k.staged}) s
abbrev DS : Master := .dispatch
abbrev sgd (b : List Byte) (s : State) : State := onCheck (fun k =>
    {k with staged := (List.range 8).foldl (fun m w => m.put (8 * DS.code + w) (wd (at' b (4*w) 4))) k.staged}) s
abbrev st1 : State := rs rp live
abbrev st2 : State := rs r0 (qs (List.replicate 56 r1) live)
abbrev st3 : State := rs r1 (qs [r0, r1, rp] live)
abbrev st4 : State := ms live
abbrev st5 : State := q104 3 0 (ms live)
abbrev st6 : State := q104 0 2 (ms live)
abbrev st7 : State := qs [r1, r0] live
abbrev st8 : State := qs [r1, r0] {live with belvSec := true}
abbrev st9 : State := sg r1.bytes live
abbrev st10 : State := qs [r0,r1] (sg r1.bytes live)
abbrev st11 : State := qs (List.replicate 64 rp) (sg r1.bytes live)
abbrev st12 : State := (sg {r1 with cls := 5}.bytes live)
abbrev va13 : ErrRec := {r1 with cls := 5}
abbrev st14 : State := (sgd {r1 with unit := 0x2000}.bytes live)
abbrev va15 : ErrRec := {r1 with unit := 0x2000}
abbrev st16 : State := onCheck (fun k =>
    {k with armed := some {kind := 1, target := 1, nocount := false, count := 0, addr := 0}}) live

theorem wit_ErrorRecordsEnterLeaveAndMirror_1 :
    (live.check.raised = []) := by
  decide +kernel

theorem wit_ErrorRecordsEnterLeaveAndMirror_2 :
    (st1.check.raised = [(0, rp)] ∧ (∀ (y : ErrRec), y ∈ st1.check.queue → ¬(fun (x : ErrRec) => x.unit =
     { dt := rp.dt, unit := rp.unit, code := rp.code, op := rp.op, temp := rp.temp, volt := rp.volt, cls := rp.cls % 128 + if State.untested st1 = true then 128 else 0, rpt := rp.rpt, detail := rp.detail : ErrRec }.unit
     ∧ x.code =
     { dt := rp.dt, unit := rp.unit, code := rp.code, op := rp.op, temp := rp.temp, volt := rp.volt, cls := rp.cls % 128 + if State.untested st1 = true then 128 else 0, rpt := rp.rpt, detail := rp.detail : ErrRec }.code
     ∧ x.op =
     { dt := rp.dt, unit := rp.unit, code := rp.code, op := rp.op, temp := rp.temp, volt := rp.volt, cls := rp.cls % 128 + if State.untested st1 = true then 128 else 0, rpt := rp.rpt, detail := rp.detail : ErrRec }.op
     ∧ x.cls =
     { dt := rp.dt, unit := rp.unit, code := rp.code, op := rp.op, temp := rp.temp, volt := rp.volt, cls := rp.cls % 128 + if State.untested st1 = true then 128 else 0, rpt := rp.rpt, detail := rp.detail : ErrRec }.cls)
     y) ∧ (List.length st1.check.queue < 56 ∨ List.length st1.check.queue < 64 ∧
     ({ dt := rp.dt, unit := rp.unit, code := rp.code, op := rp.op, temp := rp.temp, volt := rp.volt, cls := rp.cls % 128 + if State.untested st1 = true then 128 else 0, rpt := rp.rpt, detail := rp.detail : ErrRec }.cls
     % 8 = 1 ∨
     { dt := rp.dt, unit := rp.unit, code := rp.code, op := rp.op, temp := rp.temp, volt := rp.volt, cls := rp.cls % 128 + if State.untested st1 = true then 128 else 0, rpt := rp.rpt, detail := rp.detail : ErrRec }.cls
     % 8 = 2))) ∧
    (st3.check.raised = [(0, r1)] ∧ st3.check.queue = [r0] ++ [r1, rp] ∧ (∀ (y : ErrRec), y ∈ [r0] → ¬(fun (x : ErrRec) =>
     x.unit =
     { dt := r1.dt, unit := r1.unit, code := r1.code, op := r1.op, temp := r1.temp, volt := r1.volt, cls := r1.cls % 128 + if State.untested st3 = true then 128 else 0, rpt := r1.rpt, detail := r1.detail : ErrRec }.unit
     ∧ x.code =
     { dt := r1.dt, unit := r1.unit, code := r1.code, op := r1.op, temp := r1.temp, volt := r1.volt, cls := r1.cls % 128 + if State.untested st3 = true then 128 else 0, rpt := r1.rpt, detail := r1.detail : ErrRec }.code
     ∧ x.op =
     { dt := r1.dt, unit := r1.unit, code := r1.code, op := r1.op, temp := r1.temp, volt := r1.volt, cls := r1.cls % 128 + if State.untested st3 = true then 128 else 0, rpt := r1.rpt, detail := r1.detail : ErrRec }.op
     ∧ x.cls =
     { dt := r1.dt, unit := r1.unit, code := r1.code, op := r1.op, temp := r1.temp, volt := r1.volt, cls := r1.cls % 128 + if State.untested st3 = true then 128 else 0, rpt := r1.rpt, detail := r1.detail : ErrRec }.cls)
     y) ∧ ((fun (x : ErrRec) => x.unit =
     { dt := r1.dt, unit := r1.unit, code := r1.code, op := r1.op, temp := r1.temp, volt := r1.volt, cls := r1.cls % 128 + if State.untested st3 = true then 128 else 0, rpt := r1.rpt, detail := r1.detail : ErrRec }.unit
     ∧ x.code =
     { dt := r1.dt, unit := r1.unit, code := r1.code, op := r1.op, temp := r1.temp, volt := r1.volt, cls := r1.cls % 128 + if State.untested st3 = true then 128 else 0, rpt := r1.rpt, detail := r1.detail : ErrRec }.code
     ∧ x.op =
     { dt := r1.dt, unit := r1.unit, code := r1.code, op := r1.op, temp := r1.temp, volt := r1.volt, cls := r1.cls % 128 + if State.untested st3 = true then 128 else 0, rpt := r1.rpt, detail := r1.detail : ErrRec }.op
     ∧ x.cls =
     { dt := r1.dt, unit := r1.unit, code := r1.code, op := r1.op, temp := r1.temp, volt := r1.volt, cls := r1.cls % 128 + if State.untested st3 = true then 128 else 0, rpt := r1.rpt, detail := r1.detail : ErrRec }.cls)
     r1)) ∧
    (st2.check.raised = [(0, r0)] ∧ (∀ (y : ErrRec), y ∈ st2.check.queue → ¬(fun (x : ErrRec) => x.unit =
     { dt := r0.dt, unit := r0.unit, code := r0.code, op := r0.op, temp := r0.temp, volt := r0.volt, cls := r0.cls % 128 + if State.untested st2 = true then 128 else 0, rpt := r0.rpt, detail := r0.detail : ErrRec }.unit
     ∧ x.code =
     { dt := r0.dt, unit := r0.unit, code := r0.code, op := r0.op, temp := r0.temp, volt := r0.volt, cls := r0.cls % 128 + if State.untested st2 = true then 128 else 0, rpt := r0.rpt, detail := r0.detail : ErrRec }.code
     ∧ x.op =
     { dt := r0.dt, unit := r0.unit, code := r0.code, op := r0.op, temp := r0.temp, volt := r0.volt, cls := r0.cls % 128 + if State.untested st2 = true then 128 else 0, rpt := r0.rpt, detail := r0.detail : ErrRec }.op
     ∧ x.cls =
     { dt := r0.dt, unit := r0.unit, code := r0.code, op := r0.op, temp := r0.temp, volt := r0.volt, cls := r0.cls % 128 + if State.untested st2 = true then 128 else 0, rpt := r0.rpt, detail := r0.detail : ErrRec }.cls)
     y) ∧ (¬(List.length st2.check.queue < 56 ∨ List.length st2.check.queue < 64 ∧
     ({ dt := r0.dt, unit := r0.unit, code := r0.code, op := r0.op, temp := r0.temp, volt := r0.volt, cls := r0.cls % 128 + if State.untested st2 = true then 128 else 0, rpt := r0.rpt, detail := r0.detail : ErrRec }.cls
     % 8 = 1 ∨
     { dt := r0.dt, unit := r0.unit, code := r0.code, op := r0.op, temp := r0.temp, volt := r0.volt, cls := r0.cls % 128 + if State.untested st2 = true then 128 else 0, rpt := r0.rpt, detail := r0.detail : ErrRec }.cls
     % 8 = 2)))) := by
  refine ⟨?_, ?_, ?_⟩ <;> decide +kernel

theorem wit_ErrorRecordsEnterLeaveAndMirror_3 :
    (live.check.mirror = []) := by
  decide +kernel

theorem wit_ErrorRecordsEnterLeaveAndMirror_4 :
    (st4.check.mirror = [r1, r0] ∧ State.mirrors st4 = false) ∧
    (st6.check.mirror = [r1, r0] ∧ State.mirrors st6 = true ∧ State.rgFull st6 104 = true) ∧
    (st5.check.mirror = [r1, r0] ∧ State.mirrors st5 = true ∧ State.rgFull st5 104 = false ∧ (inDramWindow (State.rgSlot st5
     104 (State.rgTail st5 104)) 1 = true → State.enabled st5 Blk.ddrc = true)) := by
  refine ⟨?_, ?_, ?_⟩ <;> decide +kernel

theorem wit_ErrorRecordsEnterLeaveAndMirror_5 :
    (Applies live BV Blk.err 76 (1 : Word) (4294967295 : Word) ∧ bit (1 : Word) 0 = true ∧ live.check.queue = []) ∧
    (Applies st8 BV Blk.err 76 (1 : Word) (4294967295 : Word) ∧ bit (1 : Word) 0 = true ∧ st8.check.queue = [r1, r0] ∧ (BV ≠
     Master.belvedere ∨ st8.belvSec = true)) ∧
    (Applies st7 BV Blk.err 76 (1 : Word) (4294967295 : Word) ∧ bit (1 : Word) 0 = true ∧ st7.check.queue = [r1, r0] ∧ BV =
     Master.belvedere ∧ st7.belvSec = false ∧ State.enabled st7 Blk.ddrc = true ∧ State.logOpen st7 < 4096 ∧ r1.cls % 8 ≠ 1)
     := by
  refine ⟨?_, ?_, ?_⟩ <;> decide +kernel

theorem wit_ErrorRecordsEnterLeaveAndMirror_6 :
    (Applies st9 BV Blk.err 144 (1 : Word) (4294967295 : Word) ∧ bit (1 : Word) 0 = true ∧ recOfBytes (State.stagedBytes st9
     (Master.code BV)) = r1 ∧ r1.cls % 8 < 5 ∧ raiseMay (Master.dom st9 BV) r1.unit = true ∧ (∀ (y : ErrRec), y ∈
     st9.check.queue → ¬(fun (x : ErrRec) => x.unit =
     { dt := r1.dt, unit := r1.unit, code := r1.code, op := r1.op, temp := r1.temp, volt := r1.volt, cls := r1.cls % 128 + if State.untested st9 = true then 128 else 0, rpt := r1.rpt, detail := r1.detail : ErrRec }.unit
     ∧ x.code =
     { dt := r1.dt, unit := r1.unit, code := r1.code, op := r1.op, temp := r1.temp, volt := r1.volt, cls := r1.cls % 128 + if State.untested st9 = true then 128 else 0, rpt := r1.rpt, detail := r1.detail : ErrRec }.code
     ∧ x.op =
     { dt := r1.dt, unit := r1.unit, code := r1.code, op := r1.op, temp := r1.temp, volt := r1.volt, cls := r1.cls % 128 + if State.untested st9 = true then 128 else 0, rpt := r1.rpt, detail := r1.detail : ErrRec }.op
     ∧ x.cls =
     { dt := r1.dt, unit := r1.unit, code := r1.code, op := r1.op, temp := r1.temp, volt := r1.volt, cls := r1.cls % 128 + if State.untested st9 = true then 128 else 0, rpt := r1.rpt, detail := r1.detail : ErrRec }.cls)
     y) ∧ (List.length st9.check.queue < 56 ∨ List.length st9.check.queue < 64 ∧
     ({ dt := r1.dt, unit := r1.unit, code := r1.code, op := r1.op, temp := r1.temp, volt := r1.volt, cls := r1.cls % 128 + if State.untested st9 = true then 128 else 0, rpt := r1.rpt, detail := r1.detail : ErrRec }.cls
     % 8 = 1 ∨
     { dt := r1.dt, unit := r1.unit, code := r1.code, op := r1.op, temp := r1.temp, volt := r1.volt, cls := r1.cls % 128 + if State.untested st9 = true then 128 else 0, rpt := r1.rpt, detail := r1.detail : ErrRec }.cls
     % 8 = 2))) ∧
    (Applies st12 BV Blk.err 144 (1 : Word) (4294967295 : Word) ∧ bit (1 : Word) 0 = true ∧ recOfBytes (State.stagedBytes st12
     (Master.code BV)) = va13 ∧ 5 ≤ va13.cls % 8 ∧ BV ≠ Master.xspi) ∧
    (Applies st14 DS Blk.err 144 (1 : Word) (4294967295 : Word) ∧ bit (1 : Word) 0 = true ∧ recOfBytes (State.stagedBytes st14
     (Master.code DS)) = va15 ∧ va15.cls % 8 < 5 ∧ raiseMay (Master.dom st14 DS) va15.unit = false) ∧
    (Applies st10 BV Blk.err 144 (1 : Word) (4294967295 : Word) ∧ bit (1 : Word) 0 = true ∧ recOfBytes (State.stagedBytes st10
     (Master.code BV)) = r1 ∧ r1.cls % 8 < 5 ∧ raiseMay (Master.dom st10 BV) r1.unit = true ∧ st10.check.queue = [r0] ++ [r1]
     ∧ (∀ (y : ErrRec), y ∈ [r0] → ¬(fun (x : ErrRec) => x.unit =
     { dt := r1.dt, unit := r1.unit, code := r1.code, op := r1.op, temp := r1.temp, volt := r1.volt, cls := r1.cls % 128 + if State.untested st10 = true then 128 else 0, rpt := r1.rpt, detail := r1.detail : ErrRec }.unit
     ∧ x.code =
     { dt := r1.dt, unit := r1.unit, code := r1.code, op := r1.op, temp := r1.temp, volt := r1.volt, cls := r1.cls % 128 + if State.untested st10 = true then 128 else 0, rpt := r1.rpt, detail := r1.detail : ErrRec }.code
     ∧ x.op =
     { dt := r1.dt, unit := r1.unit, code := r1.code, op := r1.op, temp := r1.temp, volt := r1.volt, cls := r1.cls % 128 + if State.untested st10 = true then 128 else 0, rpt := r1.rpt, detail := r1.detail : ErrRec }.op
     ∧ x.cls =
     { dt := r1.dt, unit := r1.unit, code := r1.code, op := r1.op, temp := r1.temp, volt := r1.volt, cls := r1.cls % 128 + if State.untested st10 = true then 128 else 0, rpt := r1.rpt, detail := r1.detail : ErrRec }.cls)
     y) ∧ ((fun (x : ErrRec) => x.unit =
     { dt := r1.dt, unit := r1.unit, code := r1.code, op := r1.op, temp := r1.temp, volt := r1.volt, cls := r1.cls % 128 + if State.untested st10 = true then 128 else 0, rpt := r1.rpt, detail := r1.detail : ErrRec }.unit
     ∧ x.code =
     { dt := r1.dt, unit := r1.unit, code := r1.code, op := r1.op, temp := r1.temp, volt := r1.volt, cls := r1.cls % 128 + if State.untested st10 = true then 128 else 0, rpt := r1.rpt, detail := r1.detail : ErrRec }.code
     ∧ x.op =
     { dt := r1.dt, unit := r1.unit, code := r1.code, op := r1.op, temp := r1.temp, volt := r1.volt, cls := r1.cls % 128 + if State.untested st10 = true then 128 else 0, rpt := r1.rpt, detail := r1.detail : ErrRec }.op
     ∧ x.cls =
     { dt := r1.dt, unit := r1.unit, code := r1.code, op := r1.op, temp := r1.temp, volt := r1.volt, cls := r1.cls % 128 + if State.untested st10 = true then 128 else 0, rpt := r1.rpt, detail := r1.detail : ErrRec }.cls)
     r1)) ∧
    (Applies st11 BV Blk.err 144 (1 : Word) (4294967295 : Word) ∧ bit (1 : Word) 0 = true ∧ recOfBytes (State.stagedBytes st11
     (Master.code BV)) = r1 ∧ r1.cls % 8 < 5 ∧ raiseMay (Master.dom st11 BV) r1.unit = true ∧ (∀ (y : ErrRec), y ∈
     st11.check.queue → ¬(fun (x : ErrRec) => x.unit =
     { dt := r1.dt, unit := r1.unit, code := r1.code, op := r1.op, temp := r1.temp, volt := r1.volt, cls := r1.cls % 128 + if State.untested st11 = true then 128 else 0, rpt := r1.rpt, detail := r1.detail : ErrRec }.unit
     ∧ x.code =
     { dt := r1.dt, unit := r1.unit, code := r1.code, op := r1.op, temp := r1.temp, volt := r1.volt, cls := r1.cls % 128 + if State.untested st11 = true then 128 else 0, rpt := r1.rpt, detail := r1.detail : ErrRec }.code
     ∧ x.op =
     { dt := r1.dt, unit := r1.unit, code := r1.code, op := r1.op, temp := r1.temp, volt := r1.volt, cls := r1.cls % 128 + if State.untested st11 = true then 128 else 0, rpt := r1.rpt, detail := r1.detail : ErrRec }.op
     ∧ x.cls =
     { dt := r1.dt, unit := r1.unit, code := r1.code, op := r1.op, temp := r1.temp, volt := r1.volt, cls := r1.cls % 128 + if State.untested st11 = true then 128 else 0, rpt := r1.rpt, detail := r1.detail : ErrRec }.cls)
     y) ∧ (¬(List.length st11.check.queue < 56 ∨ List.length st11.check.queue < 64 ∧
     ({ dt := r1.dt, unit := r1.unit, code := r1.code, op := r1.op, temp := r1.temp, volt := r1.volt, cls := r1.cls % 128 + if State.untested st11 = true then 128 else 0, rpt := r1.rpt, detail := r1.detail : ErrRec }.cls
     % 8 = 1 ∨
     { dt := r1.dt, unit := r1.unit, code := r1.code, op := r1.op, temp := r1.temp, volt := r1.volt, cls := r1.cls % 128 + if State.untested st11 = true then 128 else 0, rpt := r1.rpt, detail := r1.detail : ErrRec }.cls
     % 8 = 2)))) := by
  refine ⟨?_, ?_, ?_, ?_, ?_⟩ <;> decide +kernel

theorem wit_ErrorRecordsEnterLeaveAndMirror_7 :
    (Applies st16 BV Blk.err 192 (3211270 : Word) (4294967295 : Word) ∧ bit (3211270 : Word) 16 = true ∧ Option.isSome
     st16.check.armed = true) ∧
    (Applies live BV Blk.err 192 (328706 : Word) (4294967295 : Word) ∧ bit (328706 : Word) 16 = true ∧ live.check.armed = none
     ∧ fld (328706 : Word) 3 0 = 2 ∧ fld (328706 : Word) 15 8 < 6 ∧ State.pairRetired live (fld (328706 : Word) 15 8) = false) ∧
    (Applies live BV Blk.err 192 (3211270 : Word) (4294967295 : Word) ∧ bit (3211270 : Word) 16 = true ∧ live.check.armed =
     none ∧ (fld (3211270 : Word) 3 0 = 1 ∨ fld (3211270 : Word) 3 0 = 4 ∨ fld (3211270 : Word) 3 0 = 5 ∨ fld (3211270 : Word)
     3 0 = 6 ∧ fld (3211270 : Word) 23 20 ≠ 0) ∧ injRange (fld (3211270 : Word) 3 0) (fld (3211270 : Word) 15 8) = true) ∧
    (Applies live BV Blk.err 192 (329218 : Word) (4294967295 : Word) ∧ bit (329218 : Word) 16 = true ∧ live.check.armed = none
     ∧ (fld (329218 : Word) 3 0 = 0 ∨ 7 ≤ fld (329218 : Word) 3 0 ∨ injRange (fld (329218 : Word) 3 0) (fld (329218 : Word) 15
     8) = false ∨ fld (329218 : Word) 3 0 = 6 ∧ fld (329218 : Word) 23 20 = 0)) := by
  refine ⟨?_, ?_, ?_, ?_⟩ <;> decide +kernel

end T20

namespace T20b

abbrev tm (p : Nat) (s : State) : State := s.setPair p { s.pair p with times := [0] }
abbrev due (p : Nat) (s : State) : State := let t := s.setPair p {s.pair p with scrubDt := 0}; {t with time := {t.time with a := 3000}}
abbrev arm (x : Inject) (s : State) : State := onCheck (fun k => {k with armed := some x}) s
abbrev x1 : Inject := {kind := 1, target := 4, nocount := true, count := 0, addr := 0}
abbrev st1 : State := onCheck (fun k => {k with retDisp := true}) live
abbrev st2 : State := tm 0 live
abbrev st3 : State := due 4 (live)
abbrev st4 : State := due 4 (live.setPair 4 {live.pair 4 with scrChk := 1})
abbrev st5 : State := arm x1 live
abbrev st6 : State := arm {x1 with target := 0, kind := 6, count := 3} live
abbrev va7 : Inject := {x1 with target := 0, kind := 6, count := 3}
abbrev st8 : State := arm {x1 with target := 0, kind := 3, count := 3} live
abbrev va9 : Inject := {x1 with target := 0, kind := 3, count := 3}

theorem wit_PairsDivergeScrubAndRetire_1 :
    (State.pairRetired st1 1 = true) := by
  decide +kernel

theorem wit_PairsDivergeScrubAndRetire_3 :
    (State.pairRetired live 4 = false ∧ State.armedFor live 1 4 = none ∧ (List.filter (fun (x : Nat) => decide (State.dt live
     ≤ x + 327680000)) (State.pair live 4).times = []) ∧ (4 = 0 → (State.comp live 1).staged = false ∧ State.keptOk live 1 =
     true)) := by
  decide +kernel

theorem wit_PairsDivergeScrubAndRetire_4 :
    (State.pairRetired st2 0 = false ∧ State.armedFor st2 1 0 = none ∧ (List.filter (fun (x : Nat) => decide (State.dt st2 ≤ x
     + 327680000)) (State.pair st2 0).times ≠ [])) := by
  decide +kernel

theorem wit_PairsDivergeScrubAndRetire_5 :
    (State.scrubDue live 4 = false) ∧
    (State.scrubDue st3 4 = true ∧ State.pairRetired st3 4 = false ∧ (State.pair st3 4).diverged = false ∧ (2 ≤ 4 →
     State.csqPhase st3 (4 - 2) ≠ 3) ∧ (State.pair st3 4).scrMain = (State.pair st3 4).scrChk) ∧
    (State.scrubDue st3 4 = true ∧ State.pairRetired st3 4 = false ∧ (State.pair st3 4).diverged = false ∧ (2 ≤ 4 →
     State.csqPhase st3 (4 - 2) ≠ 3) ∧ some ((3 : Fin 41), (3 : Word), (7 : Word)) = some ((3 : Fin 41), (3 : Word), (7 :
     Word)) ∧ 3 < 40 ∧ (3 : Word) ≠ (7 : Word) ∧ (State.pair st3 4).scrMain = (State.pair st3 4).scrChk ∧ (List.filter (fun (x
     : Nat) => decide (State.dt st3 ≤ x + 327680000)) (State.pair st3 4).times = []) ∧ 0 < 4) ∧
    (State.scrubDue st4 4 = true ∧ State.pairRetired st4 4 = false ∧ (State.pair st4 4).diverged = false ∧ (2 ≤ 4 →
     State.csqPhase st4 (4 - 2) ≠ 3) ∧ (State.pair st4 4).scrMain = BitVec.ofNat 32 0 ∧ (State.pair st4 4).scrChk =
     BitVec.ofNat 32 1 ∧ (State.pair st4 4).injected = false ∧ (List.filter (fun (x : Nat) => decide (State.dt st4 ≤ x +
     327680000)) (State.pair st4 4).times = []) ∧ 0 < 4) := by
  refine ⟨?_, ?_, ?_, ?_⟩ <;> decide +kernel

theorem wit_PairsDivergeScrubAndRetire_6 :
    (live.check.armed = none) := by
  decide +kernel

theorem wit_PairsDivergeScrubAndRetire_2 :
    (State.armedFor st5 1 4 = some x1 ∧ 0 < 4 ∧ State.pairRetired st5 4 = false ∧ (List.filter (fun (x : Nat) => decide
     (State.dt st5 ≤ x + 327680000)) (State.pair st5 4).times = []) ∧ x1.nocount = true) := by
  decide +kernel

theorem wit_PairsDivergeScrubAndRetire_7 :
    (st8.check.armed = some va9 ∧ va9.kind = 3) ∧
    (st5.check.armed = some x1 ∧ x1.kind = 1 ∧ x1.target = 4 ∧ 0 < 4 ∧ State.pairRetired st5 4 = false ∧ (List.filter (fun (x
     : Nat) => decide (State.dt st5 ≤ x + 327680000)) (State.pair st5 4).times = []) ∧ x1.nocount = true) ∧
    (st6.check.armed = some va7 ∧ va7.kind = 6 ∧ State.linkLive st6 = true) := by
  refine ⟨?_, ?_, ?_⟩ <;> decide +kernel

theorem wit_PairsDivergeScrubAndRetire_8 :
    ((inWindow 1073741828 1 belvSram belvSramSize || inWindow 1073741828 1 dispSram dispSramSize || inWindow 1073741828 1
     gtSram 262144) = false) ∧
    (parityComp Agent.window 838860804 = none ∧ (inWindow 838860804 1 belvSram belvSramSize || inWindow 838860804 1 dispSram
     dispSramSize) = true) := by
  refine ⟨?_, ?_⟩ <;> decide +kernel

end T20b

namespace T21

abbrev AP : Master := .application 1
abbrev GT : Master := .gatehouse
abbrev gp : State := (live.setB .gpio offStatus 0 true)
abbrev lk (n : Nat) (s : State) : State := onPins (fun p => {p with locked := BitVec.ofNat 48 (2^n)}) s
abbrev key (n : Nat) (m : Master) (s : State) : State := onPins (fun p => {p with keys := [(m.code, n)]}) s
abbrev hl (s : State) : State := onPins (fun p => {p with held := [(3, Pad.off), (5, Pad.off), (35, Pad.off)]}) ((s.setN .gpio
    0x70 0x28).setN .gpio 0x74 0x8)
abbrev tc (s : State) : State := (s.setN .gpio 0xB0 3).setN .pmux (0x100 + 4*33) 0x40231
abbrev pw (s : State) : State := onPins (fun p => {p with pwm := [(1, (0, false))]}) (s.setN .gpio 0x84 0x000F0010)
abbrev CH : Master := .channel 3
abbrev st1 : State := lk 0 (gp.setN .pmux 0x100 0x140230)
abbrev st2 : State := lk 2 gp
abbrev st3 : State := lk 2 (gp.setN .pmux 0x108 0x140230)
abbrev st4 : State := gp.setN .gpio 0x48 7
abbrev st5 : State := lk 2 ((gp.setN .gpio 0x48 7).setN .pmux 0x108 0x140230)
abbrev st6 : State := key 2 AP gp
abbrev st7 : State := lk 3 gp
abbrev st8 : State := hl gp
abbrev st9 : State := tc gp
abbrev st10 : State := pw live
abbrev st11 : State := pw gp

theorem wit_PinsKeepOwnersLocksAndFunctions_1 :
    ((Applies gp AP Blk.gpio (72 + if true = true then 4 else 0) (3845 : Word) (255 : Word)) ∧ ((fun (isOut : Bool) => ∀ (i :
     Nat), (i < if true = true then 16 else 32) → bit (255 : Word) i = true → (fun (isOut : Bool) (i : Nat) => State.pinLocked
     gp ((if true = true then 32 else 0) + i) && (!isOut || State.getB gp Blk.pmux (256 + 4 * ((if true = true then 32 else 0)
     + i)) 20)) isOut i = false) true)) ∧
    ((Applies st1 AP Blk.gpio (72 + if false = true then 4 else 0) (5 : Word) (4294967295 : Word)) ∧ ((fun (isOut : Bool) (r :
     Nat) (f : Bool → Bool → Bool) => AP ≠ Master.xspi ∧ State.refusedB st1 Blk.gpio = false ∧ ∃ (i : Nat), (i < if false =
     true then 16 else 32) ∧ bit (4294967295 : Word) i = true ∧ (fun (isOut : Bool) (i : Nat) => State.pinLocked st1 ((if
     false = true then 32 else 0) + i) && (!isOut || State.getB st1 Blk.pmux (256 + 4 * ((if false = true then 32 else 0) +
     i)) 20)) isOut i = true ∧ f (State.getB st1 Blk.gpio r i) (bit (5 : Word) i) ≠ State.getB st1 Blk.gpio r i) true (72 + if
     false = true then 4 else 0) fun (x b : Bool) => b)) := by
  refine ⟨?_, ?_⟩ <;> decide +kernel

theorem wit_PinsKeepOwnersLocksAndFunctions_2 :
    ((Applies gp AP Blk.gpio (96 + if false = true then 4 else 0) (5 : Word) (4294967295 : Word)) ∧ ((fun (isOut : Bool) => ∀
     (i : Nat), (i < if false = true then 16 else 32) → bit (4294967295 : Word) i = true → (fun (isOut : Bool) (i : Nat) =>
     State.pinLocked gp ((if false = true then 32 else 0) + i) && (!isOut || State.getB gp Blk.pmux (256 + 4 * ((if false =
     true then 32 else 0) + i)) 20)) isOut i = false) false)) ∧
    ((Applies st2 AP Blk.gpio (96 + if false = true then 4 else 0) (5 : Word) (4294967295 : Word)) ∧ ((fun (isOut : Bool) (r :
     Nat) (f : Bool → Bool → Bool) => AP ≠ Master.xspi ∧ State.refusedB st2 Blk.gpio = false ∧ ∃ (i : Nat), (i < if false =
     true then 16 else 32) ∧ bit (4294967295 : Word) i = true ∧ (fun (isOut : Bool) (i : Nat) => State.pinLocked st2 ((if
     false = true then 32 else 0) + i) && (!isOut || State.getB st2 Blk.pmux (256 + 4 * ((if false = true then 32 else 0) +
     i)) 20)) isOut i = true ∧ f (State.getB st2 Blk.gpio r i) (bit (5 : Word) i) ≠ State.getB st2 Blk.gpio r i) false (96 +
     if false = true then 4 else 0) fun (x b : Bool) => b)) := by
  refine ⟨?_, ?_⟩ <;> decide +kernel

theorem wit_PinsKeepOwnersLocksAndFunctions_3 :
    ((Applies gp AP Blk.gpio (80 + if false = true then 4 else 0) (5 : Word) (4294967295 : Word)) ∧ ((fun (isOut : Bool) => ∀
     (i : Nat), (i < if false = true then 16 else 32) → bit (4294967295 : Word) i = true → (fun (isOut : Bool) (i : Nat) =>
     State.pinLocked gp ((if false = true then 32 else 0) + i) && (!isOut || State.getB gp Blk.pmux (256 + 4 * ((if false =
     true then 32 else 0) + i)) 20)) isOut i = false) true)) ∧
    ((Applies st3 AP Blk.gpio (80 + if false = true then 4 else 0) (5 : Word) (4294967295 : Word)) ∧ ((fun (isOut : Bool) (r :
     Nat) (f : Bool → Bool → Bool) => AP ≠ Master.xspi ∧ State.refusedB st3 Blk.gpio = false ∧ ∃ (i : Nat), (i < if false =
     true then 16 else 32) ∧ bit (4294967295 : Word) i = true ∧ (fun (isOut : Bool) (i : Nat) => State.pinLocked st3 ((if
     false = true then 32 else 0) + i) && (!isOut || State.getB st3 Blk.pmux (256 + 4 * ((if false = true then 32 else 0) +
     i)) 20)) isOut i = true ∧ f (State.getB st3 Blk.gpio r i) (bit (5 : Word) i) ≠ State.getB st3 Blk.gpio r i) true (72 + if
     false = true then 4 else 0) or)) := by
  refine ⟨?_, ?_⟩ <;> decide +kernel

theorem wit_PinsKeepOwnersLocksAndFunctions_4 :
    ((Applies st4 AP Blk.gpio (88 + if false = true then 4 else 0) (5 : Word) (4294967295 : Word)) ∧ ((fun (isOut : Bool) => ∀
     (i : Nat), (i < if false = true then 16 else 32) → bit (4294967295 : Word) i = true → (fun (isOut : Bool) (i : Nat) =>
     State.pinLocked st4 ((if false = true then 32 else 0) + i) && (!isOut || State.getB st4 Blk.pmux (256 + 4 * ((if false =
     true then 32 else 0) + i)) 20)) isOut i = false) true)) ∧
    ((Applies st5 AP Blk.gpio (88 + if false = true then 4 else 0) (5 : Word) (4294967295 : Word)) ∧ ((fun (isOut : Bool) (r :
     Nat) (f : Bool → Bool → Bool) => AP ≠ Master.xspi ∧ State.refusedB st5 Blk.gpio = false ∧ ∃ (i : Nat), (i < if false =
     true then 16 else 32) ∧ bit (4294967295 : Word) i = true ∧ (fun (isOut : Bool) (i : Nat) => State.pinLocked st5 ((if
     false = true then 32 else 0) + i) && (!isOut || State.getB st5 Blk.pmux (256 + 4 * ((if false = true then 32 else 0) +
     i)) 20)) isOut i = true ∧ f (State.getB st5 Blk.gpio r i) (bit (5 : Word) i) ≠ State.getB st5 Blk.gpio r i) true (72 + if
     false = true then 4 else 0) fun (a b : Bool) => a && !b)) := by
  refine ⟨?_, ?_⟩ <;> decide +kernel

theorem wit_PinsKeepOwnersLocksAndFunctions_5 :
    (Applies gp AP Blk.gown (64 + 4 * 0) (1431655770 : Word) (4294967295 : Word) ∧ (∃ (j : Nat), j < 8 ∧ (fun (w : Word) (j :
     Nat) => fld w (4 * j + 3) (4 * j)) (1431655770 : Word) j ≠ (fun (w : Word) (j : Nat) => fld w (4 * j + 3) (4 * j))
     (State.get gp Blk.gown (64 + 4 * 0)) j ∧ 7 ≤ (fun (w : Word) (j : Nat) => fld w (4 * j + 3) (4 * j)) (1431655770 : Word)
     j)) ∧
    (Applies gp AP Blk.gown (64 + 4 * 0) (1431655764 : Word) (4294967295 : Word) ∧ (∀ (j : Nat), j < 8 → (fun (w : Word) (j :
     Nat) => fld w (4 * j + 3) (4 * j)) (1431655764 : Word) j ≠ (fun (w : Word) (j : Nat) => fld w (4 * j + 3) (4 * j))
     (State.get gp Blk.gown (64 + 4 * 0)) j → (fun (w : Word) (j : Nat) => fld w (4 * j + 3) (4 * j)) (1431655764 : Word) j <
     7 ∧ ((fun (j : Nat) => Master.dom gp AP = 1 ∨ Master.dom gp AP = 2 ∨ Master.dom gp AP ≠ 0 ∧ (fun (w : Word) (j : Nat) =>
     fld w (4 * j + 3) (4 * j)) (State.get gp Blk.gown (64 + 4 * 0)) j = Master.dom gp AP ∨ (fun (w : Word) (j : Nat) => fld w
     (4 * j + 3) (4 * j)) (State.get gp Blk.gown (64 + 4 * 0)) j = 0 ∧ (fun (w : Word) (j : Nat) => fld w (4 * j + 3) (4 * j))
     (1431655764 : Word) j = Master.dom gp AP) j → State.pinLocked gp (8 * 0 + j) = false)) ∧ ((1431655764 : Word) = State.get
     gp Blk.gown (64 + 4 * 0) ∨ ∃ (j : Nat), j < 8 ∧ (fun (w : Word) (j : Nat) => fld w (4 * j + 3) (4 * j)) (1431655764 :
     Word) j ≠ (fun (w : Word) (j : Nat) => fld w (4 * j + 3) (4 * j)) (State.get gp Blk.gown (64 + 4 * 0)) j ∧ (fun (j : Nat)
     => Master.dom gp AP = 1 ∨ Master.dom gp AP = 2 ∨ Master.dom gp AP ≠ 0 ∧ (fun (w : Word) (j : Nat) => fld w (4 * j + 3) (4
     * j)) (State.get gp Blk.gown (64 + 4 * 0)) j = Master.dom gp AP ∨ (fun (w : Word) (j : Nat) => fld w (4 * j + 3) (4 * j))
     (State.get gp Blk.gown (64 + 4 * 0)) j = 0 ∧ (fun (w : Word) (j : Nat) => fld w (4 * j + 3) (4 * j)) (1431655764 : Word)
     j = Master.dom gp AP) j)) ∧
    (Applies gp GT Blk.gown (64 + 4 * 0) (1431655763 : Word) (4294967295 : Word) ∧ (∀ (j : Nat), j < 8 → (fun (w : Word) (j :
     Nat) => fld w (4 * j + 3) (4 * j)) (1431655763 : Word) j ≠ (fun (w : Word) (j : Nat) => fld w (4 * j + 3) (4 * j))
     (State.get gp Blk.gown (64 + 4 * 0)) j → (fun (w : Word) (j : Nat) => fld w (4 * j + 3) (4 * j)) (1431655763 : Word) j <
     7) ∧ (1431655763 : Word) ≠ State.get gp Blk.gown (64 + 4 * 0) ∧ (∀ (j : Nat), j < 8 → (fun (w : Word) (j : Nat) => fld w
     (4 * j + 3) (4 * j)) (1431655763 : Word) j ≠ (fun (w : Word) (j : Nat) => fld w (4 * j + 3) (4 * j)) (State.get gp
     Blk.gown (64 + 4 * 0)) j → ¬(fun (j : Nat) => Master.dom gp GT = 1 ∨ Master.dom gp GT = 2 ∨ Master.dom gp GT ≠ 0 ∧ (fun
     (w : Word) (j : Nat) => fld w (4 * j + 3) (4 * j)) (State.get gp Blk.gown (64 + 4 * 0)) j = Master.dom gp GT ∨ (fun (w :
     Word) (j : Nat) => fld w (4 * j + 3) (4 * j)) (State.get gp Blk.gown (64 + 4 * 0)) j = 0 ∧ (fun (w : Word) (j : Nat) =>
     fld w (4 * j + 3) (4 * j)) (1431655763 : Word) j = Master.dom gp GT) j)) := by
  refine ⟨?_, ?_, ?_⟩ <;> decide +kernel

theorem wit_PinsKeepOwnersLocksAndFunctions_7 :
    ((Applies gp AP Blk.gown (if false = true then 104 else 100) (42405 : Word) (4294967295 : Word)) ∧ Option.getD (SMap.get?
     gp.pins.keys (Master.code AP)) 0 ≠ 2 ∧ AP ≠ Master.xspi ∧ State.refusedB gp Blk.gown = false) ∧
    ((Applies st6 AP Blk.gown (if true = true then 104 else 100) (42405 : Word) (4294967295 : Word)) ∧ Option.getD (SMap.get?
     st6.pins.keys (Master.code AP)) 0 = 2 ∧ (∃ (i : Nat), (i < if true = true then 16 else 32) ∧ (fun (i : Nat) => (i < if
     true = true then 16 else 32) ∧ bit (42405 : Word) i = true ∧ State.pinMay st6 (Master.dom st6 AP) ((if true = true then
     32 else 0) + i) = true) i)) ∧
    ((Applies st6 AP Blk.gown (if true = true then 104 else 100) (42240 : Word) (4294967295 : Word)) ∧ Option.getD (SMap.get?
     st6.pins.keys (Master.code AP)) 0 = 2 ∧ AP ≠ Master.xspi ∧ State.refusedB st6 Blk.gown = false ∧ (∃ (i : Nat), (i < if
     true = true then 16 else 32) ∧ bit (42240 : Word) i = true) ∧ (∀ (i : Nat), (i < if true = true then 16 else 32) → ¬(fun
     (i : Nat) => (i < if true = true then 16 else 32) ∧ bit (42240 : Word) i = true ∧ State.pinMay st6 (Master.dom st6 AP)
     ((if true = true then 32 else 0) + i) = true) i)) := by
  refine ⟨?_, ?_, ?_⟩ <;> decide +kernel

theorem wit_PinsKeepOwnersLocksAndFunctions_8 :
    (Applies gp AP Blk.pmux (256 + 4 * 3) (42240 : Word) (4294967295 : Word) ∧ pmReserved 3 (42240 : Word) = true) ∧
    (Applies gp AP Blk.pmux (256 + 4 * 3) (262672 : Word) (4294967295 : Word) ∧ pmReserved 3 (262672 : Word) = false ∧
     State.pinLocked gp 3 = false) ∧
    (Applies st7 AP Blk.pmux (256 + 4 * 3) (262672 : Word) (4294967295 : Word) ∧ pmReserved 3 (262672 : Word) = false ∧
     State.pinLocked st7 3 = true ∧ merge (State.get st7 Blk.pmux (256 + 4 * 3)) (262672 : Word) (BitVec.ofNat 32 1537911 &&&
     (4294967295 : Word)) ≠ State.get st7 Blk.pmux (256 + 4 * 3)) := by
  refine ⟨?_, ?_, ?_⟩ <;> decide +kernel

theorem wit_PinsKeepOwnersLocksAndFunctions_10 :
    ((Applies st8 AP Blk.gpio (112 + if true = true then 4 else 0) (65288 : Word) (255 : Word))) := by
  decide +kernel

theorem wit_PinsKeepOwnersLocksAndFunctions_11 :
    (State.present st9 Blk.gpio = true ∧ st9.check.parity = none ∧ hasLatch AP = true ∧ (¬(State.gpioRuns st9 = true ∧
     State.fed st9 (8 + 2) = true ∧ (State.getF st9 Blk.gpio (160 + 16 * 2) 1 0 = 3 ∨ State.getF st9 Blk.gpio (160 + 16 * 2) 1
     0 = 1 ∧ true = true ∨ State.getF st9 Blk.gpio (160 + 16 * 2) 1 0 = 2 ∧ true = false)))) ∧
    ((State.gpioRuns st9 = true ∧ State.fed st9 (8 + 1) = true ∧ (State.getF st9 Blk.gpio (160 + 16 * 1) 1 0 = 3 ∨ State.getF
     st9 Blk.gpio (160 + 16 * 1) 1 0 = 1 ∧ true = true ∨ State.getF st9 Blk.gpio (160 + 16 * 1) 1 0 = 2 ∧ true = false)) ∧
     State.present st9 Blk.gpio = true ∧ st9.check.parity = none ∧ hasLatch CH = false) := by
  refine ⟨?_, ?_⟩ <;> decide +kernel

theorem wit_PinsKeepOwnersLocksAndFunctions_12 :
    ((¬if 1 < 4 then State.gpioRuns st10 = true else State.rail st10 0 = true)) ∧
    ((if 5 < 4 then State.gpioRuns st11 = true else State.rail st11 0 = true) ∧ (State.pwmReg st11 5).fst = 0) ∧
    ((if 1 < 4 then State.gpioRuns st11 = true else State.rail st11 0 = true) ∧ (State.pwmReg st11 1).fst ≠ 0 ∧ SMap.get?
     st11.pins.pwm 1 = some (0, false) ∧ (0 ≤ if 1 < 4 then State.dt st11 else st11.time.a)) := by
  refine ⟨?_, ?_, ?_⟩ <;> decide +kernel

theorem wit_PinsKeepOwnersLocksAndFunctions_6 :
    (Applies gp CH Blk.gown 96 (23130 : Word) (4294967295 : Word) ∧ hasLatch CH = false) ∧
    (Applies gp AP Blk.gown 96 (23130 : Word) (4294967295 : Word) ∧ hasLatch AP = true) := by
  refine ⟨?_, ?_⟩ <;> decide +kernel

end T21

namespace T22

abbrev AP : Master := .application 1
abbrev ap : State := live
abbrev lkd (s : State) : State := s.setN .lock (lockOff 5) (1 + 5*0x10000 + 0x42 * 0x100000)
abbrev aa (f : AppSt → AppSt) (s : State) : State := onApp f s
abbrev ur (s : State) : State := ((s.setN .appc 0x804 0x1030364).setN .appc 0x80C 0x1F).setN .pmux (0x100 + 4*5) 0x40211
abbrev ut (s : State) : State := aa (fun a => {a with uartRx := [3], uartTx := [1, 2]}) (((ur s).setN .appc 0x80C 0x13F).setN
    .appc 0x810 9)
abbrev i2s (w : Nat) (s : State) : State := (((s.setN .appc 0xB00 0x100).setN .appc 0xB04 0x81000000).setN .appc 0xB0C
    4096).setN .appc 0xB14 w
abbrev st1 : State := lkd ap
abbrev st2 : State := lkd (((ap.setN .appc 0xB4 0)).setN .appc 0xB0 0)
abbrev st3 : State := aa (fun a => {a with uartTx := List.replicate 16 1}) ap
abbrev st4 : State := aa (fun a => {a with uartRx := [7, 8]}) ap
abbrev st5 : State := ur ap
abbrev st6 : State := aa (fun a => {a with uartRx := List.replicate 16 1}) (ur ap)
abbrev st7 : State := ut ap
abbrev st8 : State := ap.setN .appc 0xA00 0x101
abbrev st9 : State := (ap.setN .appc 0xA0C 1).setN .appc 0xA04 0x400
abbrev st10 : State := i2s 0 ap
abbrev st11 : State := (i2s 8 ap).storeBytes 0x81000000 [1,2,3,4]
abbrev st12 : State := {ap with power := {ap.power with rails := 0x3FF#11}}
abbrev st13 : State := {ap with power := {ap.power with opApp := some {target := 1, raise := true, since := 0}}}

theorem wit_TheClusterResetsAndItsPeripheralsMoveBytes_1 :
    (Applies ap AP Blk.appc 68 (3 : Word) (4294967295 : Word) ∧ (3 : Word) ≠ BitVec.ofNat 32 23063) ∧
    (Applies st1 AP Blk.appc 68 (23063 : Word) (4294967295 : Word) ∧ (23063 : Word) = BitVec.ofNat 32 23063 ∧ st1.power.opApp
     = none) ∧
    (Applies st13 AP Blk.appc 68 (23063 : Word) (4294967295 : Word) ∧ (23063 : Word) = BitVec.ofNat 32 23063 ∧ Option.isSome
     st13.power.opApp = true) := by
  refine ⟨?_, ?_, ?_⟩ <;> decide +kernel

theorem wit_TheClusterResetsAndItsPeripheralsMoveBytes_2 :
    (Applies st1 AP Blk.appc (80 + 4 * 2) (1 : Word) (4294967295 : Word) ∧ bit (1 : Word) 0 = true ∧ (Applies st1 AP Blk.appc
     ((if true = true then 164 else 160) + 8 * 2) (1 : Word) (4294967295 : Word)) ∧ State.timerDue st1 2 = false) ∧
    (State.present st2 Blk.appc = true ∧ State.timerDue st2 2 = true ∧ Applies st2 AP Blk.appc (80 + 4 * 2) (2 : Word)
     (4294967295 : Word) ∧ bit (2 : Word) 0 = false) := by
  refine ⟨?_, ?_⟩ <;> decide +kernel

theorem wit_TheClusterResetsAndItsPeripheralsMoveBytes_3 :
    (Applies st3 AP Blk.appc 2048 (2 : Word) (4294967295 : Word) ∧ 16 ≤ List.length st3.app.uartTx) ∧
    (Applies ap AP Blk.appc 2048 (2 : Word) (4294967295 : Word) ∧ List.length ap.app.uartTx < 16) := by
  refine ⟨?_, ?_⟩ <;> decide +kernel

theorem wit_TheClusterResetsAndItsPeripheralsMoveBytes_4 :
    (State.present ap Blk.appc = true ∧ State.gateMisses ap AP Blk.appc = false ∧ ap.check.parity = none ∧ Master.dom ap AP =
     State.owner ap Blk.appc ∧ State.owner ap Blk.appc ≠ 0 ∧ ap.app.uartRx = []) ∧
    (State.present st4 Blk.appc = true ∧ State.gateMisses st4 AP Blk.appc = false ∧ st4.check.parity = none ∧ Master.dom st4
     AP = State.owner st4 Blk.appc ∧ State.owner st4 Blk.appc ≠ 0 ∧ st4.app.uartRx = [(7 : Byte), (8 : Byte)]) := by
  refine ⟨?_, ?_⟩ <;> decide +kernel

theorem wit_TheClusterResetsAndItsPeripheralsMoveBytes_5 :
    ((State.uartOn ap = false ∨ State.fed ap 0 = false)) ∧
    (State.uartOn st5 = true ∧ State.fed st5 0 = true ∧ (false || true || false) = true) ∧
    (State.uartOn st6 = true ∧ State.fed st6 0 = true ∧ false = false ∧ 16 ≤ List.length st6.app.uartRx) ∧
    (State.uartOn st5 = true ∧ State.fed st5 0 = true ∧ false = false ∧ List.length st5.app.uartRx < 16 ∧ State.getF st5
     Blk.appc 2052 17 16 = 3) := by
  refine ⟨?_, ?_, ?_, ?_⟩ <;> decide +kernel

theorem wit_TheClusterResetsAndItsPeripheralsMoveBytes_6 :
    ((State.uartOn ap = false ∨ ap.app.uartRx = [] ∨ State.getF ap Blk.appc 2060 7 4 ≤ List.length ap.app.uartRx)) ∧
    (State.uartOn st7 = true ∧ 0 < List.length st7.app.uartRx ∧ List.length st7.app.uartRx < State.getF st7 Blk.appc 2060 7 4
     ∧ State.getF st7 Blk.appc 2064 7 0 ≠ 0 ∧ State.getB st7 Blk.appc 2060 3 = true) := by
  refine ⟨?_, ?_⟩ <;> decide +kernel

theorem wit_TheClusterResetsAndItsPeripheralsMoveBytes_7 :
    (ap.app.uartTx = []) ∧
    (st7.app.uartTx = [(1 : Byte), (2 : Byte)] ∧ State.uartOn st7 = true) := by
  refine ⟨?_, ?_⟩ <;> decide +kernel

theorem wit_TheClusterResetsAndItsPeripheralsMoveBytes_8 :
    (State.getB ap Blk.appc (2304 + 256 * 1 + 12) 0 = false ∧ Applies ap AP Blk.appc (2304 + 256 * 1 + 4) (2 : Word)
     (4294967295 : Word) ∧ (State.getB ap Blk.appc (2304 + 256 * 1) 8 = false ∨ State.getB ap Blk.appc (2304 + 256 * 1 + 12) 0
     = true)) ∧
    (State.present st9 Blk.appc = true ∧ State.getB st9 Blk.appc (2304 + 256 * 1 + 12) 0 = true) ∧
    (Applies st8 AP Blk.appc (2304 + 256 * 1 + 4) (2 : Word) (4294967295 : Word) ∧ State.getB st8 Blk.appc (2304 + 256 * 1) 8
     = true ∧ State.getB st8 Blk.appc (2304 + 256 * 1 + 12) 0 = false) := by
  refine ⟨?_, ?_, ?_⟩ <;> decide +kernel

theorem wit_TheClusterResetsAndItsPeripheralsMoveBytes_10 :
    ((¬(State.present ap Blk.appc = true ∧ State.getB ap Blk.appc 2816 8 = true) ∨ State.getN ap Blk.appc 2832 ≠ State.getN ap
     Blk.appc 2836)) := by
  decide +kernel

theorem wit_TheClusterResetsAndItsPeripheralsMoveBytes_11 :
    ((¬(State.present ap Blk.appc = true ∧ State.getB ap Blk.appc 2816 8 = true))) := by
  decide +kernel

theorem wit_TheClusterResetsAndItsPeripheralsMoveBytes_9 :
    ((State.present st10 Blk.appc = true ∧ State.getB st10 Blk.appc 2816 8 = true) ∧ State.getN st10 Blk.appc 2832 =
     State.getN st10 Blk.appc 2836) := by
  decide +kernel

theorem wit_TheClusterResetsAndItsPeripheralsMoveBytes_12 :
    ((State.present st11 Blk.appc = true ∧ State.getB st11 Blk.appc 2816 8 = true) ∧ State.getN st11 Blk.appc 2832 ≠
     State.getN st11 Blk.appc 2836 ∧ 0 < State.getN st11 Blk.appc 2828) := by
  decide +kernel

theorem wit_TheTapTakesThePads_1 :
    (State.rail ap 10 = true ∧ 5 ≤ 31) := by
  decide +kernel

theorem wit_TheTapTakesThePads_2 :
    (State.rail st12 10 = false ∧ Instr.extest ∈ [Instr.extest, Instr.samplePreload 5, Instr.idcode, Instr.clamp, Instr.highz,
     Instr.bypass (31 : Fin 32), Instr.tapReset]) := by
  decide +kernel

end T22

end Sys2Proof.Machine
end

/-! Hardware locks: what a write of LOCKn comes to once its page applies it (R78, R80, R84). -/

namespace Sys2Proof.Machine

/-! ### Words and masters -/

/-- A domain fits HOLDER_DOMAIN. -/
theorem dom_lt (m : Master) (s : State) : m.dom s < 16 := by
  cases m with
  | belvedere => simp only [Master.dom]; split <;> decide
  | channel c => exact fld_lt _ 3 0
  | dispatch | sequencer => exact (by decide : domSched < 16)
  | gatehouse => exact (by decide : domGate < 16)
  | application => exact (by decide : domApp < 16)
  | xspi => exact (by decide : domXhost < 16)

/-- A core code fits HOLDER_CORE. -/
theorem code_lt (m : Master) : m.code < 256 := by
  cases m <;> simp only [Master.code] <;> omega

/-- A number below a field adds nothing to it. -/
theorem fld_or_of_lt {a : Word} (b : Word) (hi : Nat) {lo : Nat} (h : a.toNat < 2 ^ lo) : fld (a ||| b) hi lo = fld b hi lo := by
  simp only [fld, BitVec.toNat_or, Nat.shiftRight_or_distrib, Nat.shiftRight_eq_zero _ _ h, Nat.zero_or]

/-- A free lock has at most ABANDONED set. -/
theorem freeLock_toNat_le (w : Word) : (freeLock w).toNat ≤ 2 := by
  simp only [freeLock, BitVec.toNat_and]
  exact Nat.and_le_right

/-- A granted lock is held by the master it was granted to, and ABANDONED is as it was. -/
theorem heldLock_fields (s : State) (m : Master) (w : Word) :
    bit (heldLock s m w) 0 = true ∧ bit (heldLock s m w) 1 = bit w 1 ∧
      fld (heldLock s m w) 19 16 = m.dom s ∧ fld (heldLock s m w) 27 20 = m.code := by
  have hd := dom_lt m s
  have hc := code_lt m
  have hw := freeLock_toNat_le w
  have hheld : (1 + m.dom s * 0x10000 + m.code * 0x100000).testBit 0 = true := by
    rw [Nat.testBit_zero, decide_eq_true_iff]; omega
  have hab : (1 + m.dom s * 0x10000 + m.code * 0x100000).testBit 1 = false := by
    rw [Nat.testBit_succ, Nat.testBit_zero, decide_eq_false_iff_not]; omega
  refine ⟨?_, ?_, ?_, ?_⟩
  · simp only [bit, heldLock, wd, BitVec.getLsbD_or, BitVec.getLsbD_ofNat, hheld]
    exact Bool.or_true _
  · simp only [bit, heldLock, freeLock, wd, BitVec.getLsbD_or, BitVec.getLsbD_and, BitVec.getLsbD_ofNat, hab, Bool.and_false,
      Bool.or_false]
    exact Bool.and_true _
  · rw [heldLock, fld_or_of_lt _ _ (by omega)]
    simp only [fld, wd, BitVec.toNat_ofNat, Nat.shiftRight_eq_div_pow]
    omega
  · rw [heldLock, fld_or_of_lt _ _ (by omega)]
    simp only [fld, wd, BitVec.toNat_ofNat, Nat.shiftRight_eq_div_pow]
    omega

/-- The holder: HELD is 1, and both codes are the master's (R79). -/
theorem isHolder_iff (s : State) (m : Master) (w : Word) :
    isHolder s m w = true ↔ bit w 0 = true ∧ fld w 19 16 = m.dom s ∧ fld w 27 20 = m.code := by
  simp only [isHolder, lockHeld, lockHolder, Bool.and_eq_true, beq_iff_eq, Prod.mk.injEq]

/-- Clearing ABANDONED leaves the other fields of a lock alone. -/
theorem clearAband_fields (w : Word) :
    bit (setBit w 1 false) 1 = false ∧ bit (setBit w 1 false) 0 = bit w 0 ∧
      fld (setBit w 1 false) 19 16 = fld w 19 16 ∧ fld (setBit w 1 false) 27 20 = fld w 27 20 :=
  ⟨bit_setBit_same _ _ _ (by decide), bit_setBit_other _ _ _ _ (by decide), fld_setFld_other _ _ _ _ _ _ (by decide),
    fld_setFld_other _ _ _ _ _ _ (by decide)⟩

/-! ### The answer of the command before -/

/-- The state with another answer. -/
def withResp (r : Resp) (s : State) : State := { s with resp := r }

@[simp] theorem reg_withResp (r : Resp) (s : State) (a : Nat) : (withResp r s).reg a = s.reg a := rfl
@[simp] theorem setReg_withResp (r : Resp) (s : State) (a : Nat) (w : Word) :
    (withResp r s).setReg a w = withResp r (s.setReg a w) := rfl

/-- The crossbar's verdict does not depend on the answer of the command before. -/
theorem judge_withResp (s : State) (w : BusWrite) (r : Resp) : judge (withResp r s) w = judge s w := rfl

/-! ### Writes of LOCKn -/

/-- ACQUIRE: granted on a free lock, counted on a held one (R78). -/
theorem lockWrite_acquire (m : Master) (n : Nat) (s : State) :
    lockWrite m n 0x100 s =
      let w := s.get .lock (lockOff n)
      if lockHeld w then s.count .lock 0x50 1 else s.set .lock (lockOff n) (heldLock s m w) := rfl

/-- RELEASE: refused to another master (R80) and on an abandoned lock (R84). -/
theorem lockWrite_release (m : Master) (n : Nat) (s : State) :
    lockWrite m n 0x200 s =
      let w := s.get .lock (lockOff n)
      if !isHolder s m w then s.reject .lock (lockOff n) 0x0506
      else if lockAband w then s.reject .lock (lockOff n) 0x0520
      else s.set .lock (lockOff n) 0 := rfl

/-- ACK: refused to another master (R80). -/
theorem lockWrite_ack (m : Master) (n : Nat) (s : State) :
    lockWrite m n 0x400 s =
      let w := s.get .lock (lockOff n)
      if !isHolder s m w then s.reject .lock (lockOff n) 0x0506
      else s.set .lock (lockOff n) (setBit w 1 false) := rfl

/-- Where LOCKn stands in its page. -/
theorem lockOff_bounds {n : Nat} (hn : n < 64) : 0x100 ≤ lockOff n ∧ lockOff n < 0x200 ∧ (lockOff n - 0x100) / 4 = n := by
  simp only [lockOff]; omega

/-- No lock is PG_ERRCNT. -/
theorem lockOff_ne_errcnt (n : Nat) : lockOff n ≠ offErrcnt := by simp only [lockOff, offErrcnt]; omega

/-- The effect of an applied write of LOCKn. -/
theorem applyReg_lock {n : Nat} (hn : n < 64) (m : Master) (v mask : Word) (s : State) :
    applyReg m .lock (lockOff n) v mask s = lockWrite m n v s := by
  obtain ⟨hlo, hhi, hidx⟩ := lockOff_bounds hn
  have hctrl : lockOff n ≠ offCtrl := by simp only [offCtrl]; omega
  have howner : lockOff n ≠ offOwner := by simp only [offOwner]; omega
  have hkey : lockOff n ≠ offKey := by simp only [offKey]; omega
  simp only [applyReg, storeCtl, hctrl, howner, hkey, hlo, hhi, hidx, and_self, if_true, if_false]

/-- `u` differs from `s` in nothing that a lock's write rule reads: the LOCK page without PG_ERRCNT, and the writer's
domain. -/
def SameLocks (m : Master) (s u : State) : Prop :=
  (∀ off, off ≠ offErrcnt → u.get .lock off = s.get .lock off) ∧ m.dom u = m.dom s

/-- Who holds a lock depends on the writer's domain alone. -/
theorem SameLocks.isHolder_eq {m : Master} {s u : State} (h : SameLocks m s u) (w : Word) : isHolder u m w = isHolder s m w := by
  simp only [isHolder, h.2]

/-- A grant depends on the writer's domain alone. -/
theorem SameLocks.heldLock_eq {m : Master} {s u : State} (h : SameLocks m s u) (w : Word) : heldLock u m w = heldLock s m w := by
  simp only [heldLock, h.2]

/-- The word of LOCKn. -/
theorem SameLocks.lock_eq {m : Master} {s u : State} (h : SameLocks m s u) (n : Nat) :
    u.get .lock (lockOff n) = s.get .lock (lockOff n) :=
  h.1 _ (lockOff_ne_errcnt n)

/-- `SameLocks` composes. -/
theorem SameLocks.trans {m : Master} {s t u : State} (h1 : SameLocks m s t) (h2 : SameLocks m t u) : SameLocks m s u :=
  ⟨fun off hoff => (h2.1 off hoff).trans (h1.1 off hoff), h2.2.trans h1.2⟩

/-- The answer of the command before is no part of what a lock's write rule reads. -/
theorem sameLocks_withResp (m : Master) (s : State) (r : Resp) : SameLocks m s (withResp r s) :=
  ⟨fun _ _ => rfl, by cases m <;> rfl⟩

/-- Nor is the count of rejections, which the port's HP_STAT.REJECT is found with (R118). -/
theorem sameLocks_setErrcnt (s : State) (k : Nat) : SameLocks .xspi s (s.setF .lock offErrcnt 15 0 k) :=
  ⟨fun _ hoff => get_set_off _ _ _ _ _ hoff, rfl⟩

/-! ### The write as a command -/

/-- A rejected write of a master: HP_STAT.REJECT is set where the xSPI port wrote (R56, R118). -/
def rejectBy (m : Master) (b : Blk) (off code : Nat) (s : State) : State :=
  if m = .xspi then hpSet 4 (s.reject b off code) else s.reject b off code

/-- A rejection is counted: PG_ERRCNT.REJECTS is not 0 after it. -/
theorem reject_errcnt_ne_zero (s : State) (b : Blk) (off code : Nat) : (s.reject b off code).getF b offErrcnt 15 0 ≠ 0 := by
  have hcount : (s.reject b off code).getF b offErrcnt 15 0 = (s.countF b offErrcnt 15 0 1).getF b offErrcnt 15 0 := by
    have hraw : b.at offErrcnt ≠ b.at offRaw := mt (at_inj b _ _).1 (by decide)
    have hreason : b.at offErrcnt ≠ b.at offReason := mt (at_inj b _ _).1 (by decide)
    simp only [State.reject, State.getF, get_eq]
    split
    · rw [irq_reg _ _ _ _ hraw]
    · rw [setN_reg _ _ _ _ _ hreason, irq_reg _ _ _ _ hraw]
  rw [hcount, countF_eq, getF_setF_same _ _ _ _ _ _ (by decide), satAdd]
  omega

/-- A rejected write changes registers alone. -/
theorem rejectBy_frame (m : Master) (b : Blk) (off code : Nat) (s : State) :
    rejectBy m b off code s = { s with regs := (rejectBy m b off code s).regs } := by
  unfold rejectBy
  split
  · exact regs_trans (reject_frame s b off code) (setReg_frame _ _ _)
  · exact reject_frame s b off code

/-- A rejected write neither reads nor changes the answer of the command before. -/
theorem rejectBy_withResp (m : Master) (b : Blk) (off code : Nat) (s : State) (r : Resp) :
    rejectBy m b off code (withResp r s) = withResp r (rejectBy m b off code s) := by
  have hreject : (withResp r s).reject b off code = withResp r (s.reject b off code) := by
    simp only [State.reject, State.refusedB, State.getB, State.getF, countF_eq, setF_eq, irq_eq, setN_eq, get_eq,
      reg_withResp, setReg_withResp]
    exact (apply_ite (withResp r) _ _ _).symm
  simp only [rejectBy, hpSet, setB_eq, hreject, reg_withResp, setReg_withResp]
  exact (apply_ite (withResp r) _ _ _).symm

/-- A command that changes registers alone. -/
theorem completes_regs {c : Instr} {s : State} {f : State → State} {R : SMap Word} {P : State → Prop}
    (hx : exec c s = run f s) (hf : f (withResp Resp.init s) = { s with regs := R, resp := Resp.init })
    (hp : P { s with regs := R, resp := Resp.init, seq := s.seq + 1 }) : Completes c s P := by
  refine completes_run hx ?_
  change P { f (withResp Resp.init s) with time := s.time, part := s.part, seq := s.seq + 1, pending := s.pending }
  rw [hf]
  exact hp

/-- A weaker claim of what a command leaves. -/
theorem Completes.imp {c : Instr} {s : State} {P Q : State → Prop} (h : Completes c s P) (hpq : ∀ t, P t → Q t) :
    Completes c s Q :=
  let ⟨t, hx, hp⟩ := h
  ⟨t, hx, hpq t hp⟩

/-- The port's write that its page applies and whose effect rejects it: HP_STAT.REJECT is set (R118). -/
theorem writeAt_rejects_xspi {s : State} {b : Blk} {off : Nat} {v v' mask : Word}
    (hb : blkOfPage b.pg = some b) (ho : off < 0x1000) (h : judge s (wr .xspi (b.at off) v) = .apply v' mask false)
    (hq : (applyReg .xspi b off v' mask (s.setF b offErrcnt 15 0 0)).getF b offErrcnt 15 0 ≠ 0) :
    writeAt .xspi b off v s = hpSet 4 (applyReg .xspi b off v' mask s) := by
  simp only [writeAt, busWrite, carryOut, noteReject, h]
  simp only [settle, effect, wr, blkOr_at hb ho, pageOff_at b ho, Bool.false_eq_true, if_false]
  exact if_pos ⟨trivial, hq⟩

section
variable {c : Instr} {s : State} {m : Master} {n : Fin 64} {v mask x : Word} {off code : Nat}

/-- A write of LOCKn whose effect stores one register of the page. -/
theorem writeAt_lock_of_stores (ha : Applies s m .lock (lockOff n.val) v mask) (hoff : off ≠ offErrcnt)
    (hw : ∀ u, SameLocks m s u → lockWrite m n v u = u.set .lock off x) :
    writeAt m .lock (lockOff n.val) v s = s.set .lock off x := by
  have hpage : lockOff n.val < 0x1000 := by have := lockOff_bounds n.isLt; omega
  have hs : applyReg m .lock (lockOff n.val) v mask s = s.set .lock off x := by
    rw [applyReg_lock n.isLt, hw s ⟨fun _ _ => rfl, rfl⟩]
  by_cases hm : m = .xspi
  · subst hm
    refine (writeAt_applies_xspi rfl hpage ha ?_).trans hs
    rw [applyReg_lock n.isLt, hw _ (sameLocks_setErrcnt s 0), State.getF, get_set_off _ _ _ _ _ hoff.symm]
    exact getF_setF_same _ _ _ _ _ _ (by decide)
  · exact (writeAt_applies rfl hpage hm ha).trans hs

/-- A write of LOCKn whose effect is a rejection. -/
theorem writeAt_lock_of_rejects (ha : Applies s m .lock (lockOff n.val) v mask)
    (hw : ∀ u, SameLocks m s u → lockWrite m n v u = u.reject .lock off code) :
    writeAt m .lock (lockOff n.val) v s = rejectBy m .lock off code s := by
  have hpage : lockOff n.val < 0x1000 := by have := lockOff_bounds n.isLt; omega
  have hs : applyReg m .lock (lockOff n.val) v mask s = s.reject .lock off code := by
    rw [applyReg_lock n.isLt, hw s ⟨fun _ _ => rfl, rfl⟩]
  by_cases hm : m = .xspi
  · subst hm
    refine (writeAt_rejects_xspi rfl hpage ha ?_).trans (congrArg (hpSet 4) hs)
    rw [applyReg_lock n.isLt, hw _ (sameLocks_setErrcnt s 0)]
    exact reject_errcnt_ne_zero _ _ _ _
  · exact (writeAt_applies rfl hpage hm ha).trans (hs.trans (if_neg hm).symm)

/-- A lock command that stores one register leaves all else alone. -/
theorem completes_lockStore (hx : exec c s = run (writeAt m .lock (lockOff n.val) v) s)
    (ha : Applies s m .lock (lockOff n.val) v mask) (hoff : off ≠ offErrcnt)
    (hw : ∀ u, SameLocks m s u → lockWrite m n v u = u.set .lock off x) :
    Completes c s (fun t => t.get .lock off = x ∧ OnlyRegs [Blk.at .lock off] s t) := by
  have ha' : Applies (withResp Resp.init s) m .lock (lockOff n.val) v mask := (judge_withResp s _ _).trans ha
  have hwrite := writeAt_lock_of_stores ha' hoff (fun u hu => hw u ((sameLocks_withResp m s _).trans hu))
  refine completes_regs (R := (s.set .lock off x).regs) hx hwrite ⟨get_set_same s .lock off x, fun a hmem => ?_, rfl⟩
  exact reg_setReg_other s _ a x (fun h => hmem (List.mem_singleton.2 h))

/-- A lock command that is refused leaves the marks of a rejection and changes nothing else. -/
theorem completes_lockReject (hx : exec c s = run (writeAt m .lock (lockOff n.val) v) s)
    (ha : Applies s m .lock (lockOff n.val) v mask)
    (hw : ∀ u, SameLocks m s u → lockWrite m n v u = u.reject .lock off code) :
    Completes c s (Rejected s m .lock off code) := by
  have ha' : Applies (withResp Resp.init s) m .lock (lockOff n.val) v mask := (judge_withResp s _ _).trans ha
  have hwrite := writeAt_lock_of_rejects ha' (fun u hu => hw u ((sameLocks_withResp m s _).trans hu))
  have hframe := rejectBy_frame m .lock off code s
  refine completes_regs (R := (rejectBy m .lock off code s).regs) hx ?_ ?_
  · rw [hwrite, rejectBy_withResp, hframe]
    rfl
  · change _ = { rejectBy m .lock off code s with resp := Resp.init, seq := s.seq + 1 }
    rw [hframe]

/-! ### The commands -/

/-- ACQUIRE of a free lock (R78). -/
theorem acquire_free_grants (ha : Applies s m .lock (lockOff n.val) 0x100 mask)
    (hfree : bit (s.get .lock (lockOff n.val)) 0 = false) :
    Completes (.acquire m n) s (fun t =>
      t.get .lock (lockOff n.val) = heldLock s m (s.get .lock (lockOff n.val)) ∧
        OnlyRegs [Blk.at .lock (lockOff n.val)] s t) := by
  refine completes_lockStore rfl ha (lockOff_ne_errcnt _) fun u hu => ?_
  simp only [lockWrite_acquire, lockHeld, hu.lock_eq, hu.heldLock_eq, hfree, Bool.false_eq_true, if_false]

/-- ACQUIRE of a held lock (R78). -/
theorem acquire_held_counts (ha : Applies s m .lock (lockOff n.val) 0x100 mask)
    (hheld : bit (s.get .lock (lockOff n.val)) 0 = true) :
    Completes (.acquire m n) s (fun t =>
      t.get .lock 0x50 = wd (satAdd (s.getN .lock 0x50) 1 0xFFFFFFFF) ∧ OnlyRegs [Blk.at .lock 0x50] s t) := by
  refine completes_lockStore rfl ha (by decide) fun u hu => ?_
  have hcnt : u.getN .lock 0x50 = s.getN .lock 0x50 := congrArg BitVec.toNat (hu.1 0x50 (by decide))
  simp only [lockWrite_acquire, lockHeld, hu.lock_eq, hheld, if_true, State.count, State.setN, hcnt]

/-- RELEASE by the holder of a lock that is not abandoned (R80). -/
theorem release_by_holder_frees (ha : Applies s m .lock (lockOff n.val) 0x200 mask)
    (hm : isHolder s m (s.get .lock (lockOff n.val)) = true) (hab : bit (s.get .lock (lockOff n.val)) 1 = false) :
    Completes (.release m n) s (fun t => t.get .lock (lockOff n.val) = 0 ∧ OnlyRegs [Blk.at .lock (lockOff n.val)] s t) := by
  refine completes_lockStore rfl ha (lockOff_ne_errcnt _) fun u hu => ?_
  simp only [lockWrite_release, lockAband, hu.lock_eq, hu.isHolder_eq, hm, hab, Bool.not_true, Bool.false_eq_true, if_false]

/-- RELEASE by the holder of an abandoned lock (R84). -/
theorem release_abandoned_rejected (ha : Applies s m .lock (lockOff n.val) 0x200 mask)
    (hm : isHolder s m (s.get .lock (lockOff n.val)) = true) (hab : bit (s.get .lock (lockOff n.val)) 1 = true) :
    Completes (.release m n) s (Rejected s m .lock (lockOff n.val) 0x0520) := by
  refine completes_lockReject rfl ha fun u hu => ?_
  simp only [lockWrite_release, lockAband, hu.lock_eq, hu.isHolder_eq, hm, hab, Bool.not_true, Bool.false_eq_true, if_false,
    if_true]

/-- RELEASE by another master (R80). -/
theorem release_by_other_rejected (ha : Applies s m .lock (lockOff n.val) 0x200 mask)
    (hm : isHolder s m (s.get .lock (lockOff n.val)) = false) :
    Completes (.release m n) s (Rejected s m .lock (lockOff n.val) 0x0506) := by
  refine completes_lockReject rfl ha fun u hu => ?_
  simp only [lockWrite_release, hu.lock_eq, hu.isHolder_eq, hm, Bool.not_false, if_true]

/-- ACK by the holder (R80, R83). -/
theorem ack_by_holder_clears (ha : Applies s m .lock (lockOff n.val) 0x400 mask)
    (hm : isHolder s m (s.get .lock (lockOff n.val)) = true) :
    Completes (.ack m n) s (fun t =>
      t.get .lock (lockOff n.val) = setBit (s.get .lock (lockOff n.val)) 1 false ∧
        OnlyRegs [Blk.at .lock (lockOff n.val)] s t) := by
  refine completes_lockStore rfl ha (lockOff_ne_errcnt _) fun u hu => ?_
  simp only [lockWrite_ack, hu.lock_eq, hu.isHolder_eq, hm, Bool.not_true, Bool.false_eq_true, if_false]

/-- ACK by another master (R80). -/
theorem ack_by_other_rejected (ha : Applies s m .lock (lockOff n.val) 0x400 mask)
    (hm : isHolder s m (s.get .lock (lockOff n.val)) = false) :
    Completes (.ack m n) s (Rejected s m .lock (lockOff n.val) 0x0506) := by
  refine completes_lockReject rfl ha fun u hu => ?_
  simp only [lockWrite_ack, hu.lock_eq, hu.isHolder_eq, hm, Bool.not_false, if_true]

end

/-- Settles O2: each of the seven cases is one store or one rejection, whichever master writes. -/
theorem locksAreTakenAndFreed : Obligations.LocksAreTakenAndFreed := by
  intro m n s mask off w
  refine ⟨fun ha hfree => ?_, fun ha hheld => ?_, release_by_holder_frees, release_abandoned_rejected,
    release_by_other_rejected, fun ha hm => ?_, ack_by_other_rejected⟩
  · refine (acquire_free_grants ha hfree).imp fun t ht => ?_
    obtain ⟨hword, hframe⟩ := ht
    obtain ⟨hheld, hab, hdom, hcode⟩ := heldLock_fields s m w
    rw [← hword] at hheld hab hdom hcode
    exact ⟨hheld, hab, hdom, hcode, hframe⟩
  · refine (acquire_held_counts ha hheld).imp fun t ht => ?_
    obtain ⟨hword, hframe⟩ := ht
    refine ⟨?_, hframe⟩
    simp only [State.getN, hword, wd, satAdd, BitVec.toNat_ofNat]
    omega
  · refine (ack_by_holder_clears ha hm).imp fun t ht => ?_
    obtain ⟨hword, hframe⟩ := ht
    obtain ⟨hheld, hdom, hcode⟩ := (isHolder_iff s m w).1 hm
    obtain ⟨hab, hheld', hdom', hcode'⟩ := clearAband_fields w
    rw [← hword] at hab hheld' hdom' hcode'
    exact ⟨hab, hheld'.trans hheld, hdom'.trans hdom, hcode'.trans hcode, hframe⟩

end Sys2Proof.Machine

/-! Slot handle uses: what the check of R275 answers, what SLOT_ORDER leaves (R282, R310), what an accepted use does to
the entry and the claims (R276). -/

namespace Sys2Proof.Machine

/-! ### Entries and claims -/

@[simp] theorem slot_updSlot_same (s : State) (h : Nat) (w0 w1 w2 : Word) :
    (s.updSlot h w0 w1 w2).slot h = { w0 := w0, w1 := w1, w2 := w2, check := slotCheck w0 w1 w2 } := by
  simp [State.slot, State.updSlot, State.setSlot, smap_get_put_same]

@[simp] theorem reg_updSlot (s : State) (h a : Nat) (w0 w1 w2 : Word) : (s.updSlot h w0 w1 w2).reg a = s.reg a := rfl

/-- A claim that was stored is the one its agent holds on its handle. -/
theorem claim?_putClaim_same {s : State} {c : Claim} {agent h : Nat} (ha : c.agent = agent) (hh : c.handle = h) :
    (s.putClaim c).claim? agent h = some c := by
  simp [State.claim?, State.putClaim, ha, hh]

/-- The claim that a use of a handle by an agent works on: the one it holds, or a new one that holds nothing. -/
def State.claimFor (s : State) (agent h : Nat) : Claim :=
  (s.claim? agent h).getD { agent := agent, handle := h, reads := false, release := false, fill := false }

/-- The claim belongs to the agent and names the handle. -/
theorem claimFor_key (s : State) (agent h : Nat) :
    (s.claimFor agent h).agent = agent ∧ (s.claimFor agent h).handle = h := by
  cases hc : s.claim? agent h with
  | none => simp [State.claimFor, hc]
  | some c =>
    have hkey := List.find?_some hc
    simpa [State.claimFor, hc] using hkey

/-- A claim reads only where the agent holds one that does. -/
theorem claimFor_reads (s : State) (agent h : Nat) :
    (s.claimFor agent h).reads = (s.claim? agent h).elim false (·.reads) := by
  cases hc : s.claim? agent h <;> simp [State.claimFor, hc]

/-! ### Registers alone, and records -/

/-- What is no register stays where registers alone change. -/
theorem rest_of_regs {s t : State} (h : t = { s with regs := t.regs }) :
    t.mem = s.mem ∧ t.check = s.check ∧ t.ora = s.ora := by
  generalize t.regs = regs at h
  subst h
  exact ⟨rfl, rfl, rfl⟩

/-- A raised record leaves memory alone. -/
@[simp] theorem raise_mem (s : State) (b : Blk) (code op cls : Nat) (d : List Byte) :
    (s.raise b code op cls d).mem = s.mem := rfl

/-- A raised record leaves the slot table and the claims alone. -/
@[simp] theorem raise_ora (s : State) (b : Blk) (code op cls : Nat) (d : List Byte) :
    (s.raise b code op cls d).ora = s.ora := rfl

/-- A raised record joins the records there were, with its unit, code and class. -/
theorem raised_raise {s t : State} (b : Blk) (code op cls : Nat) (d : List Byte) (h : t.check = s.check) :
    Raised s (t.raise b code op cls d) [(b.unit, code, cls)] := by
  simp [Raised, State.raise, raiseRec_check, State.record, h]

/-! ### The check of a use -/

/-- A slot whose releases reach its non-zero DRAINS. -/
abbrev Slot.allReleased (e : Slot) : Prop := e.drains ≠ 0 ∧ e.released = e.drains

/-- The slot is FILLING under a claim of this agent. -/
abbrev State.fillsFor (s : State) (agent h : Nat) : Prop :=
  (s.slot h).state = 1 ∧ (s.slot h).filler = agent ∧ (s.claim? agent h).isSome = true

/-- An entry that is valid and whose CHECK matches. -/
abbrev Slot.sound (e : Slot) : Prop := e.valid = true ∧ e.check = slotCheck e.w0 e.w1 e.w2

section
variable {s : State} {agent req h gen kind off len op cause : Nat}

/-- An entry that is not valid: INVALID, the first condition. -/
theorem useCause_invalid (hv : (s.slot h).valid = false) : useCause s agent h gen kind off len = some 4 :=
  if_pos (.inr (by rw [hv]; rfl))

/-- A valid entry passes the first condition while the Orangery is enabled. -/
theorem valid_passes (hen : s.enabled .ora = true) (hv : (s.slot h).valid = true) :
    ¬ ((!s.enabled .ora) = true ∨ (!(s.slot h).valid) = true) := by
  rw [hen, hv]
  decide

/-- A valid entry with a wrong CHECK: CHECK, the second condition. -/
theorem useCause_check (hen : s.enabled .ora = true) (hv : (s.slot h).valid = true)
    (hck : (s.slot h).check ≠ slotCheck (s.slot h).w0 (s.slot h).w1 (s.slot h).w2) :
    useCause s agent h gen kind off len = some 6 :=
  (if_neg (valid_passes hen hv)).trans (if_pos hck)

/-- On a sound entry the other four conditions decide, in their order. -/
theorem useCause_sound (hen : s.enabled .ora = true) (hs : (s.slot h).sound) :
    useCause s agent h gen kind off len =
      if (s.slot h).size < off + len then some 5
      else if kind ≠ 2 ∧ ((s.slot h).state ≤ 1 ∨ (s.slot h).allReleased) then some 1
      else if kind = 2 ∧ (s.slot h).state ≠ 0 ∧ ¬ s.fillsFor agent h then some 2
      else if gen ≠ (s.slot h).gen then some 3
      else none := by
  obtain ⟨hv, hck⟩ := hs
  have hmine : (!decide (s.fillsFor agent h)) = true ↔ ¬ s.fillsFor agent h := by
    rw [Bool.not_eq_true', decide_eq_false_iff_not]
  simp only [useCause]
  rw [if_neg (valid_passes hen hv), if_neg (not_not_intro hck)]
  simp only [hmine]

theorem handleUse_refused (hc : useCause s agent h gen kind off len = some cause) :
    handleUse agent req h gen kind off len op s = (slotOrder req h gen kind cause op s, false) := by
  simp only [handleUse, hc]

theorem handleUse_accepted (hc : useCause s agent h gen kind off len = none) :
    handleUse agent req h gen kind off len op s = (useAccept agent h kind s, true) := by
  simp only [handleUse, hc]

end

/-! ### SLOT_ORDER -/

/-- ORA_LAST_TRAP of a use of entry `e`: the handle, the cause, the expected generation and the entry's. -/
def trapWord (e : Slot) (h gen cause : Nat) : Nat := h + cause * 0x1000 + gen * 0x10000 + e.gen * 0x1000000

/-- ORA_LAST_TRAP2: the entry's STATE, the use kind and the requester. -/
def trapWord2 (e : Slot) (req kind : Nat) : Nat := e.state + kind * 0x10 + req * 0x100

/-- A field of a stored number. -/
theorem fld_wd (n hi lo : Nat) : fld (wd n) hi lo = n % 2 ^ 32 / 2 ^ lo % 2 ^ (hi + 1 - lo) := by
  simp only [fld, wd, BitVec.toNat_ofNat, Nat.shiftRight_eq_div_pow]

theorem Slot.gen_lt (e : Slot) : e.gen < 256 := fld_lt e.w0 31 24
theorem Slot.state_lt (e : Slot) : e.state < 4 := fld_lt e.w1 1 0

/-- The fields of ORA_LAST_TRAP. -/
theorem trapWord_fields (e : Slot) {h gen cause : Nat} (hh : h < 4096) (hg : gen < 256) (hc : cause < 8) :
    fld (wd (trapWord e h gen cause)) 11 0 = h ∧ fld (wd (trapWord e h gen cause)) 14 12 = cause ∧
      fld (wd (trapWord e h gen cause)) 23 16 = gen ∧ fld (wd (trapWord e h gen cause)) 31 24 = e.gen := by
  have he := e.gen_lt
  simp only [fld_wd, trapWord]
  omega

/-- The fields of ORA_LAST_TRAP2. -/
theorem trapWord2_fields (e : Slot) {req kind : Nat} (hk : kind ≤ 2) (hr : req < 256) :
    fld (wd (trapWord2 e req kind)) 1 0 = e.state ∧ fld (wd (trapWord2 e req kind)) 5 4 = kind ∧
      fld (wd (trapWord2 e req kind)) 15 8 = req := by
  have he := e.state_lt
  simp only [fld_wd, trapWord2]
  omega

/-- The trap registers loaded and the trap counted (R282). -/
def loadTrap (req h gen kind cause : Nat) (s : State) : State :=
  ((s.count .ora 0x58 1).setN .ora 0x5C (trapWord (s.slot h) h gen cause)).setN .ora 0x60 (trapWord2 (s.slot h) req kind)

/-- The entry `e` of a failed check byte is stored without VALID, and PG_IRQ_RAW.CHECK is set (R310). -/
def clearValid (e : Slot) (h : Nat) (s : State) : State :=
  (s.updSlot h e.w0 (setBit e.w1 16 false) e.w2).irq .ora 11

/-- Storing the entry without VALID changes neither memory, nor the records, nor the claims. -/
theorem clearValid_frame (e : Slot) (h : Nat) (s : State) :
    (clearValid e h s).mem = s.mem ∧ (clearValid e h s).check = s.check ∧
      (clearValid e h s).ora.claims = s.ora.claims := ⟨rfl, rfl, rfl⟩

/-- SLOT_ORDER up to its record: the trap registers, PG_IRQ_RAW.TRAP, and the entry of a failed check byte. -/
def noteTrap (req h gen kind cause : Nat) (s : State) : State :=
  if cause = 6 then clearValid (s.slot h) h ((loadTrap req h gen kind cause s).irq .ora 8)
  else (loadTrap req h gen kind cause s).irq .ora 8

/-- SLOT_ORDER notes the trap and raises the record of both trap registers. -/
theorem slotOrder_eq (req h gen kind cause op : Nat) (s : State) :
    slotOrder req h gen kind cause op s =
      (noteTrap req h gen kind cause s).raise .ora 0x1240 op clsTransient
        (leBytes (trapWord (s.slot h) h gen cause) 4 ++ leBytes (trapWord2 (s.slot h) req kind) 4) := rfl

section
variable (req h gen kind cause op : Nat) (s : State)

/-- Loading the trap registers stores registers alone. -/
theorem loadTrap_frame :
    loadTrap req h gen kind cause s = { s with regs := (loadTrap req h gen kind cause s).regs } :=
  regs_trans (regs_trans (setReg_frame s _ _) (setReg_frame _ _ _)) (setReg_frame _ _ _)

/-- Noting a trap stores registers and the entry alone. -/
theorem noteTrap_frame :
    (noteTrap req h gen kind cause s).mem = s.mem ∧ (noteTrap req h gen kind cause s).check = s.check ∧
      (noteTrap req h gen kind cause s).ora.claims = s.ora.claims := by
  obtain ⟨hmem, hcheck, hora⟩ := rest_of_regs (regs_trans (loadTrap_frame req h gen kind cause s) (setReg_frame _ _ _))
  rw [← hmem, ← hcheck, ← hora, noteTrap]
  split
  · exact clearValid_frame ..
  · exact ⟨rfl, rfl, rfl⟩

/-- Beside PG_IRQ_RAW, noting a trap leaves each register as the loaded trap registers do. -/
theorem noteTrap_reg {a : Nat} (hraw : a ≠ Blk.at .ora offRaw) :
    (noteTrap req h gen kind cause s).reg a = (loadTrap req h gen kind cause s).reg a := by
  unfold noteTrap
  split
  · rw [clearValid, irq_reg _ _ _ _ hraw, reg_updSlot, irq_reg _ _ _ _ hraw]
  · rw [irq_reg _ _ _ _ hraw]

/-- PG_IRQ_RAW.TRAP is set, beside CHECK where the check byte failed. -/
theorem noteTrap_irq : bit ((noteTrap req h gen kind cause s).reg (Blk.at .ora offRaw)) 8 = true := by
  unfold noteTrap
  split
  · rw [clearValid, irq_eq, reg_setReg_same, bit_setBit_other _ _ _ _ (by decide), reg_updSlot, irq_eq, reg_setReg_same]
    exact bit_setBit_same _ _ _ (by decide)
  · rw [irq_eq, reg_setReg_same]
    exact bit_setBit_same _ _ _ (by decide)

/-- A failed check byte clears VALID. -/
theorem noteTrap_check_clears_valid : ((noteTrap req h gen kind 6 s).slot h).valid = false := by
  have hslot (e : Slot) (u : State) : (clearValid e h u).slot h = (u.updSlot h e.w0 (setBit e.w1 16 false) e.w2).slot h := rfl
  rw [noteTrap, if_pos rfl, hslot, slot_updSlot_same]
  exact bit_setBit_same _ _ _ (by decide)

/-- Beside PG_ERRCNT and PG_IRQ_RAW, SLOT_ORDER leaves each register as the loaded trap registers do. -/
theorem slotOrder_reg {a : Nat} (herr : a ≠ Blk.at .ora offErrcnt) (hraw : a ≠ Blk.at .ora offRaw) :
    (slotOrder req h gen kind cause op s).reg a = (loadTrap req h gen kind cause s).reg a := by
  rw [slotOrder_eq, State.raise, raiseRec_reg _ _ _ _ _ _ _ _ herr, noteTrap_reg _ _ _ _ _ _ hraw]

theorem slotOrder_irq : (slotOrder req h gen kind cause op s).getB .ora offRaw 8 = true := by
  rw [slotOrder_eq, State.raise, State.getB, get_eq, raiseRec_reg _ _ _ _ _ _ _ _ (by decide)]
  exact noteTrap_irq req h gen kind cause s

/-- SLOT_ORDER moves no byte, changes no claim and raises one record, of class TRANSIENT. -/
theorem slotOrder_frame :
    (slotOrder req h gen kind cause op s).mem = s.mem ∧ (slotOrder req h gen kind cause op s).ora.claims = s.ora.claims ∧
      Raised s (slotOrder req h gen kind cause op s) [(0x1200, 0x1240, 0)] := by
  obtain ⟨hmem, hcheck, hclaims⟩ := noteTrap_frame req h gen kind cause s
  rw [slotOrder_eq, raise_mem, raise_ora]
  exact ⟨hmem, hclaims, raised_raise .ora _ _ _ _ hcheck⟩

/-- A failed check byte clears VALID. -/
theorem slotOrder_check_clears_valid : ((slotOrder req h gen kind 6 op s).slot h).valid = false := by
  rw [slotOrder_eq, State.slot, raise_ora]
  exact noteTrap_check_clears_valid req h gen kind s

/-- ORA_TRAP_CNT counts the trap. -/
theorem loadTrap_count : (loadTrap req h gen kind cause s).getN .ora 0x58 = min (s.getN .ora 0x58 + 1) 0xFFFFFFFF := by
  have hcount : (loadTrap req h gen kind cause s).getN .ora 0x58 = (s.count .ora 0x58 1).getN .ora 0x58 := by
    simp only [loadTrap, State.getN, get_eq]
    rw [setN_reg _ _ _ _ _ (by decide), setN_reg _ _ _ _ _ (by decide)]
  rw [hcount, count_eq, getN_setN_same, satAdd]
  omega

theorem loadTrap_trap : (loadTrap req h gen kind cause s).reg (Blk.at .ora 0x5C) = wd (trapWord (s.slot h) h gen cause) := by
  rw [loadTrap, setN_reg _ _ _ _ _ (by decide), setN_eq, reg_setReg_same]

theorem loadTrap_trap2 : (loadTrap req h gen kind cause s).reg (Blk.at .ora 0x60) = wd (trapWord2 (s.slot h) req kind) := by
  rw [loadTrap, setN_eq, reg_setReg_same]

/-- Loading the trap registers touches them and the count alone. -/
theorem loadTrap_reg {a : Nat} (h1 : a ≠ Blk.at .ora 0x58) (h2 : a ≠ Blk.at .ora 0x5C) (h3 : a ≠ Blk.at .ora 0x60) :
    (loadTrap req h gen kind cause s).reg a = s.reg a := by
  rw [loadTrap, setN_reg _ _ _ _ _ h3, setN_reg _ _ _ _ _ h2, count_eq, setN_reg _ _ _ _ _ h1]

end

/-- What a use that raises SLOT_ORDER leaves: memory and claims as they were, the trap registers, the count, the
interrupt and the record (R275, R282). -/
def OrderTrapped (s : State) (req h gen kind cause : Nat) (t : State) : Prop :=
  t.mem = s.mem ∧ t.ora.claims = s.ora.claims ∧
    t.getF .ora 0x5C 11 0 = h ∧ t.getF .ora 0x5C 14 12 = cause ∧ t.getF .ora 0x5C 23 16 = gen ∧
    t.getF .ora 0x5C 31 24 = (s.slot h).gen ∧ t.getF .ora 0x60 1 0 = (s.slot h).state ∧ t.getF .ora 0x60 5 4 = kind ∧
    t.getF .ora 0x60 15 8 = req ∧ t.getN .ora 0x58 = min (s.getN .ora 0x58 + 1) 0xFFFFFFFF ∧
    t.getB .ora offRaw 8 = true ∧ Raised s t [(0x1200, 0x1240, 0)] ∧
    SameRegs [Blk.at .ora 0x58, Blk.at .ora 0x5C, Blk.at .ora 0x60, Blk.at .ora offRaw, Blk.at .ora offErrcnt] s t

theorem slotOrder_trapped {req h gen kind cause : Nat} (op : Nat) (s : State) (hh : h < 4096) (hg : gen < 256)
    (hk : kind ≤ 2) (hr : req < 256) (hc : cause < 8) :
    OrderTrapped s req h gen kind cause (slotOrder req h gen kind cause op s) := by
  have htrap := (slotOrder_reg req h gen kind cause op s (a := Blk.at .ora 0x5C) (by decide) (by decide)).trans
    (loadTrap_trap req h gen kind cause s)
  have htrap2 := (slotOrder_reg req h gen kind cause op s (a := Blk.at .ora 0x60) (by decide) (by decide)).trans
    (loadTrap_trap2 req h gen kind cause s)
  have hcnt := (congrArg BitVec.toNat
    (slotOrder_reg req h gen kind cause op s (a := Blk.at .ora 0x58) (by decide) (by decide))).trans
    (loadTrap_count req h gen kind cause s)
  obtain ⟨hhandle, hcause, hgen, hslotGen⟩ := trapWord_fields (s.slot h) hh hg hc
  obtain ⟨hstate, hkind, hreq⟩ := trapWord2_fields (s.slot h) hk hr
  rw [← htrap] at hhandle hcause hgen hslotGen
  rw [← htrap2] at hstate hkind hreq
  obtain ⟨hmem, hclaims, hraised⟩ := slotOrder_frame req h gen kind cause op s
  refine ⟨hmem, hclaims, hhandle, hcause, hgen, hslotGen, hstate, hkind, hreq, hcnt, slotOrder_irq .., hraised,
    fun a ha => ?_⟩
  simp only [List.mem_cons, List.not_mem_nil, or_false, not_or] at ha
  obtain ⟨h58, h5C, h60, hraw, herr⟩ := ha
  exact (slotOrder_reg _ _ _ _ _ _ _ herr hraw).trans (loadTrap_reg _ _ _ _ _ _ h58 h5C h60)

/-! ### Accepted uses -/

/-- A WRITE of an EMPTY slot makes it FILLING for the agent, whose claim fills it (R276). -/
theorem useAccept_write_empty {s : State} {h : Nat} (agent : Nat) (hst : (s.slot h).state = 0) :
    ∃ c : Claim, c.agent = agent ∧ c.handle = h ∧ c.fill = true ∧ useAccept agent h 2 s =
      (s.updSlot h (s.slot h).w0 (setFld (setFld (s.slot h).w1 1 0 1) 31 24 agent) (s.slot h).w2).putClaim c := by
  obtain ⟨hagent, hhandle⟩ := claimFor_key s agent h
  refine ⟨{ s.claimFor agent h with fill := true }, hagent, hhandle, rfl, ?_⟩
  simp only [useAccept, hst, if_true]
  rfl

/-- A READ or RELEASE holds the slot unless the agent's claim does already, and the claim reads from then on (R276). -/
theorem useAccept_read {kind : Nat} (agent h : Nat) (s : State) (hk : kind ≠ 2) :
    ∃ c : Claim, c.agent = agent ∧ c.handle = h ∧ c.reads = true ∧ useAccept agent h kind s =
      (if (s.claimFor agent h).reads then s
        else s.updSlot h (s.slot h).w0 (w1Add (s.slot h).w1 15 12) (s.slot h).w2).putClaim c := by
  obtain ⟨hagent, hhandle⟩ := claimFor_key s agent h
  refine ⟨{ s.claimFor agent h with
    reads := true
    release := (s.claimFor agent h).release || (decide (kind = 1) && decide ((s.slot h).drains ≠ 0)) },
    hagent, hhandle, rfl, ?_⟩
  exact if_neg hk

/-- An accepted use changes the slot table and the claims, no byte of memory and no register. -/
theorem useAccept_frame (agent h kind : Nat) (s : State) :
    (useAccept agent h kind s).mem = s.mem ∧ (useAccept agent h kind s).regs = s.regs := by
  simp only [useAccept]
  split <;> split <;> exact ⟨rfl, rfl⟩

/-- STATE and FILLER of a slot that an agent starts to fill. -/
theorem fillingFields (w : Word) {agent : Nat} (ha : agent < 256) :
    fld (setFld (setFld w 1 0 1) 31 24 agent) 1 0 = 1 ∧ fld (setFld (setFld w 1 0 1) 31 24 agent) 31 24 = agent := by
  refine ⟨?_, ?_⟩
  · rw [fld_setFld_other _ _ _ _ _ _ (by decide)]
    exact fld_setFld_same _ _ _ _ (by decide)
  · rw [fld_setFld_same _ _ _ _ (by decide)]
    exact Nat.mod_eq_of_lt ha

/-- One more holder leaves STATE and RELEASED alone. -/
theorem moreHoldersFields (w : Word) (hlt : fld w 15 12 < 15) :
    fld (w1Add w 15 12) 1 0 = fld w 1 0 ∧ fld (w1Add w 15 12) 11 8 = fld w 11 8 ∧
      fld (w1Add w 15 12) 15 12 = fld w 15 12 + 1 := by
  refine ⟨fld_setFld_other _ _ _ _ _ _ (by decide), fld_setFld_other _ _ _ _ _ _ (by decide), ?_⟩
  rw [w1Add, fld_setFld_same _ _ _ _ (by decide)]
  exact Nat.mod_eq_of_lt (by omega)

/-- What an accepted WRITE of an EMPTY slot leaves. -/
theorem useAccept_write_fills {s : State} {agent h : Nat} (ha : agent < 256) (hst : (s.slot h).state = 0) :
    let t := useAccept agent h 2 s
    (t.slot h).state = 1 ∧ (t.slot h).filler = agent ∧ (t.slot h).w0 = (s.slot h).w0 ∧ t.mem = s.mem ∧ t.regs = s.regs ∧
      (t.claim? agent h).map (·.fill) = some true := by
  obtain ⟨hstate, hfiller⟩ := fillingFields (s.slot h).w1 ha
  obtain ⟨hmem, hregs⟩ := useAccept_frame agent h 2 s
  obtain ⟨c, hagent, hhandle, hfill, ht⟩ := useAccept_write_empty agent hst
  intro t
  have hslot : t.slot h = _ := (congrArg (·.slot h) ht).trans (slot_updSlot_same ..)
  have hclaim : t.claim? agent h = some c := (congrArg (·.claim? agent h) ht).trans (claim?_putClaim_same hagent hhandle)
  rw [hslot, hclaim]
  exact ⟨hstate, hfiller, rfl, hmem, hregs, congrArg some hfill⟩

/-- What an accepted READ or RELEASE leaves. -/
theorem useAccept_read_holds {s : State} {agent h kind : Nat} (hk : kind ≠ 2) (hlt : (s.slot h).holders < 15) :
    let t := useAccept agent h kind s
    (t.slot h).state = (s.slot h).state ∧ (t.slot h).released = (s.slot h).released ∧
      (t.slot h).holders = (s.slot h).holders + (if (s.claim? agent h).elim false (·.reads) then 0 else 1) ∧
      (t.slot h).w0 = (s.slot h).w0 ∧ t.mem = s.mem ∧ t.regs = s.regs ∧
      (t.claim? agent h).map (·.reads) = some true := by
  obtain ⟨hmem, hregs⟩ := useAccept_frame agent h kind s
  obtain ⟨c, hagent, hhandle, hreads, ht⟩ := useAccept_read agent h s hk
  intro t
  have hclaim : t.claim? agent h = some c := (congrArg (·.claim? agent h) ht).trans (claim?_putClaim_same hagent hhandle)
  rw [hclaim, ← claimFor_reads]
  by_cases hr : (s.claimFor agent h).reads = true
  · rw [if_pos hr] at ht ⊢
    have hslot : t.slot h = s.slot h := congrArg (·.slot h) ht
    rw [hslot]
    exact ⟨rfl, rfl, rfl, rfl, hmem, hregs, congrArg some hreads⟩
  · obtain ⟨hstate, hreleased, hholders⟩ := moreHoldersFields (s.slot h).w1 hlt
    rw [if_neg hr] at ht ⊢
    have hslot : t.slot h = _ := (congrArg (·.slot h) ht).trans (slot_updSlot_same ..)
    rw [hslot]
    exact ⟨hstate, hreleased, hholders, rfl, hmem, hregs, congrArg some hreads⟩

/-! ### The obligation -/

/-- Settles O29: `useCause_sound` gives the order of the conditions, `slotOrder_trapped` what the first that holds leaves,
and the two lemmas on accepted uses what happens with none. -/
theorem handleUsesAreCheckedInOrder : Obligations.HandleUsesAreCheckedInOrder := by
  intro s agent req h gen kind off len op hen hh hg hk ha hreq e r full mine fails good
  have hrefused {cause : Nat} (hc : useCause s agent h gen kind off len = some cause) :
      r = (slotOrder req h gen kind cause op s, false) := handleUse_refused hc
  have haccepted (hc : useCause s agent h gen kind off len = none) : r = (useAccept agent h kind s, true) :=
    handleUse_accepted hc
  have hfails {cause : Nat} (hlt : cause < 8) (hc : useCause s agent h gen kind off len = some cause) : fails cause := by
    simp only [fails, hrefused hc]
    exact ⟨trivial, slotOrder_trapped op s hh hg hk hreq hlt⟩
  have hsound (hgood : good) :=
    useCause_sound (agent := agent) (gen := gen) (kind := kind) (off := off) (len := len) hen hgood
  refine ⟨fun hv => ?invalid, fun hv hck => ?check, fun hgood hsize => ?bounds, fun hgood hfit hkind hst => ?unfilled,
    fun hgood hfit hkind hst hmine => ?undrained, fun hgood hfit hok hgen => ?stale, fun hgood hfit hgen hkind hst => ?write,
    fun hgood hfit hgen hkind hst hfull hlt => ?read⟩
  case invalid => exact hfails (by decide) (useCause_invalid hv)
  case check =>
    have hc : useCause s agent h gen kind off len = some 6 := useCause_check hen hv hck
    refine ⟨hfails (by decide) hc, ?_⟩
    rw [hrefused hc]
    exact slotOrder_check_clears_valid ..
  case bounds => exact hfails (by decide) ((hsound hgood).trans (if_pos hsize))
  case unfilled =>
    refine hfails (by decide) ((hsound hgood).trans ?_)
    rw [if_neg (Nat.not_lt.2 hfit), if_pos ⟨hkind, hst⟩]
  case undrained =>
    refine hfails (by decide) ((hsound hgood).trans ?_)
    rw [if_neg (Nat.not_lt.2 hfit), if_neg (fun hx => hx.1 hkind), if_pos ⟨hkind, hst, hmine⟩]
  case stale =>
    have hread : ¬ (kind ≠ 2 ∧ (e.state ≤ 1 ∨ e.allReleased)) := by
      rintro ⟨hne, hbad⟩
      obtain ⟨-, hst, hfull⟩ | ⟨heq, -⟩ := hok
      · exact hbad.elim (Nat.not_le.2 hst) hfull
      · exact hne heq
    have hwrite : ¬ (kind = 2 ∧ e.state ≠ 0 ∧ ¬ s.fillsFor agent h) := by
      rintro ⟨heq, hne, hnot⟩
      obtain ⟨hkind, -⟩ | ⟨-, hfree⟩ := hok
      · exact hkind heq
      · exact hfree.elim hne hnot
    refine hfails (by decide) ((hsound hgood).trans ?_)
    rw [if_neg (Nat.not_lt.2 hfit), if_neg hread, if_neg hwrite, if_pos hgen]
  case write =>
    subst hkind
    have hc : useCause s agent h gen 2 off len = none := by
      rw [hsound hgood, if_neg (Nat.not_lt.2 hfit), if_neg (fun hx => hx.1 rfl), if_neg (fun hx => hx.2.1 hst),
        if_neg (not_not_intro hgen)]
    rw [haccepted hc]
    exact ⟨rfl, useAccept_write_fills ha hst⟩
  case read =>
    have hc : useCause s agent h gen kind off len = none := by
      rw [hsound hgood, if_neg (Nat.not_lt.2 hfit), if_neg (fun hx => hx.2.elim (Nat.not_le.2 hst) hfull),
        if_neg (fun hx => hkind hx.1), if_neg (not_not_intro hgen)]
    rw [haccepted hc]
    exact ⟨rfl, useAccept_read_holds hkind hlt⟩

end Sys2Proof.Machine

/-! Error records: how they enter the ERR queue, are mirrored to Q104, popped, staged and injected (R959-R977). -/

namespace Sys2Proof.Machine

/-! ### Commands -/

/-- The parts of the state that `run` keeps whatever its effect does are as they were. -/
def KeepsRun (s t : State) : Prop := t.time = s.time ∧ t.part = s.part ∧ t.pending = s.pending

theorem KeepsRun.trans {s t u : State} (h1 : KeepsRun s t) (h2 : KeepsRun t u) : KeepsRun s u :=
  ⟨h2.1.trans h1.1, h2.2.1.trans h1.2.1, h2.2.2.trans h1.2.2⟩

/-- A command with the effect `X`. -/
theorem completes_keeping {c : Instr} {s X : State} {f : State → State} {P : State → Prop} (hx : exec c s = run f s)
    (hf : f (withResp Resp.init s) = X) (hk : KeepsRun s X) (hp : P { X with seq := s.seq + 1 }) : Completes c s P := by
  obtain ⟨htime, hpart, hpend⟩ := hk
  refine completes_run hx ?_
  change P { f (withResp Resp.init s) with time := s.time, part := s.part, seq := s.seq + 1, pending := s.pending }
  rw [hf, ← htime, ← hpart, ← hpend]
  exact hp

/-- A command that comes to a rejected write (R56). -/
theorem completes_rejected {c : Instr} {s : State} {f : State → State} {m : Master} {b : Blk} {off code : Nat}
    (hx : exec c s = run f s) (hf : f (withResp Resp.init s) = rejectBy m b off code (withResp Resp.init s)) :
    Completes c s (Rejected s m b off code) := by
  have hframe := rejectBy_frame m b off code s
  refine completes_regs (R := (rejectBy m b off code s).regs) hx ?_ ?_
  · rw [hf, rejectBy_withResp, hframe]
    rfl
  · change _ = { rejectBy m b off code s with resp := Resp.init, seq := s.seq + 1 }
    rw [hframe]

/-- A rejected write touches no register but the three marks and HP_STAT. -/
theorem rejectBy_reg (m : Master) (b : Blk) (off code : Nat) (s : State) {a : Nat} (hcnt : a ≠ b.at offErrcnt)
    (hraw : a ≠ b.at offRaw) (hreason : a ≠ b.at offReason) (hstat : a ≠ Blk.at .hport 0x44) :
    (rejectBy m b off code s).reg a = s.reg a := by
  unfold rejectBy
  split
  · rw [hpSet, setB_reg _ _ _ _ _ _ hstat, reject_reg _ _ _ _ _ hcnt hraw hreason]
  · exact reject_reg _ _ _ _ _ hcnt hraw hreason

/-- What a rejected write leaves alone: the checking hardware, and every register but its marks (R56, R118). -/
theorem Rejected.keeps {s t : State} {m : Master} {b : Blk} {off code : Nat} (h : Rejected s m b off code t) :
    t.check = s.check ∧ ∀ a, a ≠ b.at offErrcnt → a ≠ b.at offRaw → a ≠ b.at offReason → a ≠ Blk.at .hport 0x44 →
      t.reg a = s.reg a := by
  have hframe := rejectBy_frame m b off code s
  have ht : t = { rejectBy m b off code s with resp := t.resp, seq := s.seq + 1 } := h
  refine ⟨?_, fun a hcnt hraw hreason hstat => ?_⟩
  · rw [ht, hframe]
  · rw [ht]
    exact rejectBy_reg m b off code s hcnt hraw hreason hstat

/-- A register that counted one more. -/
theorem getN_count_same (s : State) (b : Blk) (off : Nat) :
    (s.count b off 1).getN b off = min (s.getN b off + 1) 0xFFFFFFFF := by
  rw [count_eq, getN_setN_same, satAdd]
  omega

/-! ### Writes of the ERR page -/

/-- `u` differs from `s` in nothing that the commands of the ERR page judge a write by: the checking hardware and the
writer's domain. -/
def SameCheck (m : Master) (s u : State) : Prop := u.check = s.check ∧ m.dom u = m.dom s

/-- The answer of the command before is no part of it. -/
theorem sameCheck_withResp (m : Master) (s : State) (r : Resp) : SameCheck m s (withResp r s) :=
  ⟨rfl, by cases m <;> rfl⟩

/-- Nor is the port's count of rejections (R118). -/
theorem sameCheck_setErrcnt (s : State) (n : Nat) : SameCheck .xspi s (s.setF .err offErrcnt 15 0 n) := ⟨rfl, rfl⟩

/-- The registers of the ERR page behind the page header. -/
abbrev ErrOff (off : Nat) : Prop := off < 0x1000 ∧ off ≠ offCtrl ∧ off ≠ offOwner ∧ off ≠ offKey

/-- The effect of an applied write of the ERR page. -/
theorem applyReg_err {off : Nat} (ho : ErrOff off) (m : Master) (v mask : Word) (s : State) :
    applyReg m .err off v mask s = errStore m off v mask s := by
  obtain ⟨-, hctrl, howner, hkey⟩ := ho
  simp only [applyReg, storeCtl, hctrl, howner, hkey, if_false]

section
variable {s : State} {m : Master} {off code : Nat} {v mask : Word}

/-- An applied write of the ERR page whose effect rejects it. -/
theorem writeAt_err_of_rejects (ha : Applies s m .err off v mask) (ho : ErrOff off)
    (hw : ∀ u, SameCheck m s u → errStore m off v mask u = u.reject .err off code) :
    writeAt m .err off v s = rejectBy m .err off code s := by
  have hs : applyReg m .err off v mask s = s.reject .err off code := by rw [applyReg_err ho, hw s ⟨rfl, rfl⟩]
  by_cases hm : m = .xspi
  · subst hm
    refine (writeAt_rejects_xspi rfl ho.1 ha ?_).trans (congrArg (hpSet 4) hs)
    rw [applyReg_err ho, hw _ (sameCheck_setErrcnt s 0)]
    exact reject_errcnt_ne_zero _ _ _ _
  · exact (writeAt_applies rfl ho.1 hm ha).trans (hs.trans (if_neg hm).symm)

/-- An applied write of the ERR page whose effect, where the port writes, counts no rejection. -/
theorem writeAt_err_of_keeps (ha : Applies s m .err off v mask) (ho : ErrOff off)
    (hw : m = .xspi → ∀ u, SameCheck m s u →
      (errStore m off v mask u).reg (Blk.at .err offErrcnt) = u.reg (Blk.at .err offErrcnt)) :
    writeAt m .err off v s = errStore m off v mask s := by
  by_cases hm : m = .xspi
  · subst hm
    refine (writeAt_applies_xspi rfl ho.1 ha ?_).trans (applyReg_err ho ..)
    rw [applyReg_err ho, State.getF, get_eq, hw rfl _ (sameCheck_setErrcnt s 0)]
    exact getF_setF_same s .err offErrcnt 15 0 0 (by decide)
  · exact (writeAt_applies rfl ho.1 hm ha).trans (applyReg_err ho ..)

/-- A command that writes a register of the ERR page and is rejected. -/
theorem completes_errReject {c : Instr} (hx : exec c s = run (writeAt m .err off v) s) (ha : Applies s m .err off v mask)
    (ho : ErrOff off) (hw : ∀ u, SameCheck m s u → errStore m off v mask u = u.reject .err off code) :
    Completes c s (Rejected s m .err off code) := by
  refine completes_rejected hx (writeAt_err_of_rejects ((judge_withResp s _ _).trans ha) ho fun u hu => hw u ?_)
  exact ⟨hu.1, hu.2.trans (sameCheck_withResp m s _).2⟩

/-- A command that writes a register of the ERR page and is carried out. -/
theorem completes_errStore {c : Instr} {X : State} {P : State → Prop} (hx : exec c s = run (writeAt m .err off v) s)
    (ha : Applies s m .err off v mask) (ho : ErrOff off)
    (hw : m = .xspi → ∀ u, SameCheck m s u →
      (errStore m off v mask u).reg (Blk.at .err offErrcnt) = u.reg (Blk.at .err offErrcnt))
    (hX : errStore m off v mask (withResp Resp.init s) = X) (hk : KeepsRun s X) (hp : P { X with seq := s.seq + 1 }) :
    Completes c s P := by
  refine completes_keeping hx ?_ hk hp
  refine (writeAt_err_of_keeps ((judge_withResp s _ _).trans ha) ho fun hm u hu => hw hm u ?_).trans hX
  exact ⟨hu.1, hu.2.trans (sameCheck_withResp m s _).2⟩

end

/-! ### The queue (R961, R966, R967) -/

/-- What R966 compares of a record. -/
abbrev ErrRec.Like (q x : ErrRec) : Prop := x.unit = q.unit ∧ x.code = q.code ∧ x.op = q.op ∧ x.cls = q.cls

/-- A record that needs an entry gets one: 56 for any record, 64 for PERMANENT and LATENT ones (R967). -/
abbrev RecFits (queue : List ErrRec) (q : ErrRec) : Prop :=
  queue.length < 56 ∨ (queue.length < 64 ∧ (q.cls % 8 = 1 ∨ q.cls % 8 = 2))

theorem same_iff_like (q x : ErrRec) : x.same q = true ↔ q.Like x := by
  simp only [ErrRec.same, Bool.and_eq_true, beq_iff_eq, and_assoc]

theorem recDropped_iff (queue : List ErrRec) (q : ErrRec) : recDropped queue q = true ↔ ¬ RecFits queue q := by
  simp only [recDropped, clsPermanent, clsLatent, Bool.or_eq_true, Bool.and_eq_true, Bool.not_eq_true', Bool.or_eq_false_iff,
    beq_eq_false_iff_ne, decide_eq_true_eq]
  omega

/-- The UNTESTED flag as the statement writes it (R961). -/
theorem flagged_eq (s : State) (r : ErrRec) :
    flagged s r = { r with cls := r.cls % 128 + (if s.untested then 128 else 0) } := by
  unfold flagged
  cases s.untested <;> rfl

/-- A merge goes into the first identical record and leaves the others alone (R966). -/
theorem mergeRec_append {q x : ErrRec} {a : List ErrRec} (b : List ErrRec) (ha : ∀ y ∈ a, ¬ q.Like y) (hx : q.Like x) :
    mergeRec q (a ++ x :: b) = a ++ { x with rpt := min (x.rpt + 1) 255 } :: b := by
  induction a with
  | nil => exact if_pos ((same_iff_like q x).2 hx)
  | cons y a ih =>
    have hy : ¬ y.same q = true := mt (same_iff_like q y).1 (ha y List.mem_cons_self)
    rw [List.cons_append, mergeRec, if_neg hy, ih fun z hz => ha z (List.mem_cons_of_mem _ hz), List.cons_append]

/-- The record joins the queue, and its mirror entry is due (R969). -/
def addRec (q : ErrRec) (s : State) : State :=
  onCheck (fun k => { k with queue := k.queue ++ [q], mirror := k.mirror ++ [q] }) s

/-- A dropped record leaves its three marks (R967). -/
def dropRec (s : State) : State := ((s.count .err 0x44 1).setB .err 0x40 8 true).irq .err 9

/-- The record merges into the first identical one (R966). -/
def mergeInto (q : ErrRec) (s : State) : State := onCheck (fun k => { k with queue := mergeRec q k.queue }) s

section
variable {r : ErrRec} {s : State}

theorem any_same_iff (q : ErrRec) (queue : List ErrRec) : queue.any (·.same q) = true ↔ ∃ y ∈ queue, q.Like y := by
  simp only [List.any_eq_true, same_iff_like]

theorem enterRec_merges (h : ∃ y ∈ s.check.queue, (flagged s r).Like y) : enterRec r s = mergeInto (flagged s r) s :=
  if_pos ((any_same_iff _ _).2 h)

theorem enterRec_fresh (h : ∀ y ∈ s.check.queue, ¬ (flagged s r).Like y) :
    enterRec r s =
      if recDropped s.check.queue (flagged s r) then dropRec s
      else if (flagged s r).cls % 8 = clsPermanent then (addRec (flagged s r) s).irq .err 10 else addRec (flagged s r) s :=
  if_neg fun hany => by
    obtain ⟨y, hy, hlike⟩ := (any_same_iff _ _).1 hany
    exact h y hy hlike

/-- Entering a record touches no register but ERR_STAT, ERR_LOST and PG_IRQ_RAW. -/
theorem enterRec_reg (r : ErrRec) (s : State) {a : Nat} (hstat : a ≠ Blk.at .err 0x40) (hlost : a ≠ Blk.at .err 0x44)
    (hraw : a ≠ Blk.at .err offRaw) : (enterRec r s).reg a = s.reg a := by
  by_cases h : ∃ y ∈ s.check.queue, (flagged s r).Like y
  · rw [enterRec_merges h]
    rfl
  · rw [enterRec_fresh fun y hy hlike => h ⟨y, hy, hlike⟩]
    split
    · rw [dropRec, irq_reg _ _ _ _ hraw, setB_reg _ _ _ _ _ _ hstat, count_eq, setN_reg _ _ _ _ _ hlost]
    · split
      · exact irq_reg _ _ _ _ hraw
      · rfl

/-- Entering a record is no matter of time, part or queue of commands. -/
theorem enterRec_keepsRun (r : ErrRec) (s : State) : KeepsRun s (enterRec r s) := by
  by_cases h : ∃ y ∈ s.check.queue, (flagged s r).Like y
  · rw [enterRec_merges h]
    exact ⟨rfl, rfl, rfl⟩
  · rw [enterRec_fresh fun y hy hlike => h ⟨y, hy, hlike⟩]
    split
    · exact ⟨rfl, rfl, rfl⟩
    · split <;> exact ⟨rfl, rfl, rfl⟩

end

/-! What the entry of a record leaves, the checking hardware being `k` before it. -/

/-- A merged record. -/
def Merged (s : State) (k : CheckSt) (a : List ErrRec) (x : ErrRec) (b : List ErrRec) (t : State) : Prop :=
  t.check = { k with queue := a ++ { x with rpt := min (x.rpt + 1) 255 } :: b } ∧ t.regs = s.regs ∧ t.mem = s.mem

/-- A record with an entry of its own. -/
def Added (s : State) (k : CheckSt) (q : ErrRec) (t : State) : Prop :=
  t.check = { k with queue := k.queue ++ [q], mirror := k.mirror ++ [q] } ∧
    (q.cls % 8 = 1 → t.getB .err offRaw 10 = true) ∧ SameRegs [Blk.at .err offRaw] s t ∧ t.mem = s.mem

/-- A dropped record. -/
def Dropped (s : State) (k : CheckSt) (t : State) : Prop :=
  t.check = k ∧ t.getN .err 0x44 = min (s.getN .err 0x44 + 1) 0xFFFFFFFF ∧ t.getB .err 0x40 8 = true ∧
    t.getB .err offRaw 9 = true ∧ SameRegs [Blk.at .err 0x40, Blk.at .err 0x44, Blk.at .err offRaw] s t ∧ t.mem = s.mem

/-- The marks of a drop. -/
theorem dropRec_dropped (s : State) : Dropped s s.check (dropRec s) := by
  refine ⟨rfl, ?lost, ?stat, getB_setB_same _ _ _ _ _ (by decide), fun a ha => ?frame, rfl⟩
  case lost =>
    have hcount : (dropRec s).getN .err 0x44 = (s.count .err 0x44 1).getN .err 0x44 := by
      simp only [dropRec, State.getN, get_eq]
      rw [irq_reg _ _ _ _ (by decide), setB_reg _ _ _ _ _ _ (by decide)]
    rw [hcount, getN_count_same]
  case stat =>
    rw [State.getB, get_eq, dropRec, irq_reg _ _ _ _ (by decide)]
    exact getB_setB_same _ _ _ _ _ (by decide)
  case frame =>
    simp only [List.mem_cons, List.not_mem_nil, or_false, not_or] at ha
    obtain ⟨hstat, hlost, hraw⟩ := ha
    rw [dropRec, irq_reg _ _ _ _ hraw, setB_reg _ _ _ _ _ _ hstat, count_eq, setN_reg _ _ _ _ _ hlost]

section
variable {r : ErrRec} {s : State}

theorem enterRec_merged {x : ErrRec} {a b : List ErrRec} (hqueue : s.check.queue = a ++ x :: b)
    (ha : ∀ y ∈ a, ¬ (flagged s r).Like y) (hx : (flagged s r).Like x) : Merged s s.check a x b (enterRec r s) := by
  have hmem : x ∈ s.check.queue := hqueue ▸ List.mem_append_right a List.mem_cons_self
  have hmerge := hqueue ▸ mergeRec_append b ha hx
  rw [enterRec_merges ⟨x, hmem, hx⟩]
  exact ⟨congrArg (fun l => { s.check with queue := l }) hmerge, rfl, rfl⟩

theorem enterRec_added (hfresh : ∀ y ∈ s.check.queue, ¬ (flagged s r).Like y)
    (hfits : RecFits s.check.queue (flagged s r)) : Added s s.check (flagged s r) (enterRec r s) := by
  have hroom : ¬ recDropped s.check.queue (flagged s r) = true := fun h => (recDropped_iff _ _).1 h hfits
  rw [enterRec_fresh hfresh, if_neg hroom]
  by_cases hperm : (flagged s r).cls % 8 = clsPermanent
  · rw [if_pos hperm]
    exact ⟨rfl, fun _ => getB_setB_same _ _ _ _ _ (by decide),
      fun a ha => irq_reg _ _ _ _ (mt List.mem_singleton.2 ha), rfl⟩
  · rw [if_neg hperm]
    exact ⟨rfl, fun h => absurd h hperm, fun _ _ => rfl, rfl⟩

theorem enterRec_dropped (hfresh : ∀ y ∈ s.check.queue, ¬ (flagged s r).Like y)
    (hfull : ¬ RecFits s.check.queue (flagged s r)) : Dropped s s.check (enterRec r s) := by
  rw [enterRec_fresh hfresh, if_pos ((recDropped_iff _ _).2 hfull)]
  exact dropRec_dropped s

end

/-- The state in which a command enters a record, the checking hardware being `k` by then. -/
def entering (s : State) (k : CheckSt) : State := { s with check := k, resp := Resp.init }

/-- What a command leaves that enters a record there. -/
def entered (s : State) (k : CheckSt) (r : ErrRec) : State := { enterRec r (entering s k) with seq := s.seq + 1 }

/-- A command that enters a record: the three outcomes (R966, R967). -/
theorem completes_entry {c : Instr} {s : State} {k : CheckSt} {r : ErrRec} (hc : Completes c s (· = entered s k r)) :
    (∀ a x b, k.queue = a ++ x :: b → (∀ y ∈ a, ¬ (flagged s r).Like y) → (flagged s r).Like x →
      Completes c s (Merged s k a x b)) ∧
    ((∀ y ∈ k.queue, ¬ (flagged s r).Like y) → RecFits k.queue (flagged s r) →
      Completes c s (Added s k (flagged s r))) ∧
    ((∀ y ∈ k.queue, ¬ (flagged s r).Like y) → ¬ RecFits k.queue (flagged s r) → Completes c s (Dropped s k)) := by
  refine ⟨fun a x b hqueue ha hx => hc.imp ?_, fun hfresh hfits => hc.imp ?_, fun hfresh hfull => hc.imp ?_⟩ <;>
    rintro _ rfl
  · exact enterRec_merged (s := entering s k) hqueue ha hx
  · exact enterRec_added (s := entering s k) hfresh hfits
  · exact enterRec_dropped (s := entering s k) hfresh hfull

/-! ### ERROR_RECORD_ENTRY and RAISE_GO (R964, R971) -/

/-- One record raised is the next to enter. -/
theorem recordEntryAt_one {s : State} {g : Nat} {r : ErrRec} (h : s.check.raised = [(g, r)]) :
    recordEntryAt s = enterRec r (onCheck (fun k => { k with raised := [] }) s) := by
  have hnext : nextRaised s.check.raised = some (g, r) := by rw [h]; rfl
  have herase : s.check.raised.erase (g, r) = [] := by rw [h, List.erase_cons_head]
  simp only [recordEntryAt, hnext, onCheck, herase]

/-- With nothing raised there is nothing to enter. -/
theorem recordEntryAt_none {s : State} (h : s.check.raised = []) : recordEntryAt s = s := by
  simp only [recordEntryAt, h, nextRaised]

section
variable {s : State} {r : ErrRec} {m : Master} {v mask : Word}

theorem errorRecordEntry_enters {g : Nat} (h : s.check.raised = [(g, r)]) :
    Completes .errorRecordEntry s (· = entered s { s.check with raised := [] } r) :=
  completes_keeping rfl (recordEntryAt_one h) (enterRec_keepsRun r (entering s _)) rfl

theorem errorRecordEntry_idle (h : s.check.raised = []) : Completes .errorRecordEntry s (Unchanged s) :=
  completes_keeping rfl (recordEntryAt_none h) ⟨rfl, rfl, rfl⟩ rfl

/-- RAISE_GO: the class, the UNIT range, the entry (R971). -/
theorem errStore_raiseGo (hv : bit v 0 = true) (u : State) :
    errStore m 0x90 v mask u =
      let r := recOfBytes (u.stagedBytes m.code)
      if 5 ≤ r.cls % 8 then u.rejectD .err 0x90 0x02
      else if !raiseMay (m.dom u) r.unit then u.reject .err 0x90 0x0720
      else enterRec r u := by
  change raiseGoAt m v u = _
  rw [raiseGoAt, hv]
  rfl

/-- The staged record is part of the checking hardware. -/
theorem SameCheck.stagedBytes_eq {u : State} (h : SameCheck m s u) (n : Nat) : u.stagedBytes n = s.stagedBytes n := by
  simp only [State.stagedBytes, h.1]

theorem raiseGo_reservedClass (ha : Applies s m .err 0x90 v mask) (hv : bit v 0 = true)
    (hr : recOfBytes (s.stagedBytes m.code) = r) (hcls : 5 ≤ r.cls % 8) :
    Completes (.raiseGo m v) s (fun t => t.check = s.check ∧ t.getN .err 0x44 = s.getN .err 0x44) := by
  have hw (u : State) (hu : SameCheck m s u) : errStore m 0x90 v mask u = u.reject .err 0x90 0x0702 := by
    simp only [errStore_raiseGo hv, hu.stagedBytes_eq, hr, if_pos hcls]
    rfl
  refine (completes_errReject rfl ha (by decide) hw).imp fun t ht => ?_
  obtain ⟨hcheck, hreg⟩ := ht.keeps
  exact ⟨hcheck, congrArg BitVec.toNat (hreg _ (by decide) (by decide) (by decide) (by decide))⟩

theorem raiseGo_otherUnit (ha : Applies s m .err 0x90 v mask) (hv : bit v 0 = true)
    (hr : recOfBytes (s.stagedBytes m.code) = r) (hcls : r.cls % 8 < 5) (hunit : raiseMay (m.dom s) r.unit = false) :
    Completes (.raiseGo m v) s (Rejected s m .err 0x90 0x0720) := by
  refine completes_errReject rfl ha (by decide) fun u hu => ?_
  simp only [errStore_raiseGo hv, hu.stagedBytes_eq, hu.2, hr, if_neg (Nat.not_le.2 hcls), hunit, Bool.not_false, if_true]

theorem raiseGo_enters (ha : Applies s m .err 0x90 v mask) (hv : bit v 0 = true)
    (hr : recOfBytes (s.stagedBytes m.code) = r) (hcls : r.cls % 8 < 5) (hunit : raiseMay (m.dom s) r.unit = true) :
    Completes (.raiseGo m v) s (· = entered s s.check r) := by
  have henters (u : State) (hu : SameCheck m s u) : errStore m 0x90 v mask u = enterRec r u := by
    simp only [errStore_raiseGo hv, hu.stagedBytes_eq, hu.2, hr, if_neg (Nat.not_le.2 hcls), hunit, Bool.not_true,
      Bool.false_eq_true, if_false]
  refine completes_errStore rfl ha (by decide) (fun _ u hu => ?_) (henters _ (sameCheck_withResp m s _))
    (enterRec_keepsRun r (entering s _)) rfl
  rw [henters u hu, enterRec_reg r u (by decide) (by decide) (by decide)]

end

/-! ### Mirror (R969, R970) -/

/-- Bytes just stored read back, and no other byte changes. -/
theorem stored_bytes {s t : State} {a n : Nat} {l : List Byte} (h : t.mem = putBytes s.mem a l) (hn : l.length = n) :
    t.bytes a n = l ∧ SameMem a n s t := by
  subst hn
  have hlen : (t.bytes a l.length).length = l.length := by simp only [State.bytes, List.length_map, List.length_range]
  refine ⟨List.ext_getElem hlen fun i _ hi => ?_, fun x hx => ?_⟩
  · simp only [State.bytes, List.getElem_map, List.getElem_range, State.byte, h, putBytes_get_in _ _ _ _ hi,
      Option.getD_some]
  · rw [h]
    exact putBytes_get_out _ _ _ _ hx

/-- Bytes stored by a command read back after it, whatever the counter of free values is then. -/
theorem stored_bytes_after {s t : State} {a n : Nat} {l : List Byte} (h : t.mem = putBytes s.mem a l) (hn : l.length = n)
    (k : Nat) : State.bytes { t with seq := k } a n = l ∧ SameMem a n s t := stored_bytes (t := { t with seq := k }) h hn

theorem leBytes_length (n k : Nat) : (leBytes n k).length = k := by
  simp only [leBytes, List.length_map, List.length_range]

theorem eventEntry_length (r : ErrRec) : (eventEntry r).length = 16 := by
  simp only [eventEntry, withCheck, List.length_append, leBytes_length, List.length_cons, List.length_nil]

theorem ErrRec.bytes_length (r : ErrRec) : r.bytes.length = 32 := by
  simp only [ErrRec.bytes, pad10, List.length_append, leBytes_length, List.length_take, List.length_replicate]
  omega

/-- A ring has at most 2^15 entries. -/
theorem rgN_le (s : State) (q : Nat) : s.rgN q ≤ 2 ^ 15 := by
  have := fld_lt (s.rg q 0x08) 3 0
  exact Nat.pow_le_pow_right (by decide) (by omega)

/-- Registers of one ring. -/
theorem rg_setRg_other (s : State) (q : Nat) {r r' : Nat} (w : Word) (h : r' ≠ r) : (s.setRg q r w).rg q r' = s.rg q r' :=
  get_set_off _ _ _ _ _ (by simpa only [rgOff, ne_eq, Nat.add_left_cancel_iff] using h)

/-- Publishing entries changes the ring's own state and, where the DATA cause is due, RG_IRQ (R395). -/
theorem ringPublished_cases (q n : Nat) (s : State) :
    ∃ x : RingSt, ringPublished q n s = s.setRing q x ∨ ringPublished q n s = (s.setRing q x).rgIrq q 1 := by
  simp only [ringPublished]
  split
  · exact ⟨_, .inr rfl⟩
  · exact ⟨_, .inl rfl⟩

/-- Publishing entries is no matter of memory, of the checking hardware or of the tail. -/
theorem ringPublished_frame (q n : Nat) (s : State) :
    KeepsRun s (ringPublished q n s) ∧ (ringPublished q n s).mem = s.mem ∧ (ringPublished q n s).check = s.check ∧
      (ringPublished q n s).rgTail q = s.rgTail q := by
  obtain ⟨x, h | h⟩ := ringPublished_cases q n s <;> rw [h]
  · exact ⟨⟨rfl, rfl, rfl⟩, rfl, rfl, rfl⟩
  · exact ⟨⟨rfl, rfl, rfl⟩, rfl, rfl, congrArg BitVec.toNat (rg_setRg_other _ _ _ (by decide))⟩

/-- A moved tail reads as it was moved. -/
theorem moveTail_frame {q p : Nat} (hp : p < 2 ^ 32) (s : State) :
    KeepsRun s (moveTail q p s) ∧ (moveTail q p s).mem = s.mem ∧ (moveTail q p s).check = s.check ∧
      (moveTail q p s).rgTail q = p := by
  obtain ⟨hkeeps, hmem, hcheck, htail⟩ :=
    ringPublished_frame q (ringDiff (s.rgN q) p (s.rgTail q)) (s.setRg q 0x20 (wd p))
  refine ⟨hkeeps, hmem, hcheck, htail.trans ?_⟩
  rw [State.rgTail, State.rg, State.setRg, get_set_same, wd, BitVec.toNat_ofNat, Nat.mod_eq_of_lt hp]

/-- The queue of due mirror entries without its oldest. -/
def dropMirror (rest : List ErrRec) (s : State) : State := onCheck (fun k => { k with mirror := rest }) s

section
variable {s : State} {r : ErrRec} {rest : List ErrRec}

theorem mirrorEntryAt_nil (h : s.check.mirror = []) : mirrorEntryAt s = s := by
  rw [mirrorEntryAt, h]

/-- The mirror entry of the oldest record that waits for one. -/
theorem mirrorEntryAt_cons (h : s.check.mirror = r :: rest) :
    mirrorEntryAt s =
      if !s.mirrors then dropMirror rest s
      else if s.rgFull 104 then (dropMirror rest s).count .err 0x48 1
      else ringPut none 104 (eventEntry r) (dropMirror rest s) := by
  rw [mirrorEntryAt, h]
  rfl

theorem mirrorEntryAt_notDue (h : s.check.mirror = r :: rest) (hmir : s.mirrors = false) :
    mirrorEntryAt s = dropMirror rest s := by
  rw [mirrorEntryAt_cons h, hmir]
  rfl

theorem mirrorEntryAt_full (h : s.check.mirror = r :: rest) (hmir : s.mirrors = true) (hfull : s.rgFull 104 = true) :
    mirrorEntryAt s = (dropMirror rest s).count .err 0x48 1 := by
  rw [mirrorEntryAt_cons h, hmir, hfull]
  rfl

/-- A mirror entry with room reaches its slot, and the tail moves. -/
theorem ringPut_mirror (hmir : s.mirrors = true) (hroom : s.rgFull 104 = false)
    (hdram : inDramWindow (s.rgSlot 104 (s.rgTail 104)) 1 = true → s.enabled .ddrc = true) (e : List Byte) :
    ringPut none 104 e s =
      moveTail 104 ((s.rgTail 104 + 1) % (2 * s.rgN 104)) (s.storeBytes (s.rgSlot 104 (s.rgTail 104)) e) := by
  have hprod : s.rgProduces 104 = true := by
    simp only [State.mirrors, Bool.and_eq_true] at hmir
    exact hmir.1.2
  refine ringPut_room hprod hroom (if_neg ?_)
  simp only [Bool.and_eq_true, Bool.not_eq_true', not_and, Bool.not_eq_false]
  exact hdram

theorem ringPut_mirror_frame (hmir : s.mirrors = true) (hroom : s.rgFull 104 = false)
    (hdram : inDramWindow (s.rgSlot 104 (s.rgTail 104)) 1 = true → s.enabled .ddrc = true) (e : List Byte) :
    KeepsRun s (ringPut none 104 e s) ∧ (ringPut none 104 e s).mem = putBytes s.mem (s.rgSlot 104 (s.rgTail 104)) e ∧
      (ringPut none 104 e s).check = s.check ∧
      (ringPut none 104 e s).rgTail 104 = (s.rgTail 104 + 1) % (2 * s.rgN 104) := by
  have htail : (s.rgTail 104 + 1) % (2 * s.rgN 104) < 2 ^ 32 := by
    have hN := rgN_le s 104
    have hpos : 0 < s.rgN 104 := Nat.two_pow_pos _
    have := Nat.mod_lt (s.rgTail 104 + 1) (Nat.mul_pos Nat.two_pos hpos)
    omega
  rw [ringPut_mirror hmir hroom hdram]
  exact moveTail_frame htail (s.storeBytes (s.rgSlot 104 (s.rgTail 104)) e)

theorem mirrorEntryAt_writes (h : s.check.mirror = r :: rest) (hmir : s.mirrors = true) (hroom : s.rgFull 104 = false) :
    mirrorEntryAt s = ringPut none 104 (eventEntry r) (dropMirror rest s) := by
  rw [mirrorEntryAt_cons h, hmir, hroom]
  rfl

theorem mirrorEntry_idle (h : s.check.mirror = []) : Completes .mirrorEntry s (Unchanged s) :=
  completes_keeping rfl (mirrorEntryAt_nil h) ⟨rfl, rfl, rfl⟩ rfl

theorem mirrorEntry_notDue (h : s.check.mirror = r :: rest) (hmir : s.mirrors = false) :
    Completes .mirrorEntry s
      (fun t => t = { s with check := { s.check with mirror := rest }, resp := t.resp, seq := t.seq }) :=
  completes_keeping rfl (mirrorEntryAt_notDue (s := withResp Resp.init s) h hmir) ⟨rfl, rfl, rfl⟩ rfl

theorem mirrorEntry_full (h : s.check.mirror = r :: rest) (hmir : s.mirrors = true) (hfull : s.rgFull 104 = true) :
    Completes .mirrorEntry s (fun t =>
      t.getN .err 0x48 = min (s.getN .err 0x48 + 1) 0xFFFFFFFF ∧ t.check = { s.check with mirror := rest } ∧
        t.mem = s.mem ∧ SameRegs [Blk.at .err 0x48] s t) := by
  refine completes_keeping rfl (mirrorEntryAt_full (s := withResp Resp.init s) h hmir hfull) ⟨rfl, rfl, rfl⟩
    ⟨?_, rfl, rfl, fun a ha => setN_reg _ _ _ _ _ (mt List.mem_singleton.2 ha)⟩
  exact getN_count_same (dropMirror rest (withResp Resp.init s)) .err 0x48

theorem mirrorEntry_writes (h : s.check.mirror = r :: rest) (hmir : s.mirrors = true) (hroom : s.rgFull 104 = false)
    (hdram : inDramWindow (s.rgSlot 104 (s.rgTail 104)) 1 = true → s.enabled .ddrc = true) :
    Completes .mirrorEntry s (fun t =>
      t.bytes (s.rgSlot 104 (s.rgTail 104)) 16 = eventEntry r ∧ SameMem (s.rgSlot 104 (s.rgTail 104)) 16 s t ∧
        t.check = { s.check with mirror := rest } ∧ t.rgTail 104 = (s.rgTail 104 + 1) % (2 * s.rgN 104)) := by
  obtain ⟨hkeeps, hstored, hcheck, htail⟩ :=
    ringPut_mirror_frame (s := dropMirror rest (withResp Resp.init s)) hmir hroom hdram (eventEntry r)
  refine completes_keeping rfl (mirrorEntryAt_writes (s := withResp Resp.init s) h hmir hroom) hkeeps ?_
  obtain ⟨hbytes, hsame⟩ := stored_bytes_after hstored (eventEntry_length r) (s.seq + 1)
  exact ⟨hbytes, hsame, hcheck, htail⟩

end

/-! ### POP (R968, R977) -/

/-- The queue without its oldest record. -/
def dropOldest (rest : List ErrRec) (s : State) : State := onCheck (fun k => { k with queue := rest }) s

section
variable {s : State} {m : Master} {v mask : Word} {r : ErrRec} {rest : List ErrRec}

theorem errStore_pop_empty (hv : bit v 0 = true) (h : s.check.queue = []) :
    errStore m 0x4C v mask s = s.reject .err 0x4C 0x0722 := by
  change popAt m v s = _
  rw [popAt, hv, h]
  rfl

theorem errStore_pop_oldest (hv : bit v 0 = true) (h : s.check.queue = r :: rest) :
    errStore m 0x4C v mask s =
      if m = .belvedere ∧ !s.belvSec then logRecord r (dropOldest rest s) else dropOldest rest s := by
  change popAt m v s = _
  rw [popAt, hv, h]
  rfl

theorem pop_empty (ha : Applies s m .err 0x4C v mask) (hv : bit v 0 = true) (h : s.check.queue = []) :
    Completes (.pop m v) s (Rejected s m .err 0x4C 0x0722) :=
  completes_errReject rfl ha (by decide) fun u hu => errStore_pop_empty hv (hu.1 ▸ h)

theorem pop_oldest (ha : Applies s m .err 0x4C v mask) (hv : bit v 0 = true) (h : s.check.queue = r :: rest)
    (hm : m ≠ .belvedere ∨ s.belvSec = true) :
    Completes (.pop m v) s (fun t => t.check = { s.check with queue := rest } ∧ t.regs = s.regs ∧ t.mem = s.mem) := by
  have hdrop (u : State) (hu : SameCheck m s u) (hno : ¬ (m = .belvedere ∧ !u.belvSec)) :
      errStore m 0x4C v mask u = dropOldest rest u := by
    rw [errStore_pop_oldest hv (hu.1 ▸ h), if_neg hno]
  have hnotFw1 : ¬ (m = .belvedere ∧ !s.belvSec) := by
    rintro ⟨hb, hmgmt⟩
    obtain hne | hsec := hm
    · exact hne hb
    · rw [hsec] at hmgmt
      exact Bool.false_ne_true hmgmt
  refine completes_errStore rfl ha (by decide) (fun hx u hu => ?_)
    (hdrop _ (sameCheck_withResp m s Resp.init) hnotFw1) ⟨rfl, rfl, rfl⟩ ⟨rfl, rfl, rfl⟩
  rw [hdrop u hu fun ⟨hb, _⟩ => nomatch hx.symm.trans hb]
  rfl

end

/-- Registers, memory, the checking hardware and what `run` keeps are as they were. -/
def KeepsStores (s t : State) : Prop := KeepsRun s t ∧ (∀ a, t.reg a = s.reg a) ∧ t.mem = s.mem ∧ t.check = s.check

theorem KeepsStores.trans {s t u : State} (h1 : KeepsStores s t) (h2 : KeepsStores t u) : KeepsStores s u := by
  obtain ⟨hrun1, hreg1, hmem1, hcheck1⟩ := h1
  obtain ⟨hrun2, hreg2, hmem2, hcheck2⟩ := h2
  exact ⟨hrun1.trans hrun2, fun a => (hreg2 a).trans (hreg1 a), hmem2.trans hmem1, hcheck2.trans hcheck1⟩

/-- The firmware's state is none of them. -/
theorem onFw_keepsStores (f : FwSt → FwSt) (s : State) : KeepsStores s (onFw f s) :=
  ⟨⟨rfl, rfl, rfl⟩, fun _ => rfl, rfl, rfl⟩

/-- An ERROR_REPORT is a message and the note that it is outstanding (R927). -/
theorem sendReport_keepsStores (s : State) : KeepsStores s (sendReport s) := by
  unfold sendReport
  split
  · exact ⟨⟨rfl, rfl, rfl⟩, fun _ => rfl, rfl, rfl⟩
  · exact ⟨⟨rfl, rfl, rfl⟩, fun _ => rfl, rfl, rfl⟩

/-- The record's bytes in the RAM log: its slot and BELV_LOG_NEXT (R928). -/
def ramLog (bs : List Byte) (s : State) : State :=
  (s.storeBytes (logBase + 32 * (s.logNext % 4096)) bs).setN .belv 0x4C (s.logNext + 1)

theorem ramLog_frame (bs : List Byte) (s : State) :
    KeepsRun s (ramLog bs s) ∧ (ramLog bs s).mem = putBytes s.mem (logBase + 32 * (s.logNext % 4096)) bs ∧
      (ramLog bs s).check = s.check ∧ (ramLog bs s).logNext = (s.logNext + 1) % 2 ^ 32 ∧
      (ramLog bs s).logAck = s.logAck := by
  refine ⟨⟨rfl, rfl, rfl⟩, rfl, rfl, getN_setN_same _ _ _ _, ?_⟩
  rw [ramLog, State.logAck, State.getN, get_eq, setN_reg _ _ _ _ _ (by decide)]
  rfl

/-- FW1 logs a record that is not PERMANENT while the log has room: beside the RAM log, its own state and its message to
the management network change (R927, R928). -/
theorem logRecord_keepsStores {s : State} {r : ErrRec} (hopen : s.logOpen < 4096) (hen : s.enabled .ddrc = true)
    (hcls : r.cls % 8 ≠ 1) : KeepsStores (ramLog r.bytes s) (logRecord r s) := by
  have hflash : ¬ r.cls % 8 = clsPermanent := hcls
  simp only [logRecord, if_pos hopen, if_pos hen, if_neg hflash]
  exact (onFw_keepsStores _ _).trans (sendReport_keepsStores _)

/-- POP by FW1: the oldest record leaves the queue for the RAM log (R928, R977). -/
theorem pop_logged {s : State} {v mask : Word} {r : ErrRec} {rest : List ErrRec} (ha : Applies s .belvedere .err 0x4C v mask)
    (hv : bit v 0 = true) (h : s.check.queue = r :: rest) (hsec : s.belvSec = false) (hen : s.enabled .ddrc = true)
    (hopen : s.logOpen < 4096) (hcls : r.cls % 8 ≠ 1) :
    Completes (.pop .belvedere v) s (fun t =>
      t.check = { s.check with queue := rest } ∧ t.logNext = (s.logNext + 1) % 2 ^ 32 ∧ t.logAck = s.logAck ∧
        t.bytes (0x80400000 + 32 * (s.logNext % 4096)) 32 = r.bytes ∧
        SameMem (0x80400000 + 32 * (s.logNext % 4096)) 32 s t) := by
  have hpop : errStore .belvedere 0x4C v mask (withResp Resp.init s) =
      logRecord r (dropOldest rest (withResp Resp.init s)) := by
    rw [errStore_pop_oldest (s := withResp Resp.init s) hv h]
    exact if_pos ⟨rfl, congrArg (!·) hsec⟩
  obtain ⟨hrun, hmem, hcheck, hnext, hack⟩ := ramLog_frame r.bytes (dropOldest rest (withResp Resp.init s))
  obtain ⟨hrun', hreg', hmem', hcheck'⟩ :=
    logRecord_keepsStores (s := dropOldest rest (withResp Resp.init s)) hopen hen hcls
  refine completes_errStore rfl ha (by decide) nofun hpop (hrun.trans hrun') ?_
  obtain ⟨hbytes, hsame⟩ := stored_bytes_after (hmem'.trans hmem) r.bytes_length (s.seq + 1)
  exact ⟨hcheck'.trans hcheck, (congrArg BitVec.toNat (hreg' _)).trans hnext,
    (congrArg BitVec.toNat (hreg' _)).trans hack, hbytes, hsame⟩

/-! ### ERR_INJ_ARM (R972, R977) -/

/-- The injection that a write of ERR_INJ arms. -/
def injOf (v : Word) (s : State) : Inject :=
  { kind := fld v 3 0, target := fld v 15 8, nocount := bit v 18, count := fld v 23 20,
    addr := regBase + s.getF .err 0xC4 23 2 * 4 }

/-- ERR_INJ as a write stores it. -/
def storeInj (v : Word) (s : State) : State := s.set .err 0xC0 (v &&& 0xF4FF0F#32)

section
variable {s : State} {m : Master} {v mask : Word}

/-- ARM while armed (R972). -/
theorem injWrite_armed (h : s.check.armed.isSome = true) : injWrite v s = s.reject .err 0xC0 0x0721 := by
  rw [injWrite]
  exact if_pos h

/-- ARM: the fields, the kinds (R972, R977). -/
theorem injWrite_arm (h : s.check.armed = none) (hv : bit v 16 = true) :
    injWrite v s =
      let kind := fld v 3 0
      let target := fld v 15 8
      let x := injOf v s
      if kind = 0 ∨ 6 < kind then s.rejectD .err 0xC0 0x02
      else if !injRange kind target ∨ (kind = 6 ∧ fld v 23 20 = 0) ∨
          (kind = 3 ∧ !injWord s (s.getF .err 0xC4 23 2 * 4)) then
        s.rejectD .err 0xC0 0x01
      else if kind = 2 ∧ !s.pairRetired target then
        (storeInj v s).setPair target
          { s.pair target with scrMain := 0, scrChk := 1, injected := true, nocount := bit v 18 }
      else if kind = 3 then onCheck (fun k => { k with armed := some x, parity := some (x.addr, x.nocount) }) (storeInj v s)
      else onCheck (fun k => { k with armed := some x }) (storeInj v s) := by
  have harmed : ¬ s.check.armed.isSome = true := by rw [h]; exact Bool.false_ne_true
  rw [injWrite]
  simp only [if_neg harmed, hv, Bool.not_true, Bool.false_eq_true, if_false]
  rfl

/-- A refused ARM stores nothing (R972, R977; log entry 82). -/
theorem arm_refused (ha : Applies s m .err 0xC0 v mask) (hv : bit v 16 = true) (h : s.check.armed = none)
    (hbad : fld v 3 0 = 0 ∨ 7 ≤ fld v 3 0 ∨ injRange (fld v 3 0) (fld v 15 8) = false ∨
      (fld v 3 0 = 6 ∧ fld v 23 20 = 0)) :
    Completes (.errInjArm m v) s (fun t => t.check = s.check ∧ t.get .err 0xC0 = s.get .err 0xC0) := by
  have hreject : ∃ code, ∀ u, SameCheck m s u → injWrite v u = u.reject .err 0xC0 code := by
    by_cases hkind : fld v 3 0 = 0 ∨ 6 < fld v 3 0
    · exact ⟨0x0702, fun u hu => (injWrite_arm (hu.1 ▸ h) hv).trans (if_pos hkind)⟩
    · refine ⟨0x0701, fun u hu => (injWrite_arm (hu.1 ▸ h) hv).trans ((if_neg hkind).trans (if_pos ?_))⟩
      obtain hzero | hbig | hrange | hcount := hbad
      · exact absurd (.inl hzero) hkind
      · exact absurd (.inr hbig) hkind
      · exact .inl (congrArg (!·) hrange)
      · exact .inr (.inl hcount)
  obtain ⟨code, hw⟩ := hreject
  refine (completes_errReject (code := code) rfl ha (by decide) hw).imp fun t ht => ?_
  obtain ⟨hcheck, hreg⟩ := ht.keeps
  exact ⟨hcheck, hreg _ (by decide) (by decide) (by decide) (by decide)⟩

/-- A write of ERR_INJ that arms. -/
theorem arm_armed (ha : Applies s m .err 0xC0 v mask) (hv : bit v 16 = true) (h : s.check.armed = none)
    (hkind : fld v 3 0 = 1 ∨ fld v 3 0 = 4 ∨ fld v 3 0 = 5 ∨ (fld v 3 0 = 6 ∧ fld v 23 20 ≠ 0))
    (hrange : injRange (fld v 3 0) (fld v 15 8) = true) :
    Completes (.errInjArm m v) s (fun t =>
      t.check.armed.map (fun x => (x.kind, x.target, x.nocount, x.count)) =
          some (fld v 3 0, fld v 15 8, bit v 18, fld v 23 20) ∧
        t.check = { s.check with armed := t.check.armed } ∧ OnlyRegs [Blk.at .err 0xC0] s { t with check := s.check }) := by
  have harm (u : State) (hu : SameCheck m s u) :
      errStore m 0xC0 v mask u = onCheck (fun k => { k with armed := some (injOf v u) }) (storeInj v u) := by
    have hknown : ¬ (fld v 3 0 = 0 ∨ 6 < fld v 3 0) := by omega
    have hnone : ¬ (fld v 3 0 = 6 ∧ fld v 23 20 = 0) := by omega
    have hparity : fld v 3 0 ≠ 3 := by omega
    have hlatent : fld v 3 0 ≠ 2 := by omega
    change injWrite v u = _
    rw [injWrite_arm (hu.1 ▸ h) hv]
    simp only [if_neg hknown, hrange, hnone, hparity, hlatent, Bool.not_true, Bool.false_eq_true, false_and, or_false,
      if_false]
  refine completes_errStore rfl ha (by decide) (fun _ u hu => ?_) (harm _ (sameCheck_withResp m s Resp.init))
    ⟨rfl, rfl, rfl⟩ ⟨rfl, rfl, fun a hmem => ?_, rfl⟩
  · rw [harm u hu]
    exact reg_setReg_other u _ _ _ (by decide)
  · exact reg_setReg_other s _ a _ (mt List.mem_singleton.2 hmem)

/-- A pair whose checker core has another LSCRATCH (R948). -/
def latentPair (v : Word) (p : PairSt) : PairSt :=
  { p with scrMain := 0, scrChk := 1, injected := true, nocount := bit v 18 }

theorem injWrite_latentDiv (h : s.check.armed = none) (hv : bit v 16 = true) (hkind : fld v 3 0 = 2)
    (htarget : fld v 15 8 < 6) (hpair : s.pairRetired (fld v 15 8) = false) :
    injWrite v s = (storeInj v s).setPair (fld v 15 8) (latentPair v (s.pair (fld v 15 8))) := by
  have hrange : injRange 2 (fld v 15 8) = true := decide_eq_true htarget
  rw [injWrite_arm h hv]
  simp only [hkind, hrange, hpair]
  rfl

/-- LATENT_DIV fires at once (R948, R972). -/
theorem arm_latentDiv (ha : Applies s m .err 0xC0 v mask) (hv : bit v 16 = true) (h : s.check.armed = none)
    (hkind : fld v 3 0 = 2) (htarget : fld v 15 8 < 6) (hpair : s.pairRetired (fld v 15 8) = false) :
    Completes (.errInjArm m v) s (fun t =>
      (t.pair (fld v 15 8)).scrMain = 0#32 ∧ (t.pair (fld v 15 8)).scrChk = 1#32 ∧
        (t.pair (fld v 15 8)).times = (s.pair (fld v 15 8)).times ∧ t.check.armed = none ∧
        OnlyRegs [Blk.at .err 0xC0] s { t with check := s.check }) := by
  have hfire (u : State) (hu : SameCheck m s u) :
      errStore m 0xC0 v mask u = (storeInj v u).setPair (fld v 15 8) (latentPair v (u.pair (fld v 15 8))) := by
    refine injWrite_latentDiv (hu.1 ▸ h) hv hkind htarget ?_
    simp only [State.pairRetired, hu.1] at hpair ⊢
    exact hpair
  have hdone : Completes (.errInjArm m v) s (fun t =>
      t.pair (fld v 15 8) = latentPair v (s.pair (fld v 15 8)) ∧ t.check.armed = none ∧
        OnlyRegs [Blk.at .err 0xC0] s { t with check := s.check }) := by
    refine completes_errStore rfl ha (by decide) (fun _ u hu => ?_) (hfire _ (sameCheck_withResp m s Resp.init))
      ⟨rfl, rfl, rfl⟩ ⟨pair_setPair_same (storeInj v (withResp Resp.init s)) _ _, h, fun a hmem => ?_, rfl⟩
    · rw [hfire u hu]
      exact reg_setReg_other u _ _ _ (by decide)
    · exact reg_setReg_other s _ a _ (mt List.mem_singleton.2 hmem)
  refine hdone.imp fun t ht => ?_
  obtain ⟨hp, harmed, hregs⟩ := ht
  rw [hp]
  exact ⟨rfl, rfl, rfl, harmed, hregs⟩

theorem arm_whileArmed (ha : Applies s m .err 0xC0 v mask) (h : s.check.armed.isSome = true) :
    Completes (.errInjArm m v) s (Rejected s m .err 0xC0 0x0721) :=
  completes_errReject rfl ha (by decide) fun u hu => injWrite_armed (hu.1 ▸ h)

end

/-! ### The obligation -/

/-- Settles O56: ERROR_RECORD_ENTRY and RAISE_GO both enter a record by `completes_entry`; the mirror, POP and ARM are
settled case by case above. -/
theorem errorRecordsEnterLeaveAndMirror : Obligations.ErrorRecordsEnterLeaveAndMirror := by
  intro s r m v mask k q like fresh kept fits merged added dropped
  have hq : flagged s r = q := flagged_eq s r
  refine ⟨errorRecordEntry_idle, fun g h => ?enters, mirrorEntry_idle,
    fun rest h => ⟨mirrorEntry_notDue h, mirrorEntry_full h, mirrorEntry_writes h⟩,
    fun ha hv => ⟨pop_empty ha hv, fun rest h => ⟨pop_oldest ha hv h, ?logged⟩⟩,
    fun ha hv hr => ⟨fun hcls _ => raiseGo_reservedClass ha hv hr hcls, raiseGo_otherUnit ha hv hr,
      fun hcls hunit => ?raised⟩,
    fun ha hv => ⟨arm_whileArmed ha, arm_refused ha hv, arm_armed ha hv, arm_latentDiv ha hv⟩⟩
  case enters =>
    have h := completes_entry (errorRecordEntry_enters h)
    rw [hq] at h
    exact h
  case logged =>
    rintro rfl
    exact pop_logged ha hv h
  case raised =>
    have h := completes_entry (raiseGo_enters ha hv hr hcls hunit)
    rw [hq] at h
    exact h

end Sys2Proof.Machine
